-- ==== Sys2Proof/Word.lean ====
section
/-! DEFINITION. The byte of the links, the fixed rows of records, and the plain helpers over them. -/

namespace Sys2Proof

/-- One byte of a lane link (chapter 8). -/
abbrev Byte := BitVec 8

/-- Row `i` of a table of `n` records replaced by `x`. -/
def put {α : Type} {n : Nat} (v : Vector α n) (i : Fin n) (x : α) : Vector α n := v.set i.val x i.isLt

/-- A number as the position of a record in a table of `n`, where it is one. -/
def finOf (n v : Nat) : Option (Fin n) := if h : v < n then some ⟨v, h⟩ else none

end Sys2Proof
end

