-- ==== Sys2Proof/Syntax.lean ====
section
/-! DEFINITION. The commands of the ZC-24, one constructor for each row of spec/opcode_table.json, with the row's operands. -/

namespace Sys2Proof

/-- The two lanes, each with its own link (00_scope 1.1). -/
inductive Lane where
  | a
  | b
deriving DecidableEq, Repr

/-- A command: a frame, a byte or a timer event on a link, a mechanism event, a timer expiry, or one of
the three arbitrations of the table.

A frame row stands for the completion of a frame with a good check on `link` (R142, R144; log entry 4): `tag` is its
tag byte and `body` its body bytes, of any length, so that a body of the wrong length is a form of the row too (R143).
The rows that the table splits by a mark or an outcome carry the body bytes before that last byte (log entry 5). -/
inductive Instr where
  | powerOn
  | sheetAnnounce (link : Lane) (body : List Byte)
  | loadClass (link : Lane) (tag : Byte) (body : List Byte)
  | unloadClass (link : Lane) (tag : Byte) (body : List Byte)
  | lockClass (link : Lane) (tag : Byte) (body : List Byte)
  | setRosterMarkExcuse (link : Lane) (tag : Byte) (fields : List Byte)
  | setRosterMarkExpect (link : Lane) (tag : Byte) (fields : List Byte)
  | setRosterMarkRetry (link : Lane) (tag : Byte) (fields : List Byte)
  | closeClass (link : Lane) (tag : Byte) (body : List Byte)
  | loadAssignment (link : Lane) (tag : Byte) (body : List Byte)
  | loadMedia (link : Lane) (tag : Byte) (body : List Byte)
  | loadSettings (link : Lane) (tag : Byte) (body : List Byte)
  | loadBin (link : Lane) (tag : Byte) (body : List Byte)
  | laneClear (link : Lane) (tag : Byte) (body : List Byte)
  | finisherClearRetry (link : Lane) (tag : Byte) (fields : List Byte)
  | finisherClearRemoved (link : Lane) (tag : Byte) (fields : List Byte)
  | fenceSlot (link : Lane) (tag : Byte) (body : List Byte)
  | unfenceSlot (link : Lane) (tag : Byte) (body : List Byte)
  | suspendFinishing (link : Lane) (tag : Byte) (body : List Byte)
  | resumeFinishing (link : Lane) (tag : Byte) (body : List Byte)
  | purge (link : Lane) (tag : Byte) (body : List Byte)
  | readClass (link : Lane) (tag : Byte) (body : List Byte)
  | readSlot (link : Lane) (tag : Byte) (body : List Byte)
  | readBin (link : Lane) (tag : Byte) (body : List Byte)
  | readAttention (link : Lane) (tag : Byte) (body : List Byte)
  | readStatus (link : Lane) (tag : Byte) (body : List Byte)
  | badCheckFrame (link : Lane)
  | unknownKindFrame (link : Lane) (kind : Byte) (tag : Byte) (body : List Byte)
  | frameGapExpiry (link : Lane)
  | frameSent (link : Lane)
  | laneEntry (lane : Lane)
  | laneJam (lane : Lane)
  | transitTimerExpiry (lane : Lane)
  | collectionTimerExpiry (slot : Fin 24)
  | transferDone
  | jogDone
  | stapleDone
  | stapleMisfire
  | ejectDone
  | finisherJam
  | stageLimitExpiry
  | binFull (bin : Fin 17)
  | binRemoved (bin : Fin 17)
  | binReplaced (bin : Fin 17)
  | exceptionTrayEmptied
  | cartridgeInserted
  | take
  | slotGift (slot : Fin 24)
  | purgeCompletion
  | byteReceived (link : Lane) (byte : Byte)
deriving DecidableEq, Repr

end Sys2Proof
end

