-- ==== Sys2Proof/Decode.lean ====
section
/-! DEFINITION. What a word spells by the table's bits. No row of spec/opcode_table.json gives bits, so no word
spells a command (log entry 19). -/

namespace Sys2Proof

/-- The command a word of `nbits` bits spells by the bits of the opcode table: none, as no row gives bits. -/
def decodeTableWord (_nbits _w : Nat) : Option Instr := none

end Sys2Proof
end

