-- ==== Sys2Proof/Config.lean ====
section
/-! DEFINITION. The fixed numbers of the ZC-24, each from the rule named beside it. The spec leaves no result of a
command undefined, so there is no free value here. -/

namespace Sys2Proof.Config

/-- Entries an announce queue holds (R25). -/
def queueRoom : Nat := 6

/-- Frames a transmit queue holds (R147). -/
def txRoom : Nat := 128

/-- The tray threshold is the exception capacity less this (R44, R138). -/
def trayMargin : Nat := 12

/-- The start byte of every frame (R151). -/
def startByte : Byte := 0xA5#8

/-- The frame gap in milliseconds (R141). -/
def gapMs : Nat := 5

/-- Milliseconds in a tenth of a second, the step in which short limits are carried (R21). -/
def tenthMs : Nat := 100

/-- Milliseconds in a second (R21). -/
def secondMs : Nat := 1000

/-- Preset of the check register (R142). -/
def checkPreset : BitVec 16 := 0xFFFF#16

/-- The generator x^16 + x^15 + x^2 + 1 without its leading term (R142). -/
def checkGenerator : BitVec 16 := 0x8005#16

end Sys2Proof.Config
end

