-- ==== Sys2Proof/Machine/State.lean ====
section
/-! DEFINITION. Every piece of state the spec gives the ZC-24, as plain data, and its values at power-on. -/

namespace Sys2Proof.Machine

/-! ## Table Store (chapter 1) -/

/-- The key of a packet: class and rank (R51). -/
structure Key where
  cls : Nat
  rank : Nat
deriving DecidableEq, Repr

/-- The stage of a class in its run (R7). -/
inductive ClassState where
  | empty
  | loaded
  | active
  | done
deriving DecidableEq, Repr

/-- The state of a rank of a roster list (R5). -/
inductive RankState where
  | excused
  | waiting
  | opened
  | held
  | released
  | relieved
  | delivered
  | missed
deriving DecidableEq, Repr

/-- The fields of a class record that are absent in EMPTY (R2). -/
structure ClassBody where
  size : Nat
  roster : List RankState
  assignment : Fin 32
  returnBin : Fin 16
deriving DecidableEq, Repr

/-- One of the 48 class records (R2). -/
structure ClassRec where
  state : ClassState
  generation : BitVec 8
  body : Option ClassBody
  priority : Bool
  locked : Bool
  cursor : Nat
deriving DecidableEq, Repr

/-- The staple pattern of an assignment (R18). -/
inductive Pattern where
  | none
  | corner
  | side2
deriving DecidableEq, Repr

/-- The fields of a LOADED assignment record, and of a packet's snapshot (R18, R52). -/
structure Assignment where
  sheetCount : Nat
  cover : Bool
  pattern : Pattern
deriving DecidableEq, Repr

/-- The settings record; limits and the transit window in tenths of a second, the collection window in seconds (R21). -/
structure Settings where
  transitWindow : Nat
  collectionWindow : Nat
  loftPlain : Nat
  loftStapled : Nat
  scale : Nat
  staplerCapacity : Nat
  cartridgeFull : Nat
  transferLimit : Nat
  jogLimit : Nat
  stapleLimit : Nat
  ejectLimit : Nat
  exceptionCapacity : Nat
  reportLane : Lane
deriving DecidableEq, Repr

/-- The tables other than the classes: assignments, media thicknesses and settings. An EMPTY record is `none`. -/
structure Tables where
  assignments : Vector (Option Assignment) 32
  media : Vector (Option Nat) 16
  settings : Settings
deriving DecidableEq, Repr

/-! ## Lane Units (chapter 2) -/

/-- Why a lane is in FAULT (R25). -/
inductive LaneCause where
  | transit
  | jam
  | sequence
  | overrun
deriving DecidableEq, Repr

/-- The lane state; the cause is present in FAULT only (R25). -/
inductive LaneState where
  | running
  | held
  | fault (cause : LaneCause)
deriving DecidableEq, Repr

/-- Why a sheet is diverted (R160). -/
inductive Reason where
  | purging
  | noClass
  | staleGeneration
  | badRank
  | badMedia
  | rankExcused
  | rankClosed
  | rankDone
  | countMismatch
  | badIndex
  | noAssignment
  | duplicate
  | noSlot
  | unannounced
  | laneFault
deriving DecidableEq, Repr

/-- The decision recorded with an announcement (R30). -/
inductive Verdict where
  | place (slot : Fin 24)
  | unplaced
  | divert (reason : Reason)
deriving DecidableEq, Repr

/-- An entry of an announce queue (R30). The fields of the announcement stand as received. -/
structure Entry where
  jobTag : BitVec 16
  cls : Byte
  generation : Byte
  rank : Byte
  index : Byte
  media : Byte
  order : BitVec 32
  deadline : Nat
  verdict : Verdict
deriving DecidableEq, Repr

/-- The state of one Lane Unit (R25). `expected` is `none` for "any"; `transit` is the deadline the running transit timer
runs toward, or `none` when it is stopped. -/
structure LaneUnit where
  state : LaneState
  queue : List Entry
  expected : Option Byte
  counter : BitVec 32
  transit : Option Nat
deriving DecidableEq, Repr

/-! ## Staging Tower and Packet Map (chapter 3) -/

/-- The state of an occupied slot (R49). -/
inductive SlotHold where
  | collecting
  | held
  | queued
deriving DecidableEq, Repr

/-- A slot record; key and fence pending mark are present in an occupied slot only (R49). -/
inductive Slot where
  | free
  | fenced
  | occupied (hold : SlotHold) (fencePending : Bool) (key : Key)
deriving DecidableEq, Repr

/-- The flags of a packet (R53). -/
structure PacketFlags where
  disordered : Bool
  late : Bool
  relieved : Bool
  stale : Bool
  overcap : Bool
  overflowed : Bool
  removed : Bool
  purged : Bool
deriving DecidableEq, Repr

/-- A packet's collection timer, with its remaining time in milliseconds (R66). -/
inductive CollectTimer where
  | stopped
  | running (left : Nat)
  | frozen (left : Nat)
deriving DecidableEq, Repr

/-- The state of a packet (R53). -/
inductive PacketState where
  | collecting
  | held
  | queued
  | finishing
deriving DecidableEq, Repr

/-- A packet record (R52). -/
structure Packet where
  key : Key
  generation : BitVec 8
  slot : Option (Fin 24)
  snapshot : Assignment
  jobTag : BitVec 16
  nextBody : Nat
  coverReceived : Bool
  sheetsHeld : Nat
  height : Nat
  flags : PacketFlags
  timer : CollectTimer
  state : PacketState
deriving DecidableEq, Repr

/-- An entry of the unplaced list (R56). -/
structure Waiting where
  key : Key
  jobTag : BitVec 16
deriving DecidableEq, Repr

/-! ## Finishing Unit (chapter 6) -/

/-- The two finishing queues (R108). -/
inductive QueueName where
  | express
  | normal
deriving DecidableEq, Repr

/-- A queued packet: the queue it stands in and its key. State holds both queues as one list in joining order (R108). -/
structure Queued where
  queue : QueueName
  key : Key
deriving DecidableEq, Repr

/-- A stage of finishing (R114). -/
inductive Stage where
  | transfer
  | jog
  | staple
  | eject
deriving DecidableEq, Repr

/-- Why the Finishing Unit is in FAULT (R106). -/
inductive UnitCause where
  | jam
  | misfire
  | timeout
deriving DecidableEq, Repr

/-- The unit state. The running stage is present in SUSPEND_PENDING, cause and suspend mark in FAULT (R106). -/
inductive UnitState where
  | idle
  | stage (stage : Stage)
  | fault (cause : UnitCause) (suspendMark : Bool)
  | suspendPending (running : Stage)
  | suspended
deriving DecidableEq, Repr

/-- A destination fixed at the take: a bin 0 to 16, or the exception tray (R106). -/
inductive Target where
  | bin (number : Fin 17)
  | tray
deriving DecidableEq, Repr

/-- The current packet and the values fixed for it at its take (R97, R106). A tray packet has no loft (R98). -/
structure Current where
  key : Key
  target : Target
  units : Nat
  staplesNeeded : Nat
  staplesPlaced : Nat
  loft : Option Nat
deriving DecidableEq, Repr

/-- The Finishing Unit's own state (R106). `timer` is the time left of the running stage timer in milliseconds. -/
structure Finisher where
  unit : UnitState
  timer : Option Nat
  current : Option Current
  supply : Nat
deriving DecidableEq, Repr

/-! ## Bin Controller (chapter 7) -/

/-- The state of a bin (R129). -/
inductive BinState where
  | unloaded
  | ready
  | full
  | out
deriving DecidableEq, Repr

/-- The jog side of a bin (R128). -/
inductive Side where
  | left
  | right
deriving DecidableEq, Repr

/-- One of the 17 bin records (R128). -/
structure Bin where
  state : BinState
  capacity : Nat
  fill : Nat
  reserved : Nat
  jogSide : Side
deriving DecidableEq, Repr

/-! ## Links (chapter 8), Attention, Purge (chapter 9), mechanism actions (00_scope 2.2) -/

/-- The kinds of upstream frame (R151). -/
inductive UpKind where
  | reply
  | hold
  | release
  | disposition
  | sheetException
  | classDone
deriving DecidableEq, Repr

/-- An upstream frame as it waits to be sent (R147, R151). -/
structure Frame where
  kind : UpKind
  attention : Bool
  tag : Byte
  body : List Byte
deriving DecidableEq, Repr

/-- A frame receiver; in COLLECTING it holds the bytes so far, the bytes still to come and the gap timer's time left in
milliseconds (R141). -/
inductive Receiver where
  | hunt
  | collecting (bytes : List Byte) (toCome : Nat) (gap : Nat)
deriving DecidableEq, Repr

/-- The state of one link (R141, R147, R148). -/
structure Link where
  rx : Receiver
  tx : List Frame
  seq : Byte
deriving DecidableEq, Repr

/-- The Purge state; IN_PROGRESS keeps the lane and tag of the request (R162). -/
inductive PurgeState where
  | idle
  | inProgress (link : Lane) (tag : Byte)
deriving DecidableEq, Repr

/-- The offset of a delivery (R118). -/
inductive Offset where
  | left
  | right
  | centred
deriving DecidableEq, Repr

/-- An action started on the mechanism (00_scope 2.2). `divertGate` is set toward the tray or toward the tower. -/
inductive Action where
  | divertGate (lane : Lane) (toTray : Bool)
  | dumpGate (slot : Fin 24)
  | transfer (slot : Fin 24)
  | jog
  | staple (form : Pattern)
  | eject (target : Target) (offset : Offset)
deriving DecidableEq, Repr

/-! ## The machine -/

/-- All the state of the ZC-24, the time, and the queue of waiting commands.

`now` (log entry 1), `actions` (the actions the latest event started, log entry 10) and `pending` (log entry 20) are the
model's own fields. -/
structure State where
  now : Nat
  laneA : LaneUnit
  laneB : LaneUnit
  linkA : Link
  linkB : Link
  stamp : BitVec 32
  classes : Vector ClassRec 48
  tables : Tables
  slots : Vector Slot 24
  packets : List Packet
  unplaced : List Waiting
  held : List Key
  queued : List Queued
  fin : Finisher
  bins : Vector Bin 17
  tray : Nat
  flags : BitVec 12
  purge : PurgeState
  actions : List Action
  pending : List Instr
deriving DecidableEq, Repr

/-- Why a step may stop with a fault. No command of this block does: the spec describes what the block does at every
command, and its own FAULT states are states it goes on from (R26, R120). -/
inductive Fault where
  /-- Raised by no meaning; safe, as nothing answers it. -/
  | neverRaised
deriving DecidableEq, Repr

/-- Why a step may have no meaning. -/
inductive Refusal where
  /-- Raised by an arm of the dispatch whose command has no meaning yet; safe, as the step stops by name. -/
  | notModelled (mnemonic : String)
deriving DecidableEq, Repr

/-! ## Power-on values -/

/-- An EMPTY class record of generation `g` (R3). -/
def ClassRec.emptyWith (g : BitVec 8) : ClassRec :=
  { state := .empty, generation := g, body := none, priority := false, locked := false, cursor := 0 }

/-- The defaults of the settings record (R21). -/
def Settings.default : Settings :=
  { transitWindow := 20, collectionWindow := 120, loftPlain := 16, loftStapled := 20, scale := 6,
    staplerCapacity := 4000, cartridgeFull := 2000, transferLimit := 20, jogLimit := 15, stapleLimit := 10,
    ejectLimit := 30, exceptionCapacity := 250, reportLane := .a }

/-- The power-on state of a lane (R25). -/
def LaneUnit.reset : LaneUnit := { state := .running, queue := [], expected := none, counter := 0#32, transit := none }

/-- The power-on state of a link (R141, R147, R148). -/
def Link.reset : Link := { rx := .hunt, tx := [], seq := 0#8 }

/-- The power-on state of a bin (R128). -/
def Bin.reset : Bin := { state := .unloaded, capacity := 0, fill := 0, reserved := 0, jogSide := .left }

/-- The ZC-24 right after power is applied (R3, R18, R20, R21, R25, R28, R49, R51, R56, R84, R106, R128, R137, R141,
R147, R148, R153, R162), with no command waiting. -/
def State.reset : State :=
  { now := 0, laneA := .reset, laneB := .reset, linkA := .reset, linkB := .reset, stamp := 0#32,
    classes := Vector.replicate 48 (.emptyWith 0#8),
    tables := { assignments := Vector.replicate 32 none, media := Vector.replicate 16 none, settings := .default },
    slots := Vector.replicate 24 .free, packets := [], unplaced := [], held := [], queued := [],
    fin := { unit := .idle, timer := none, current := none, supply := 0 },
    bins := Vector.replicate 17 .reset, tray := 0, flags := 0#12, purge := .idle, actions := [], pending := [] }

end Sys2Proof.Machine
end

