-- ==== Sys2Proof/Machine/Ops.lean ====
section
/-! DEFINITION. The named operations over the state: one setter for each field, the records found by number, the packet
map found by key, and the start of an event. -/

namespace Sys2Proof.Machine

/-! ## One setter for each field -/

def State.setNow (s : State) (v : Nat) : State := { s with now := v }
def State.setStamp (s : State) (v : BitVec 32) : State := { s with stamp := v }
def State.setClasses (s : State) (v : Vector ClassRec 48) : State := { s with classes := v }
def State.setTables (s : State) (v : Tables) : State := { s with tables := v }
def State.setSlots (s : State) (v : Vector Slot 24) : State := { s with slots := v }
def State.setPackets (s : State) (v : List Packet) : State := { s with packets := v }
def State.setUnplaced (s : State) (v : List Waiting) : State := { s with unplaced := v }
def State.setHeld (s : State) (v : List Key) : State := { s with held := v }
def State.setQueued (s : State) (v : List Queued) : State := { s with queued := v }
def State.setFin (s : State) (v : Finisher) : State := { s with fin := v }
def State.setBins (s : State) (v : Vector Bin 17) : State := { s with bins := v }
def State.setTray (s : State) (v : Nat) : State := { s with tray := v }
def State.setFlags (s : State) (v : BitVec 12) : State := { s with flags := v }
def State.setPurge (s : State) (v : PurgeState) : State := { s with purge := v }
def State.setActions (s : State) (v : List Action) : State := { s with actions := v }
def State.setPending (s : State) (v : List Instr) : State := { s with pending := v }

/-- The Lane Unit of a lane (R25). -/
def State.lane (s : State) : Lane → LaneUnit
  | .a => s.laneA
  | .b => s.laneB

/-- The Lane Unit of a lane replaced. -/
def State.setLane (s : State) (l : Lane) (v : LaneUnit) : State :=
  match l with
  | .a => { s with laneA := v }
  | .b => { s with laneB := v }

/-- The link of a lane (chapter 8). -/
def State.link (s : State) : Lane → Link
  | .a => s.linkA
  | .b => s.linkB

/-- The link of a lane replaced. -/
def State.setLink (s : State) (l : Lane) (v : Link) : State :=
  match l with
  | .a => { s with linkA := v }
  | .b => { s with linkB := v }

/-- The other lane. -/
def otherLane : Lane → Lane
  | .a => .b
  | .b => .a

/-- The settings record as it stands (R21). -/
def State.settings (s : State) : Settings := s.tables.settings

/-! ## Events -/

/-- The start of an event: the actions list tells of the event that now begins (log entry 10). -/
def beginEvent (s : State) : State := s.setActions []

/-- An action started on the mechanism (00_scope 2.2). -/
def act (x : Action) (s : State) : State := s.setActions (s.actions ++ [x])

/-! ## Class records (R2) -/

/-- The class record of a number; a number above 47 names no record and reads as an EMPTY one (R31). -/
def State.classRec (s : State) (c : Nat) : ClassRec :=
  match finOf 48 c with
  | some i => s.classes[i.val]
  | none => .emptyWith 0#8

/-- The class record of a number replaced. -/
def State.setClassRec (s : State) (c : Nat) (r : ClassRec) : State :=
  match finOf 48 c with
  | some i => s.setClasses (put s.classes i r)
  | none => s

/-- The size of a class, 0 where it is absent (R2). -/
def ClassRec.size (r : ClassRec) : Nat :=
  match r.body with
  | some b => b.size
  | none => 0

/-- The state of a rank, where the class has that rank (R5). -/
def ClassRec.rankAt (r : ClassRec) (k : Nat) : Option RankState :=
  match r.body with
  | some b => b.roster[k]?
  | none => none

/-- A record with one rank's state replaced (R5). -/
def ClassRec.withRank (r : ClassRec) (k : Nat) (x : RankState) : ClassRec :=
  { r with body := r.body.map (fun b => { b with roster := b.roster.set k x }) }

/-- The state of the rank of a key. -/
def State.rankAt (s : State) (k : Key) : Option RankState := (s.classRec k.cls).rankAt k.rank

/-- The rank of a key given a state; the Return Order Unit makes every such change (R76). -/
def setRank (k : Key) (x : RankState) (s : State) : State :=
  s.setClassRec k.cls ((s.classRec k.cls).withRank k.rank x)

/-- A class given a stage (R7). -/
def setClassState (c : Nat) (x : ClassState) (s : State) : State :=
  s.setClassRec c { s.classRec c with state := x }

/-- A LOADED class becomes ACTIVE when work of it begins; any other stage is kept (R7). -/
def activate (c : Nat) (s : State) : State :=
  if (s.classRec c).state = .loaded then setClassState c .active s else s

/-- The assignment record a class names, where it is LOADED (R34). -/
def State.assignmentOf (s : State) (c : Nat) : Option Assignment :=
  match (s.classRec c).body with
  | some b => s.tables.assignments[b.assignment.val]
  | none => none

/-- The thickness of a media code, where its record is LOADED (R20). -/
def State.thickness (s : State) (code : Nat) : Option Nat :=
  match finOf 16 code with
  | some i => s.tables.media[i.val]
  | none => none

/-! ## The packet map (R51), held as a list of rising keys (log entry 16) -/

/-- The order of keys in the list that holds the map: by class, then by rank. -/
def Key.below (j k : Key) : Bool := decide (j.cls < k.cls) || (decide (j.cls = k.cls) && decide (j.rank < k.rank))

/-- The packet of a key (R51). -/
def State.packet (s : State) (k : Key) : Option Packet := s.packets.find? (fun p => p.key = k)

/-- A packet put at its key's place in the map. -/
def insertByKey (p : Packet) : List Packet → List Packet
  | [] => [p]
  | q :: qs => if q.key.below p.key then q :: insertByKey p qs else p :: q :: qs

/-- A packet joins the map (R51). -/
def addPacket (p : Packet) (s : State) : State := s.setPackets (insertByKey p s.packets)

/-- The packet of a key changed. -/
def updatePacket (k : Key) (f : Packet → Packet) (s : State) : State :=
  s.setPackets (s.packets.map (fun p => if p.key = k then f p else p))

/-- The packet of a key leaves the map (R51). -/
def removePacket (k : Key) (s : State) : State := s.setPackets (s.packets.filter (fun p => p.key ≠ k))

/-- The packet flags of a key's packet changed (R53). -/
def updateFlags (k : Key) (f : PacketFlags → PacketFlags) (s : State) : State :=
  updatePacket k (fun p => { p with flags := f p.flags }) s

/-! ## Slots (R49) -/

/-- The record of a slot. -/
def State.slot (s : State) (n : Fin 24) : Slot := s.slots[n.val]

/-- The record of a slot replaced. -/
def setSlot (n : Fin 24) (x : Slot) (s : State) : State := s.setSlots (put s.slots n x)

/-- The packet that occupies a slot. -/
def State.packetIn (s : State) (n : Fin 24) : Option Packet :=
  match s.slot n with
  | .occupied _ _ k => s.packet k
  | .free => none
  | .fenced => none

/-- Whether a slot is FREE. -/
def State.isFree (s : State) (n : Fin 24) : Bool := s.slot n = .free

/-- The lowest-numbered FREE slot (R54). -/
def State.lowestFree (s : State) : Option (Fin 24) := (List.finRange 24).find? (fun n => s.isFree n)

/-- The number of FREE slots (R49, R159). -/
def State.freeCount (s : State) : Nat := ((List.finRange 24).filter (fun n => s.isFree n)).length

/-- An occupied slot's state follows its packet's (R50). -/
def Slot.withHold (h : SlotHold) : Slot → Slot
  | .occupied _ pending key => .occupied h pending key
  | .free => .free
  | .fenced => .fenced

/-- The packet state that goes with an occupied slot's state (R50). -/
def SlotHold.packetState : SlotHold → PacketState
  | .collecting => .collecting
  | .held => .held
  | .queued => .queued

/-- The slot a key's packet occupies (R52). -/
def State.slotOf (s : State) (k : Key) : Option (Fin 24) :=
  match s.packet k with
  | some p => p.slot
  | none => none

/-- A packet and its slot take a state in one event (R50). -/
def movePacket (k : Key) (h : SlotHold) (s : State) : State :=
  let s1 := match s.slotOf k with
    | some n => setSlot n ((s.slot n).withHold h) s
    | none => s
  updatePacket k (fun p => { p with state := h.packetState }) s1

/-! ## Bins (R128) -/

/-- The record of a bin. -/
def State.bin (s : State) (b : Fin 17) : Bin := s.bins[b.val]

/-- The record of a bin replaced. -/
def setBin (b : Fin 17) (x : Bin) (s : State) : State := s.setBins (put s.bins b x)

/-- The bin a class returns to, where the class is loaded (R2). -/
def State.returnBin (s : State) (c : Nat) : Option (Fin 17) :=
  match (s.classRec c).body with
  | some b => some b.returnBin.castSucc
  | none => none

/-! ## Queues of the finishing station (R108) -/

/-- A packet's key joins the end of a finishing queue. -/
def joinFinishing (q : QueueName) (k : Key) (s : State) : State := s.setQueued (s.queued ++ [{ queue := q, key := k }])

/-- A packet's key leaves its finishing queue. -/
def leaveFinishing (k : Key) (s : State) : State := s.setQueued (s.queued.filter (fun q => q.key ≠ k))

/-- The entries of one queue, oldest first (R108). -/
def State.queueOf (s : State) (q : QueueName) : List Queued := s.queued.filter (fun e => e.queue = q)

/-- The queue that a class's counter priority names (R80). -/
def State.classQueue (s : State) (c : Nat) : QueueName := if (s.classRec c).priority then .express else .normal

/-! ## Lists kept by key -/

/-- A packet's key leaves the held list, from whatever place (R84). -/
def leaveHeld (k : Key) (s : State) : State := s.setHeld (s.held.filter (fun h => h ≠ k))

/-- A key leaves the unplaced list (R57). -/
def leaveUnplaced (k : Key) (s : State) : State := s.setUnplaced (s.unplaced.filter (fun u => u.key ≠ k))

/-- Whether a key is in the unplaced list (R56). -/
def State.isUnplaced (s : State) (k : Key) : Bool := s.unplaced.any (fun u => u.key = k)

/-- The key an entry names (R30). -/
def Entry.key (e : Entry) : Key := { cls := e.cls.toNat, rank := e.rank.toNat }

/-- An UNPLACED entry of a key. -/
def Entry.waitsFor (k : Key) (e : Entry) : Bool := e.key = k && e.verdict = .unplaced

/-- A PLACE entry of a key. -/
def Entry.placesFor (k : Key) (e : Entry) : Bool :=
  e.key = k && (match e.verdict with
    | .place _ => true
    | .unplaced => false
    | .divert _ => false)

/-- Whether a lane's queue holds an UNPLACED entry of a key. -/
def State.laneWaits (s : State) (k : Key) (l : Lane) : Bool := (s.lane l).queue.any (Entry.waitsFor k)

/-- Whether a lane's queue holds a PLACE entry of a key. -/
def State.lanePlaces (s : State) (k : Key) (l : Lane) : Bool := (s.lane l).queue.any (Entry.placesFor k)

/-- Whether a lane is in FAULT. -/
def LaneUnit.inFault (u : LaneUnit) : Bool :=
  match u.state with
  | .fault _ => true
  | .running => false
  | .held => false

/-- Whether either lane is in FAULT (R67). -/
def State.anyFault (s : State) : Bool := s.laneA.inFault || s.laneB.inFault

/-- A lane's queue replaced. -/
def setQueue (l : Lane) (q : List Entry) (s : State) : State := s.setLane l { s.lane l with queue := q }

/-- The transit timer runs toward the head's deadline, or stops when the queue is empty or the lane is in FAULT (R36). -/
def retime (l : Lane) (s : State) : State :=
  let u := s.lane l
  s.setLane l { u with transit := if u.inFault then none else u.queue.head?.map Entry.deadline }

end Sys2Proof.Machine
end

