-- ==== Sys2Proof/Machine/Operands.lean ====
section
/-! DEFINITION. How a request's fields stand in its body: bytes, words high byte first, small codes, clamped values (R151). -/

namespace Sys2Proof.Machine

/-- The body byte at a place, as a number. -/
def byteAt (body : List Byte) (i : Nat) : Nat := (body.getD i 0#8).toNat

/-- The two-byte field at a place, high byte first (section 8.4). -/
def wordAt (body : List Byte) (i : Nat) : Nat := byteAt body i * 256 + byteAt body (i + 1)

/-- A value brought within its range: the nearer limit replaces a value outside it (00_scope 6). -/
def clamp (lo hi v : Nat) : Nat := if v < lo then lo else if hi < v then hi else v

/-- A lane code (R151). -/
def laneOfCode : Nat → Option Lane
  | 0 => some .a
  | 1 => some .b
  | _ => none

/-- The code of a lane (R151). -/
def laneCode : Lane → Byte
  | .a => 0#8
  | .b => 1#8

/-- A staple pattern code (R151). -/
def patternOfCode : Nat → Option Pattern
  | 0 => some .none
  | 1 => some .corner
  | 2 => some .side2
  | _ => none

/-- A yes or no code: the cover value and the counter priority (R151, R9). -/
def flagOfCode : Nat → Option Bool
  | 0 => some false
  | 1 => some true
  | _ => none

/-- The rank state an expect list mark gives: 0 expected, 1 excused (R151, R10). -/
def markOfCode : Nat → Option RankState
  | 0 => some .waiting
  | 1 => some .excused
  | _ => none

/-- The rank states of the first marks of an expect list, where each mark is expected or excused (R9, R10). -/
def rosterOf : List Byte → Option (List RankState)
  | [] => some []
  | m :: ms =>
    match markOfCode m.toNat, rosterOf ms with
    | some r, some rs => some (r :: rs)
    | _, _ => none

/-- The mark of a Set Roster Mark (R13). -/
inductive RosterMark where
  | excuse
  | expect
  | retry
deriving DecidableEq, Repr

/-- A Set Roster Mark code (R151). -/
def rosterMarkOfCode : Nat → Option RosterMark
  | 0 => some .excuse
  | 1 => some .expect
  | 2 => some .retry
  | _ => none

/-- The outcome of a Finisher Clear (R121). -/
inductive ClearOutcome where
  | retry
  | removed
deriving DecidableEq, Repr

/-- A Finisher Clear outcome code (R151). -/
def outcomeOfCode : Nat → Option ClearOutcome
  | 0 => some .retry
  | 1 => some .removed
  | _ => none

/-! ## Fields of an upstream body -/

/-- A one-byte field. -/
def be8 (v : Nat) : List Byte := [BitVec.ofNat 8 v]

/-- A two-byte field, high byte first. -/
def be16 (v : Nat) : List Byte := [BitVec.ofNat 8 (v / 256), BitVec.ofNat 8 v]

/-- A four-byte field, high byte first. -/
def be32 (v : BitVec 32) : List Byte :=
  [v.extractLsb' 24 8, v.extractLsb' 16 8, v.extractLsb' 8 8, v.extractLsb' 0 8]

/-- A one-bit field, in a byte of its own. -/
def beBool (v : Bool) : List Byte := [if v then 1#8 else 0#8]

end Sys2Proof.Machine
end

