-- ==== Sys2Proof/Machine/Flags.lean ====
section
/-! DEFINITION. The twelve attention flags (R153), and the flags byte of a packet (R152). -/

namespace Sys2Proof.Machine

/-- The attention causes, ranked as in the table of R153. -/
inductive Cause where
  | laneAFault
  | laneBFault
  | finisherFault
  | exceptionTrayFull
  | binBlocked
  | staplesOut
  | slotsExhausted
  | orderRelief
  | packetStale
  | sheetDiverted
  | frameError
  | classDone
deriving DecidableEq, Repr

/-- The place of a cause's flag; its code is one more (R153, R159). -/
def Cause.bit : Cause → Nat
  | .laneAFault => 0
  | .laneBFault => 1
  | .finisherFault => 2
  | .exceptionTrayFull => 3
  | .binBlocked => 4
  | .staplesOut => 5
  | .slotsExhausted => 6
  | .orderRelief => 7
  | .packetStale => 8
  | .sheetDiverted => 9
  | .frameError => 10
  | .classDone => 11

/-- Whether a cause is pending. -/
def State.isPending (s : State) (c : Cause) : Bool := s.flags.getLsbD c.bit

/-- Raising a cause sets its flag (R153). -/
def raise (c : Cause) (s : State) : State := s.setFlags (s.flags ||| BitVec.twoPow 12 c.bit)

/-- The attention-pending bit: 1 when at least one flag is 1 (R155). -/
def State.attention (s : State) : Bool := s.flags ≠ 0#12

/-- The cause of a lane's fault (R26). -/
def laneFaultCause : Lane → Cause
  | .a => .laneAFault
  | .b => .laneBFault

/-- The place of the pending cause with the lowest code (R154). -/
def lowestPending (f : BitVec 12) : Option Nat := (List.range 12).find? (fun i => f.getLsbD i)

/-- The number of flags at 1 (R154). -/
def pendingCount (f : BitVec 12) : Nat := ((List.range 12).filter (fun i => f.getLsbD i)).length

/-- No flag set: a packet at its creation (R55). -/
def PacketFlags.clear : PacketFlags :=
  { disordered := false, late := false, relieved := false, stale := false, overcap := false, overflowed := false,
    removed := false, purged := false }

/-- The flags byte, from the least significant bit up in the order of R152. -/
def PacketFlags.code (f : PacketFlags) : Nat :=
  f.disordered.toNat + 2 * f.late.toNat + 4 * f.relieved.toNat + 8 * f.stale.toNat + 16 * f.overcap.toNat
    + 32 * f.overflowed.toNat + 64 * f.removed.toNat + 128 * f.purged.toNat

/-- Whether a packet is bound for the exception tray: it carries STALE or DISORDERED (R98). -/
def PacketFlags.trayBound (f : PacketFlags) : Bool := f.stale || f.disordered

/-- Whether a packet is delivered centred to a bin: it carries RELIEVED or LATE (R118). -/
def PacketFlags.centred (f : PacketFlags) : Bool := f.relieved || f.late

end Sys2Proof.Machine
end

