-- ==== Sys2Proof/Machine/Link.lean ====
section
/-! DEFINITION. The lane link: kinds and codes, the check, and the making and queueing of upstream frames (chapter 8). -/

namespace Sys2Proof.Machine

/-! ## Kinds and codes (R151, R146) -/

/-- The downstream kinds (R151). -/
inductive DownKind where
  | sheetAnnounce
  | loadClass
  | unloadClass
  | lockClass
  | setRosterMark
  | closeClass
  | loadAssignment
  | loadMedia
  | loadBin
  | loadSettings
  | laneClear
  | finisherClear
  | suspendFinishing
  | resumeFinishing
  | fenceSlot
  | unfenceSlot
  | purge
  | readAttention
  | readClass
  | readSlot
  | readBin
  | readStatus
deriving DecidableEq, Repr

/-- The kind code (R151). -/
def DownKind.code : DownKind → Byte
  | .sheetAnnounce => 0x01#8
  | .loadClass => 0x10#8
  | .unloadClass => 0x11#8
  | .lockClass => 0x12#8
  | .setRosterMark => 0x13#8
  | .closeClass => 0x14#8
  | .loadAssignment => 0x15#8
  | .loadMedia => 0x16#8
  | .loadBin => 0x17#8
  | .loadSettings => 0x18#8
  | .laneClear => 0x20#8
  | .finisherClear => 0x21#8
  | .suspendFinishing => 0x22#8
  | .resumeFinishing => 0x23#8
  | .fenceSlot => 0x24#8
  | .unfenceSlot => 0x25#8
  | .purge => 0x26#8
  | .readAttention => 0x30#8
  | .readClass => 0x31#8
  | .readSlot => 0x32#8
  | .readBin => 0x33#8
  | .readStatus => 0x34#8

/-- The body length of a kind (R151). -/
def DownKind.bodyLength : DownKind → Nat
  | .sheetAnnounce => 9
  | .loadClass => 45
  | .unloadClass => 1
  | .lockClass => 1
  | .setRosterMark => 3
  | .closeClass => 1
  | .loadAssignment => 4
  | .loadMedia => 3
  | .loadBin => 3
  | .loadSettings => 17
  | .laneClear => 1
  | .finisherClear => 1
  | .suspendFinishing => 0
  | .resumeFinishing => 0
  | .fenceSlot => 1
  | .unfenceSlot => 1
  | .purge => 0
  | .readAttention => 0
  | .readClass => 1
  | .readSlot => 1
  | .readBin => 1
  | .readStatus => 0

/-- All downstream kinds. -/
def DownKind.all : List DownKind :=
  [.sheetAnnounce, .loadClass, .unloadClass, .lockClass, .setRosterMark, .closeClass, .loadAssignment, .loadMedia,
    .loadBin, .loadSettings, .laneClear, .finisherClear, .suspendFinishing, .resumeFinishing, .fenceSlot, .unfenceSlot,
    .purge, .readAttention, .readClass, .readSlot, .readBin, .readStatus]

/-- The downstream kind a kind byte names, if it names one (R143). -/
def DownKind.ofCode (b : Byte) : Option DownKind := DownKind.all.find? (fun k => k.code = b)

/-- The kind code of an upstream frame, in the low seven bits (R151). -/
def UpKind.code : UpKind → Byte
  | .reply => 0x41#8
  | .hold => 0x42#8
  | .release => 0x43#8
  | .disposition => 0x44#8
  | .sheetException => 0x45#8
  | .classDone => 0x46#8

/-- The reports, which a full transmit queue discards first (R149). -/
def UpKind.isReport : UpKind → Bool
  | .disposition => true
  | .sheetException => true
  | .classDone => true
  | .reply => false
  | .hold => false
  | .release => false

/-- The reply codes (R146, R151). -/
inductive ReplyCode where
  | ok
  | okClamped
  | field
  | protectedState
  | state
  | kind
  | length
deriving DecidableEq, Repr

/-- The byte of a reply code (R151). -/
def ReplyCode.code : ReplyCode → Byte
  | .ok => 0#8
  | .okClamped => 1#8
  | .field => 2#8
  | .protectedState => 3#8
  | .state => 4#8
  | .kind => 5#8
  | .length => 6#8

/-! ## The check (R142) -/

/-- The check register after one more bit is fed in. -/
def checkBit (reg : BitVec 16) (bit : Bool) : BitVec 16 :=
  if reg.msb ^^ bit then (reg <<< 1) ^^^ Config.checkGenerator else reg <<< 1

/-- The check register after one more byte, most significant bit first (R142). -/
def checkByte (reg : BitVec 16) (b : Byte) : BitVec 16 :=
  [7, 6, 5, 4, 3, 2, 1, 0].foldl (fun r i => checkBit r (b.getLsbD i)) reg

/-- The check over kind, tag, length and body, from a register of all ones, not inverted at the end (R142). -/
def checkOf (bytes : List Byte) : BitVec 16 := bytes.foldl checkByte Config.checkPreset

/-- The two check bytes, high byte first (R142). -/
def checkBytes (bytes : List Byte) : List Byte := [(checkOf bytes).extractLsb' 8 8, (checkOf bytes).extractLsb' 0 8]

/-- The bytes of a frame: start byte, kind, tag, length, body, check (R151). -/
def envelope (kind tag : Byte) (body : List Byte) : List Byte :=
  let inner := kind :: tag :: BitVec.ofNat 8 body.length :: body
  Config.startByte :: inner ++ checkBytes inner

/-- The kind byte of an upstream frame, with the attention-pending flag in its most significant bit (R151, R155). -/
def Frame.kindByte (f : Frame) : Byte := if f.attention then f.kind.code ||| 0x80#8 else f.kind.code

/-- The bytes of an upstream frame on the line (R147, R151). -/
def Frame.bytes (f : Frame) : List Byte := envelope f.kindByte f.tag f.body

/-! ## Sending (R147 to R150) -/

/-- The newest frame that satisfies a test taken out of a queue. -/
def dropNewest (p : Frame → Bool) (tx : List Frame) : List Frame := (tx.reverse.eraseP p).reverse

/-- A Hold or a Release meets a full transmit queue: the newest report makes room, else the newest Reply, else the newest
Hold or Release goes and the new frame with it (R149). Every queued frame counts as waiting, the oldest too (log entry
23). -/
def displace (f : Frame) (tx : List Frame) : List Frame :=
  if tx.any (fun g => g.kind.isReport) then dropNewest (fun g => g.kind.isReport) tx ++ [f]
  else if tx.any (fun g => g.kind = .reply) then dropNewest (fun g => g.kind = .reply) tx ++ [f]
  else tx.dropLast

/-- A frame joins the end of a transmit queue, or meets a full one (R147, R149). -/
def joinTx (f : Frame) (tx : List Frame) : List Frame :=
  if tx.length < Config.txRoom then tx ++ [f]
  else
    match f.kind with
    | .hold => displace f tx
    | .release => displace f tx
    | .reply => tx
    | .disposition => tx
    | .sheetException => tx
    | .classDone => tx

/-- A Reply is made for a link: the request's tag, the code, the kind byte as received, a query's data (R145, R152). The
attention-pending bit is read as the frame joins its queue (R155), and the upstream sequence number stays (R148). -/
def reply (l : Lane) (tag : Byte) (code : ReplyCode) (kind : Byte) (data : List Byte) (s : State) : State :=
  let k := s.link l
  let f : Frame := { kind := .reply, attention := s.attention, tag := tag, body := code.code :: kind :: data }
  s.setLink l { k with tx := joinTx f k.tx }

/-- A frame that is not a Reply is made for a link: it takes the upstream sequence number, which increases by 1 modulo
256 whether or not the frame is queued (R148, R149). -/
def sendUnsolicited (l : Lane) (kind : UpKind) (body : List Byte) (s : State) : State :=
  let k := s.link l
  let f : Frame := { kind := kind, attention := s.attention, tag := k.seq, body := body }
  s.setLink l { k with tx := joinTx f k.tx, seq := k.seq + 1#8 }

/-- A report is made on the report lane as the settings name it now (R150). -/
def sendReport (kind : UpKind) (body : List Byte) (s : State) : State :=
  sendUnsolicited s.settings.reportLane kind body s

/-- A link's frame receiver replaced (R141). -/
def setRx (l : Lane) (r : Receiver) (s : State) : State := s.setLink l { s.link l with rx := r }

/-- The start of the event in which a frame is completed on a link: its receiver returns to HUNT (R141; log entry 4). -/
def frameCompleted (l : Lane) (s : State) : State := setRx l .hunt (beginEvent s)

/-- The destination byte of a target (R152). -/
def Target.code : Target → Nat
  | .bin b => b.val
  | .tray => 17

/-- The body of a Disposition (R126, R152). -/
def dispositionBody (p : Packet) (destination staples units : Nat) (stamp : BitVec 32) : List Byte :=
  be8 p.key.cls ++ [p.generation] ++ be8 p.key.rank ++ be16 p.jobTag.toNat ++ be8 destination ++ be8 p.flags.code
    ++ be8 staples ++ be8 p.sheetsHeld ++ be16 units ++ be32 stamp

/-- A Disposition is sent for a packet on the report lane, with the sheet stamp of this event (R126). -/
def sendDisposition (p : Packet) (destination staples units : Nat) (s : State) : State :=
  sendReport .disposition (dispositionBody p destination staples units s.stamp) s

/-- The code of a divert reason (R160). -/
def Reason.code : Reason → Nat
  | .purging => 1
  | .noClass => 2
  | .staleGeneration => 3
  | .badRank => 4
  | .badMedia => 5
  | .rankExcused => 6
  | .rankClosed => 7
  | .rankDone => 8
  | .countMismatch => 9
  | .badIndex => 10
  | .noAssignment => 11
  | .duplicate => 12
  | .noSlot => 13
  | .unannounced => 14
  | .laneFault => 15

/-- The entry fields of a Sheet Exception: entry present, job tag, class, generation, rank, index, announce order number,
or zeros where the sheet popped no entry (R160). -/
def entryFields : Option Entry → List Byte
  | some e => [1#8] ++ be16 e.jobTag.toNat ++ [e.cls, e.generation, e.rank, e.index] ++ be32 e.order
  | none => List.replicate 11 0#8

/-- The body of a Sheet Exception (R160). -/
def sheetExceptionBody (l : Lane) (r : Reason) (stamp : BitVec 32) (e : Option Entry) : List Byte :=
  [laneCode l] ++ be8 r.code ++ be32 stamp ++ entryFields e

/-- The number of ranks of a class in a state. -/
def ClassRec.countOf (r : ClassRec) (x : RankState) : Nat :=
  match r.body with
  | some b => (b.roster.filter (fun y => y = x)).length
  | none => 0

/-- The body of a Class Done report (R161). -/
def classDoneBody (c : Nat) (r : ClassRec) (stamp : BitVec 32) : List Byte :=
  be8 c ++ [r.generation] ++ be8 r.size ++ be8 (r.countOf .delivered) ++ be8 (r.countOf .relieved)
    ++ be8 (r.countOf .missed) ++ be8 (r.countOf .excused) ++ be32 stamp

end Sys2Proof.Machine
end

