-- ==== Sys2Proof/Machine/Budget.lean ====
section
/-! DEFINITION. The Height and Budget Unit: staple decision, loft, bin units and the bin room test (chapter 5). -/

namespace Sys2Proof.Machine

/-- What one evaluation works out for a packet (R97). -/
structure Budget where
  staplesNeeded : Nat
  overcap : Bool
  loft : Option Nat
  units : Nat
deriving DecidableEq, Repr

/-- The staples of a pattern (R99). -/
def Pattern.staples : Pattern → Nat
  | .none => 0
  | .corner => 1
  | .side2 => 2

/-- Whether a packet's height is over the stapler's capacity while its pattern calls for a staple (R99). -/
def overcapacity (t : Settings) (p : Packet) : Bool :=
  decide (p.snapshot.pattern ≠ .none) && decide (t.staplerCapacity < p.height)

/-- The staples a packet bound for a bin needs (R99). -/
def staplesFor (t : Settings) (p : Packet) : Nat := if overcapacity t p then 0 else p.snapshot.pattern.staples

/-- The loft a packet bound for a bin takes (R101). -/
def loftFor (t : Settings) (p : Packet) : Nat := if staplesFor t p = 0 then t.loftPlain else t.loftStapled

/-- Bin units: the product shifted right by 4 + scale places, and 1 more where a bit shifted out is not 0 (R102). -/
def binUnits (height loft scale : Nat) : Nat :=
  (height * loft) >>> (4 + scale) + (if (height * loft) % 2 ^ (4 + scale) = 0 then 0 else 1)

/-- The budget of a packet under the settings as they stand (R97, R98). -/
def budgetOf (t : Settings) (p : Packet) : Budget :=
  if p.flags.trayBound then { staplesNeeded := 0, overcap := false, loft := none, units := 0 }
  else
    { staplesNeeded := staplesFor t p, overcap := overcapacity t p, loft := some (loftFor t p),
      units := binUnits p.height (loftFor t p) t.scale }

/-- A bin that is READY and has room for a number of units (R103, R111). -/
def Bin.canTake (b : Bin) (units : Nat) : Bool :=
  decide (b.state = .ready) && decide (b.fill + b.reserved + units ≤ b.capacity)

end Sys2Proof.Machine
end

