-- ==== Sys2Proof/Machine/Holds.lean ====
section
/-! DEFINITION. Hold conditions (R44), the exception tray count (R137, R138), a lane's entry into FAULT (R26), and the
freezing of collection timers (R67). -/

namespace Sys2Proof.Machine

/-! ## Hold conditions -/

/-- The tray threshold: the exception capacity less 12 (R138). -/
def State.trayThreshold (s : State) : Nat := s.settings.exceptionCapacity - Config.trayMargin

/-- Whether a Purge is in progress (R162). -/
def State.purging (s : State) : Bool :=
  match s.purge with
  | .inProgress _ _ => true
  | .idle => false

/-- Whether some hold condition of a lane holds (R44). -/
def State.holdCondition (s : State) (l : Lane) : Bool :=
  let u := s.lane l
  decide (Config.queueRoom ≤ u.queue.length)
    || u.queue.any (fun e => e.verdict = .unplaced)
    || decide (s.trayThreshold ≤ s.tray)
    || s.purging
    || u.inFault

/-- The lane state replaced. -/
def setLaneState (l : Lane) (x : LaneState) (s : State) : State := s.setLane l { s.lane l with state := x }

/-- A Lane Unit evaluates its hold conditions (R44). -/
def evalHold (l : Lane) (s : State) : State :=
  match (s.lane l).state with
  | .running => if s.holdCondition l then sendUnsolicited l .hold [] (setLaneState l .held s) else s
  | .held => if s.holdCondition l then s else sendUnsolicited l .release [] (setLaneState l .running s)
  | .fault _ => s

/-- Both Lane Units evaluate their hold conditions; their frames go on different links (R44). -/
def evalHolds (s : State) : State := evalHold .b (evalHold .a s)

/-! ## Exception tray -/

/-- Sheets are added to the exception tray count, which is compared with its threshold (R138; log entry 9). -/
def addTray (n : Nat) (s : State) : State :=
  let s1 := s.setTray (s.tray + n)
  if s.trayThreshold ≤ s1.tray then
    let s2 := raise .exceptionTrayFull s1
    if s.trayThreshold ≤ s.tray then s2 else evalHolds s2
  else s1

/-! ## Collection timers -/

/-- A running timer becomes frozen, its remaining time kept (R67). -/
def CollectTimer.freeze : CollectTimer → CollectTimer
  | .running t => .frozen t
  | .frozen t => .frozen t
  | .stopped => .stopped

/-- A frozen timer runs again from its kept remaining time (R67). -/
def CollectTimer.thaw : CollectTimer → CollectTimer
  | .frozen t => .running t
  | .running t => .running t
  | .stopped => .stopped

/-- Every packet's collection timer changed. -/
def mapTimers (f : CollectTimer → CollectTimer) (s : State) : State :=
  s.setPackets (s.packets.map (fun p => { p with timer := f p.timer }))

/-! ## Entry into FAULT -/

/-- A RUNNING or HELD lane enters FAULT (R26): cause, timer, attention, Hold where the lane was RUNNING; the collection
timers freeze (R67); while a Purge is in progress the queue is emptied at once (R47). -/
def enterFault (l : Lane) (c : LaneCause) (s : State) : State :=
  let u := s.lane l
  let q := if s.purging then [] else u.queue
  let s1 := s.setLane l { u with state := .fault c, transit := none, queue := q }
  let s2 := raise (laneFaultCause l) s1
  let s3 := if u.state = .running then sendUnsolicited l .hold [] s2 else s2
  mapTimers CollectTimer.freeze s3

end Sys2Proof.Machine
end

