-- ==== Sys2Proof/Machine/Order.lean ====
section
/-! DEFINITION. The Return Order Unit's shared operations: release, cursor advance, done condition, completion, relief
(chapter 4). -/

namespace Sys2Proof.Machine

/-- The cursor of a class moved up by one (R79). -/
def bumpCursor (c : Nat) (s : State) : State :=
  s.setClassRec c { s.classRec c with cursor := (s.classRec c).cursor + 1 }

/-- A HELD packet is released (R80): RELEASED, out of the held list, QUEUED, at the end of its class's queue. -/
def release (k : Key) (s : State) : State :=
  joinFinishing (s.classQueue k.cls) k (movePacket k .queued (leaveHeld k (setRank k .released s)))

/-- The cursor advance of a class (R79), in at most `fuel` steps; the size of the class is enough. -/
def advance (c : Nat) : Nat → State → State
  | 0, s => s
  | fuel + 1, s =>
    let r := s.classRec c
    match r.rankAt r.cursor with
    | some .excused => advance c fuel (bumpCursor c s)
    | some .missed => advance c fuel (bumpCursor c s)
    | some .relieved => advance c fuel (bumpCursor c s)
    | some .held => advance c fuel (bumpCursor c (release { cls := c, rank := r.cursor } s))
    | some .waiting => s
    | some .opened => s
    | some .released => s
    | some .delivered => s
    | none => s

/-- The cursor advance of a class, run once (R78, R79). -/
def cursorAdvance (c : Nat) (s : State) : State := advance c (s.classRec c).size s

/-- The done condition of a class (R8). -/
def State.doneCondition (s : State) (c : Nat) : Bool :=
  let r := s.classRec c
  decide (r.cursor = r.size) && !(s.packets.any (fun p => p.key.cls = c)) && decide (r.countOf .waiting = 0)

/-- An ACTIVE class whose done condition holds becomes DONE, with its report and then its cause (R8, R94). -/
def doneCheck (c : Nat) (s : State) : State :=
  if (s.classRec c).state = .active && s.doneCondition c then
    let s1 := setClassState c .done s
    raise .classDone (sendReport .classDone (classDoneBody c (s1.classRec c) s1.stamp) s1)
  else s

/-- What follows a change of rank state of a class: the cursor advance, then the done condition (R78, steps 1 and 2). -/
def orderStep (c : Nat) (s : State) : State := doneCheck c (cursorAdvance c s)

/-- A completed packet without DISORDERED is handed to the Return Order Unit: a late packet below the cursor (R83), HELD
otherwise, with the advance that follows (R82). -/
def handCompleted (k : Key) (s : State) : State :=
  if k.rank < (s.classRec k.cls).cursor then
    let s1 := setRank k .relieved (updateFlags k (fun f => { f with late := true }) s)
    orderStep k.cls (joinFinishing (s.classQueue k.cls) k (movePacket k .queued s1))
  else
    let s1 := movePacket k .held (setRank k .held s)
    orderStep k.cls (s1.setHeld (s1.held ++ [k]))

/-- A packet bound for the exception tray is queued: QUEUED, at the end of the normal queue, its rank MISSED, and the
advance that follows (R65, R69, R90). -/
def queueForTray (k : Key) (s : State) : State :=
  orderStep k.cls (setRank k .missed (joinFinishing .normal k (movePacket k .queued s)))

/-! ## Relief -/

/-- Whether the current packet's transfer done has yet to be received: its slot field is still present (R73, R106). -/
def State.awaitsTransfer (s : State) : Bool :=
  match s.fin.current with
  | some c => (s.slotOf c.key).isSome
  | none => false

/-- The five conditions of relief (R85). -/
def State.reliefCondition (s : State) : Bool :=
  !s.unplaced.isEmpty && s.lowestFree.isNone && s.queued.isEmpty && !s.awaitsTransfer && !s.held.isEmpty

/-- The packet that has been held longest is sent out of roster order (R87). -/
def relieve (k : Key) (s : State) : State :=
  let s1 := updateFlags k (fun f => { f with relieved := true }) s
  let s2 := movePacket k .queued (setRank k .relieved (leaveHeld k s1))
  orderStep k.cls (raise .orderRelief (joinFinishing (s.classQueue k.cls) k s2))

/-- The relief condition is evaluated, and relief performed where it holds (R86, R87). -/
def tryRelief (s : State) : State :=
  if s.reliefCondition then
    match s.held with
    | k :: _ => relieve k s
    | [] => s
  else s

end Sys2Proof.Machine
end

