-- ==== Sys2Proof/Machine/Tower.lean ====
section
/-! DEFINITION. The Staging Tower's shared operations: creation, the allocator, freeing, dropping, placing, staleness
(chapter 3). -/

namespace Sys2Proof.Machine

/-! ## Creation and the allocator -/

/-- The record of a new packet (R55). -/
def newPacket (k : Key) (generation : BitVec 8) (n : Fin 24) (a : Assignment) (jobTag : BitVec 16) : Packet :=
  { key := k, generation := generation, slot := some n, snapshot := a, jobTag := jobTag,
    nextBody := if a.cover then 2 else 1, coverReceived := false, sheetsHeld := 0, height := 0, flags := .clear,
    timer := .stopped, state := .collecting }

/-- A packet is created in a slot in one event with its allotment: the rank becomes OPEN and a LOADED class ACTIVE (R55). -/
def createPacket (k : Key) (n : Fin 24) (a : Assignment) (jobTag : BitVec 16) (s : State) : State :=
  let s1 := addPacket (newPacket k (s.classRec k.cls).generation n a jobTag) s
  let s2 := setSlot n (.occupied .collecting false k) s1
  orderStep k.cls (activate k.cls (setRank k .opened s2))

/-- An UNPLACED entry of a key becomes PLACE with a slot; other entries stay (R35). -/
def Entry.given (k : Key) (n : Fin 24) (e : Entry) : Entry := if e.waitsFor k then { e with verdict := .place n } else e

/-- A lane's UNPLACED entries of a key become PLACE with a slot; a lane that had one evaluates its hold conditions (R35). -/
def giveLane (k : Key) (n : Fin 24) (l : Lane) (s : State) : State :=
  if s.laneWaits k l then evalHold l (setQueue l ((s.lane l).queue.map (Entry.given k n)) s) else s

/-- The allocator gives a FREE slot to the first unplaced key (R59). The slot stays FREE where no key waits; it also stays
so where the key's class names no LOADED assignment, which R55 excludes (log entry 11). -/
def allocate (n : Fin 24) (s : State) : State :=
  match s.unplaced with
  | [] => s
  | u :: rest =>
    match s.assignmentOf u.key.cls with
    | some a => giveLane u.key n .b (giveLane u.key n .a (createPacket u.key n a u.jobTag (s.setUnplaced rest)))
    | none => s

/-- A slot frees: FENCED where a fence is pending, FREE with the allocator run otherwise (R58). -/
def freeSlot (n : Fin 24) (s : State) : State :=
  match s.slot n with
  | .occupied _ pending _ => if pending then setSlot n .fenced s else allocate n (setSlot n .free s)
  | .free => s
  | .fenced => s

/-- The packet of a key leaves its slot, and the slot frees (R73). -/
def leaveSlot (k : Key) (s : State) : State :=
  match s.slotOf k with
  | some n => freeSlot n (updatePacket k (fun p => { p with slot := none }) s)
  | none => s

/-- A packet that has received no sheet is dropped: out of the map, its slot frees, its rank back to WAITING (R70). -/
def dropPacket (k : Key) (n : Fin 24) (s : State) : State :=
  orderStep k.cls (setRank k .waiting (freeSlot n (removePacket k s)))

/-- A packet with no sheet in it: COLLECTING, no cover, none held (R46, R70). -/
def Packet.untouched (p : Packet) : Bool :=
  decide (p.state = .collecting) && !p.coverReceived && decide (p.sheetsHeld = 0)

/-! ## Placing a sheet -/

/-- What the tower decides about a sheet: the packet with the sheet in it, or a refusal as a duplicate. -/
inductive Placement where
  | placed (p : Packet)
  | refused
deriving DecidableEq, Repr

/-- A cover sheet is decided by the cover pocket (R61), a body sheet by the next body index (R62). -/
def decidePlacement (p : Packet) (index : Nat) : Placement :=
  if p.snapshot.cover && decide (index = 1) then
    if p.coverReceived then .refused else .placed { p with coverReceived := true }
  else if p.snapshot.sheetCount < index then .refused
  else if index = p.nextBody then .placed { p with nextBody := index + 1 }
  else if index < p.nextBody then .refused
  else .placed { p with nextBody := index + 1, flags := { p.flags with disordered := true } }

/-- The timer a placed sheet leaves: the full window, FROZEN while either lane is in FAULT (R66). -/
def State.freshTimer (s : State) : CollectTimer :=
  let t := s.settings.collectionWindow * Config.secondMs
  if s.anyFault then .frozen t else .running t

/-- A placed sheet is counted in its packet (R63). -/
def Packet.withSheet (p : Packet) (thickness : Nat) (timer : CollectTimer) : Packet :=
  { p with sheetsHeld := p.sheetsHeld + 1, height := p.height + thickness, timer := timer }

/-- The completion test (R64). -/
def Packet.isComplete (p : Packet) : Bool :=
  decide (p.snapshot.sheetCount < p.nextBody) && (!p.snapshot.cover || p.coverReceived)

/-- A placed sheet's packet is kept, tested for completion and, where complete, handed on (R63, R64, R65). -/
def settlePlaced (p : Packet) (s : State) : State :=
  if p.isComplete then
    let s1 := updatePacket p.key (fun _ => { p with timer := .stopped }) s
    if p.flags.disordered then queueForTray p.key s1 else handCompleted p.key s1
  else updatePacket p.key (fun _ => p) s

/-! ## Staleness -/

/-- Whether a collection timer is running. -/
def CollectTimer.isRunning : CollectTimer → Bool
  | .running _ => true
  | .frozen _ => false
  | .stopped => false

/-- A packet becomes stale (R69). -/
def becomeStale (k : Key) (s : State) : State :=
  let s1 := updatePacket k (fun p => { p with timer := .stopped, flags := { p.flags with stale := true } }) s
  raise .packetStale (queueForTray k s1)

end Sys2Proof.Machine
end

