-- ==== Sys2Proof/Machine/Select.lean ====
section
/-! DEFINITION. The Finishing Unit's selection arbiter, the take, and the stages (chapter 6). -/

namespace Sys2Proof.Machine

/-! ## The unit's stages -/

/-- The stage that runs: the unit's own, or SUSPEND_PENDING's running stage (R107). -/
def UnitState.running : UnitState → Option Stage
  | .stage g => some g
  | .suspendPending g => some g
  | .idle => none
  | .fault _ _ => none
  | .suspended => none

/-- The unit goes on to a stage; SUSPEND_PENDING stays so (R107). -/
def UnitState.toStage (u : UnitState) (g : Stage) : UnitState :=
  match u with
  | .suspendPending _ => .suspendPending g
  | .idle => .stage g
  | .stage _ => .stage g
  | .fault _ _ => .stage g
  | .suspended => .stage g

/-- The limit of a stage in milliseconds (R114, R21). -/
def State.stageLimit (s : State) (g : Stage) : Nat :=
  (match g with
    | .transfer => s.settings.transferLimit
    | .jog => s.settings.jogLimit
    | .staple => s.settings.stapleLimit
    | .eject => s.settings.ejectLimit) * Config.tenthMs

/-- The unit state replaced. -/
def setUnit (u : UnitState) (s : State) : State := s.setFin { s.fin with unit := u }

/-- The current packet and its fixed values replaced (R106). -/
def setCurrent (c : Option Current) (s : State) : State := s.setFin { s.fin with current := c }

/-- The staple supply replaced (R125). -/
def setSupply (n : Nat) (s : State) : State := s.setFin { s.fin with supply := n }

/-- The stage timer stops (R114). -/
def stopStageTimer (s : State) : State := s.setFin { s.fin with timer := none }

/-- A stage is entered and its timer started with the limit read now (R114). -/
def startStage (g : Stage) (s : State) : State :=
  s.setFin { s.fin with unit := s.fin.unit.toStage g, timer := some (s.stageLimit g) }

/-- The offset of an eject (R118); centred for a packet that is not in the packet map (log entry 11). -/
def State.ejectOffset (s : State) (c : Current) : Offset :=
  match c.target with
  | .tray => .centred
  | .bin b =>
    match s.packet c.key with
    | some p =>
      if p.flags.centred then .centred
      else
        match (s.bin b).jogSide with
        | .left => .left
        | .right => .right
    | none => .centred

/-- TRANSFER starts: the shuttle is started from the packet's slot (R113, R121). -/
def enterTransfer (k : Key) (s : State) : State :=
  let s1 := match s.slotOf k with
    | some n => act (.transfer n) s
    | none => s
  startStage .transfer s1

/-- JOG starts (R115). -/
def enterJog (s : State) : State := startStage .jog (act .jog s)

/-- One staple is fired in the form of the packet's pattern, and the staple limit starts (R117); no action is started for a packet
that is not in the packet map (log entry 11). -/
def fireStaple (c : Current) (s : State) : State :=
  let s1 := match s.packet c.key with
    | some p => act (.staple p.snapshot.pattern) s
    | none => s
  startStage .staple s1

/-- EJECT starts toward the target (R118). -/
def enterEject (c : Current) (s : State) : State := startStage .eject (act (.eject c.target (s.ejectOffset c)) s)

/-! ## The selection pass -/

/-- What a pass finds of a packet: passed over, blocked with a cause, or eligible for a target. -/
inductive Exam where
  | passedOver
  | blocked (cause : Cause)
  | eligible (target : Target) (b : Budget)
deriving DecidableEq, Repr

/-- The order condition (R110): bound for the tray, or the oldest entry of its class in the queues. -/
def State.orderPasses (s : State) (q : Queued) (p : Packet) : Bool :=
  p.flags.trayBound || decide (s.queued.find? (fun e => e.key.cls = q.key.cls) = some q)

/-- The destination of a packet now, if some destination can receive it (R111). -/
def State.destination (s : State) (p : Packet) (units : Nat) : Option Target :=
  if p.flags.trayBound then
    if s.tray + p.sheetsHeld ≤ s.settings.exceptionCapacity then some .tray else none
  else
    match s.returnBin p.key.cls with
    | some b =>
      if (s.bin b).canTake units then some (.bin b)
      else if (s.bin 16).canTake units then some (.bin 16)
      else none
    | none => if (s.bin 16).canTake units then some (.bin 16) else none

/-- The cause raised where no destination can receive a packet (R111, R138). -/
def blockedCause (p : Packet) : Cause := if p.flags.trayBound then .exceptionTrayFull else .binBlocked

/-- One packet tested against the order, destination and staples conditions, in that order (R109 to R112). -/
def examine (q : Queued) (s : State) : Exam :=
  match s.packet q.key with
  | none => .passedOver
  | some p =>
    if s.orderPasses q p then
      let b := budgetOf s.settings p
      match s.destination p b.units with
      | none => .blocked (blockedCause p)
      | some t => if b.staplesNeeded ≤ s.fin.supply then .eligible t b else .blocked .staplesOut
    else .passedOver

/-- Units reserved in a target bin; nothing for the tray (R113, step 4). -/
def reserve (t : Target) (units : Nat) (s : State) : State :=
  match t with
  | .bin b => setBin b { s.bin b with reserved := (s.bin b).reserved + units } s
  | .tray => s

/-- Units of a target bin's reservation given back (R122, R131). -/
def unreserve (t : Target) (units : Nat) (s : State) : State :=
  match t with
  | .bin b => setBin b { s.bin b with reserved := (s.bin b).reserved - units } s
  | .tray => s

/-- The take of a packet (R113). -/
def takePacket (k : Key) (t : Target) (b : Budget) (s : State) : State :=
  let c : Current := { key := k, target := t, units := b.units, staplesNeeded := b.staplesNeeded, staplesPlaced := 0,
                       loft := b.loft }
  let s1 := updateFlags k (fun f => { f with overcap := f.overcap || b.overcap,
                                             overflowed := f.overflowed || decide (t = .bin 16) }) s
  let s2 := reserve t b.units s1
  let s3 := setCurrent (some c) (updatePacket k (fun p => { p with state := .finishing }) (leaveFinishing k s2))
  let s4 := enterTransfer k s3
  if s4.queued.isEmpty then tryRelief s4 else s4

/-- A pass over a list of candidates: causes of blocked packets are raised, the first eligible packet is taken (R109). -/
def selectFrom : List Queued → State → State
  | [], s => s
  | q :: rest, s =>
    match examine q s with
    | .passedOver => selectFrom rest s
    | .blocked c => selectFrom rest (raise c s)
    | .eligible t b => takePacket q.key t b s

/-- The arbiter's selection pass, made in IDLE: the express queue, then the normal queue, each from its oldest entry (R109). -/
def selectionPass (s : State) : State :=
  if s.fin.unit = .idle then selectFrom (s.queueOf .express ++ s.queueOf .normal) s else s

end Sys2Proof.Machine
end

