-- ==== Sys2Proof/Machine/Settle.lean ====
section
/-! DEFINITION. The end of an event: relief on its occasions (R86), the Purge's completion test (R163), and the selection
pass (R109), in that order (log entry 6). -/

namespace Sys2Proof.Machine

/-- Whether every slot is FREE or FENCED: the tower's part of Purge completion (R75). -/
def Slot.isEmpty : Slot → Bool
  | .free => true
  | .fenced => true
  | .occupied _ _ _ => false

/-- Whether both parts of Purge completion are met (R163). -/
def State.purgePartsMet (s : State) : Bool :=
  s.laneA.queue.isEmpty && s.laneB.queue.isEmpty && (List.finRange 24).all (fun n => (s.slot n).isEmpty)

/-- A lane at Purge completion: its expected sequence becomes "any", and it evaluates its hold conditions (R48). -/
def purgeLaneEnd (l : Lane) (s : State) : State := evalHold l (s.setLane l { s.lane l with expected := none })

/-- The completion test of a Purge: where it is in progress and both parts are met, it ends and its Reply is made (R163). -/
def purgeTest (s : State) : State :=
  match s.purge with
  | .idle => s
  | .inProgress link tag =>
    if s.purgePartsMet then
      reply link tag .ok DownKind.purge.code [] (purgeLaneEnd .b (purgeLaneEnd .a (s.setPurge .idle)))
    else s

/-- What an event is an occasion of, as its own rule or R86, R109 and R163 name it. -/
structure Occasion where
  relief : Bool
  purge : Bool
  pass : Bool
deriving DecidableEq, Repr

/-- Whether the allocator has given a slot to an unplaced key since an event began (R86): a key that waited without a packet
has one. -/
def giftedSince (s0 s : State) : Bool := s0.unplaced.any (fun u => (s0.packet u.key).isNone && (s.packet u.key).isSome)

/-- Whether a packet has joined the held list since an event began (R86). -/
def heldSince (s0 s : State) : Bool := s.held.any (fun k => !s0.held.contains k)

/-- Whether a packet has joined a finishing queue since an event began (R109). -/
def queuedSince (s0 s : State) : Bool := s.queued.any (fun q => !s0.queued.contains q)

/-- The end of an event that began in `s0` and has had its own effects in `s`. -/
def endEvent (s0 : State) (o : Occasion) (s : State) : State :=
  let s1 := if o.relief || giftedSince s0 s || heldSince s0 s then tryRelief s else s
  let s2 := if o.purge then purgeTest s1 else s1
  if o.pass || queuedSince s0 s2 then selectionPass s2 else s2

end Sys2Proof.Machine
end

