-- ==== Sys2Proof/Machine/LaneEvents.lean ====
section
/-! DEFINITION. The Lane Units: announcements and verdicts, arrivals, faults and Lane Clear (chapter 2). -/

namespace Sys2Proof.Machine

/-- A request whose body has the length of its kind is acted on; any other is answered LENGTH (R143). -/
def withLength (k : DownKind) (l : Lane) (tag : Byte) (body : List Byte) (f : State → State) (s : State) : State :=
  if body.length = k.bodyLength then f s else reply l tag .length k.code [] s

/-! ## Announcements -/

/-- The fields of a Sheet Announce (R152). -/
structure Announcement where
  sequence : Byte
  jobTag : BitVec 16
  cls : Byte
  generation : Byte
  rank : Byte
  index : Byte
  count : Byte
  media : Byte
deriving DecidableEq, Repr

/-- A Sheet Announce body of 9 bytes read by its layout (R152). -/
def Announcement.ofBody (body : List Byte) : Option Announcement :=
  if body.length = DownKind.sheetAnnounce.bodyLength then
    some { sequence := body.getD 0 0#8, jobTag := body.getD 1 0#8 ++ body.getD 2 0#8, cls := body.getD 3 0#8,
           generation := body.getD 4 0#8, rank := body.getD 5 0#8, index := body.getD 6 0#8, count := body.getD 7 0#8,
           media := body.getD 8 0#8 }
  else none

/-- The key an announcement names. -/
def Announcement.key (x : Announcement) : Key := { cls := x.cls.toNat, rank := x.rank.toNat }

/-- Checks 0 to 4 of the verdict: the reason of the first that fails (R31). -/
def identityReason (x : Announcement) (s : State) : Option Reason :=
  let r := s.classRec x.key.cls
  if s.purging then some .purging
  else if r.state = .empty then some .noClass
  else if x.generation ≠ r.generation then some .staleGeneration
  else if r.size ≤ x.key.rank then some .badRank
  else if (s.thickness x.media.toNat).isNone then some .badMedia
  else none

/-- The count and index checks against a sheet count (R33, R34). -/
def shapeReason (x : Announcement) (sheetCount : Nat) : Option Reason :=
  if x.count.toNat ≠ sheetCount then some .countMismatch
  else if x.index.toNat < 1 ∨ sheetCount < x.index.toNat then some .badIndex
  else none

/-- The verdict for an OPEN rank, by its packet's snapshot (R33). A rank OPEN without a packet in a slot, which R51
excludes, gives RANK_CLOSED (log entry 11). -/
def openVerdict (x : Announcement) (s : State) : Verdict :=
  match s.packet x.key with
  | none => .divert .rankClosed
  | some p =>
    match shapeReason x p.snapshot.sheetCount, p.slot with
    | some r, _ => .divert r
    | none, some n => .place n
    | none, none => .divert .rankClosed

/-- The verdict for a WAITING rank, with the slot or the place in the unplaced list it may be given (R34, R54). -/
def waitingVerdict (x : Announcement) (s : State) : Verdict × State :=
  match s.assignmentOf x.key.cls with
  | none => (.divert .noAssignment, s)
  | some a =>
    match shapeReason x a.sheetCount with
    | some r => (.divert r, s)
    | none =>
      if s.isUnplaced x.key then (.unplaced, s)
      else
        match s.lowestFree with
        | some n => (.place n, createPacket x.key n a x.jobTag s)
        | none =>
          (.unplaced, activate x.key.cls (s.setUnplaced (s.unplaced ++ [{ key := x.key, jobTag := x.jobTag }])))

/-- The verdict of an announcement, and the state after what it sets up (R31 to R34). -/
def verdictOf (x : Announcement) (s : State) : Verdict × State :=
  match identityReason x s with
  | some r => (.divert r, s)
  | none =>
    match s.rankAt x.key with
    | some .excused => (.divert .rankExcused, s)
    | some .missed => (.divert .rankClosed, s)
    | some .held => (.divert .rankDone, s)
    | some .released => (.divert .rankDone, s)
    | some .relieved => (.divert .rankDone, s)
    | some .delivered => (.divert .rankDone, s)
    | some .opened => (openVerdict x s, s)
    | some .waiting => waitingVerdict x s
    | none => (.divert .badRank, s)

/-- The entry of an announcement (R30). -/
def Announcement.entry (x : Announcement) (v : Verdict) (order : BitVec 32) (deadline : Nat) : Entry :=
  { jobTag := x.jobTag, cls := x.cls, generation := x.generation, rank := x.rank, index := x.index, media := x.media,
    order := order, deadline := deadline, verdict := v }

/-- The deadline of an entry appended now (R30). -/
def State.newDeadline (s : State) : Nat := s.now + s.settings.transitWindow * Config.tenthMs

/-- An entry is appended: counter, expected sequence, transit timer, hold conditions (R29, R30). -/
def appendEntry (l : Lane) (x : Announcement) (v : Verdict) (s : State) : State :=
  let u := s.lane l
  let n := u.counter + 1#32
  evalHold l (retime l (s.setLane l
    { u with counter := n, expected := some (x.sequence + 1#8), queue := u.queue ++ [x.entry v n s.newDeadline] }))

/-- Whether an announcement has a sequence number other than the expected one (R29). -/
def LaneUnit.outOfSequence (u : LaneUnit) (x : Announcement) : Bool :=
  match u.expected with
  | some q => decide (x.sequence ≠ q)
  | none => false

/-- An announcement that the lane's cases let through: verdict, entry, attention, relief (R29 case 4, R30, R34). -/
def takeAnnouncement (l : Lane) (x : Announcement) (s : State) : State :=
  let vs := verdictOf x s
  let s1 := if vs.1 = .unplaced then raise .slotsExhausted vs.2 else vs.2
  endEvent s { relief := decide (vs.1 = .unplaced), purge := false, pass := false } (appendEntry l x vs.1 s1)

/-- A Sheet Announce frame on a lane (R29; R143 where its length is wrong). -/
def onSheetAnnounce (l : Lane) (body : List Byte) (s : State) : State :=
  match Announcement.ofBody body with
  | none => raise .frameError s
  | some x =>
    if (s.lane l).inFault then s
    else if (s.lane l).outOfSequence x then
      endEvent s { relief := false, purge := true, pass := false } (enterFault l .sequence s)
    else if Config.queueRoom ≤ (s.lane l).queue.length then
      endEvent s { relief := false, purge := true, pass := false } (enterFault l .overrun s)
    else takeAnnouncement l x s

/-! ## Arrivals -/

/-- A sheet is diverted: gate, tray count, Sheet Exception, attention (R42). -/
def divertSheet (l : Lane) (r : Reason) (e : Option Entry) (s : State) : State :=
  let s1 := addTray 1 (act (.divertGate l true) s)
  raise .sheetDiverted (sendReport .sheetException (sheetExceptionBody l r s1.stamp e) s1)

/-- A sheet handed to the tower for a COLLECTING packet in a slot (R60); a refused sheet is diverted DUPLICATE and may
end a packet that has received no sheet (R70): the divert's effects come first, then the drop and the gift of its slot (log
entry 7). -/
def placeSheet (l : Lane) (e : Entry) (n : Fin 24) (p : Packet) (s : State) : State :=
  match decidePlacement p e.index.toNat with
  | .placed q =>
    settlePlaced (q.withSheet ((s.thickness e.media.toNat).getD 0) s.freshTimer) (act (.divertGate l false) s)
  | .refused =>
    let s1 := divertSheet l .duplicate (some e) s
    if p.untouched && !(s1.lanePlaces p.key .a || s1.lanePlaces p.key .b) then dropPacket p.key n s1 else s1

/-- The re-check of a PLACE entry at arrival (R39, R60). -/
def arrivePlaced (l : Lane) (e : Entry) (n : Fin 24) (s : State) : State :=
  match s.packetIn n with
  | none => divertSheet l .rankClosed (some e) s
  | some p =>
    if p.key = e.key ∧ p.generation = e.generation ∧ p.flags.stale = false then
      match p.state with
      | .collecting => placeSheet l e n p s
      | .held => divertSheet l .duplicate (some e) s
      | .queued => divertSheet l .duplicate (some e) s
      | .finishing => divertSheet l .duplicate (some e) s
    else divertSheet l .rankClosed (some e) s

/-- A popped entry's verdict decides the sheet (R38 to R41). -/
def arrive (l : Lane) (e : Entry) (s : State) : State :=
  match e.verdict with
  | .divert r => divertSheet l r (some e) s
  | .unplaced =>
    let s1 := divertSheet l .noSlot (some e) s
    if s1.laneWaits e.key .a || s1.laneWaits e.key .b then s1 else leaveUnplaced e.key s1
  | .place n => arrivePlaced l e n s

/-- Whether a lane's transit timer runs toward a deadline that has already passed (R36). -/
def State.overdue (s : State) (l : Lane) : Bool :=
  match (s.lane l).transit with
  | some d => decide (d < s.now)
  | none => false

/-- An arrival that takes the queue head (R38); an overdue new head expires at once (R36; log entry 7). -/
def arriveHead (l : Lane) (e : Entry) (rest : List Entry) (s : State) : State :=
  let s1 := arrive l e (evalHold l (retime l (setQueue l rest s)))
  if s1.overdue l then enterFault l .transit s1 else s1

/-- A sheet passes a lane's entry sensor: stamp first (R28), then match or divert (R38). -/
def onLaneEntry (l : Lane) (s : State) : State :=
  let s1 := s.setStamp (s.stamp + 1#32)
  if (s1.lane l).inFault then divertSheet l .laneFault none s1
  else
    match (s1.lane l).queue with
    | [] => divertSheet l .unannounced none s1
    | e :: rest => endEvent s { relief := false, purge := true, pass := false } (arriveHead l e rest s1)

/-- LANE_ENTRY (R38). -/
def execLaneEntry (l : Lane) (s : State) : Host.Outcome State Fault Refusal := .next (onLaneEntry l (beginEvent s))

/-! ## Faults -/

/-- A lane jam event (R43; R27 on a lane in FAULT). -/
def onLaneJam (l : Lane) (s : State) : State :=
  if (s.lane l).inFault then raise (laneFaultCause l) (setLaneState l (.fault .jam) s)
  else endEvent s { relief := false, purge := true, pass := false } (enterFault l .jam s)

/-- LANE_JAM (R43). -/
def execLaneJam (l : Lane) (s : State) : Host.Outcome State Fault Refusal := .next (onLaneJam l (beginEvent s))

/-- The expiry of a running transit timer (R37); a stopped timer cannot expire, and nothing happens (log entry 2). -/
def onTransitExpiry (l : Lane) (s : State) : State :=
  if (s.lane l).transit.isSome && !(s.lane l).inFault then
    endEvent s { relief := false, purge := true, pass := false } (enterFault l .transit s)
  else s

/-- TRANSIT_TIMER_EXPIRY (R37). -/
def execTransitTimerExpiry (l : Lane) (s : State) : Host.Outcome State Fault Refusal :=
  .next (onTransitExpiry l (beginEvent s))

/-! ## Lane Clear -/

/-- What a discarded entry undoes, by its verdict (R46). A PLACE entry asks for others of its key in the other lane's queue only, so
of several in the cleared lane the first one discarded drops the packet (R46 against R70: log entry 22). -/
def discardEffect (l : Lane) (e : Entry) (s : State) : State :=
  match e.verdict with
  | .divert _ => s
  | .unplaced => if s.laneWaits e.key .a || s.laneWaits e.key .b then s else leaveUnplaced e.key s
  | .place n =>
    match s.packetIn n with
    | some p =>
      if p.key = e.key ∧ p.untouched ∧ s.lanePlaces e.key (otherLane l) = false then dropPacket e.key n s else s
    | none => s

/-- The entries of a queue discarded, oldest first (R45 step 1), in at most `fuel` steps. -/
def discardEntries (l : Lane) : Nat → State → State
  | 0, s => s
  | fuel + 1, s =>
    match (s.lane l).queue with
    | [] => s
    | e :: rest => discardEntries l fuel (discardEffect l e (setQueue l rest s))

/-- Frozen collection timers run again where neither lane is in FAULT (R67). -/
def thawTimers (s : State) : State := if s.anyFault then s else mapTimers CollectTimer.thaw s

/-- A faulted lane is cleared (R45): it leaves FAULT held, and the evaluation of its hold conditions releases it where
none holds. -/
def clearLane (l : Lane) (s : State) : State :=
  let s1 := discardEntries l (s.lane l).queue.length s
  let s2 := s1.setLane l { s1.lane l with state := .held, queue := [], expected := none, transit := none }
  evalHold l (thawTimers s2)

/-- A Lane Clear frame (R45). -/
def onLaneClear (link : Lane) (tag : Byte) (body : List Byte) (s : State) : State :=
  withLength .laneClear link tag body (fun s =>
    match laneOfCode (byteAt body 0) with
    | none => reply link tag .field DownKind.laneClear.code [] s
    | some l =>
      if (s.lane l).inFault then
        endEvent s { relief := true, purge := true, pass := false }
          (reply link tag .ok DownKind.laneClear.code [] (clearLane l s))
      else reply link tag .state DownKind.laneClear.code [] s) s

/-- LANE_CLEAR (R45). -/
def execLaneClear (link : Lane) (tag : Byte) (body : List Byte) (s : State) : Host.Outcome State Fault Refusal :=
  .next (onLaneClear link tag body (frameCompleted link s))

/-- SHEET_ANNOUNCE (R29). -/
def execSheetAnnounce (link : Lane) (body : List Byte) (s : State) : Host.Outcome State Fault Refusal :=
  .next (onSheetAnnounce link body (frameCompleted link s))

end Sys2Proof.Machine
end

