-- ==== Sys2Proof/Machine/BinEvents.lean ====
section
/-! DEFINITION. The Bin Controller's request and events (chapter 7). -/

namespace Sys2Proof.Machine

/-- The state of a bin after a taken Load Bin (R130). -/
def BinState.loaded : BinState → BinState
  | .unloaded => .ready
  | .ready => .ready
  | .full => .full
  | .out => .out

/-- A Load Bin frame (R130); a taken one that changes the capacity or makes the bin READY leads to a pass (R109). -/
def onLoadBin (link : Lane) (tag : Byte) (body : List Byte) (s : State) : State :=
  withLength .loadBin link tag body (fun s =>
    match finOf 17 (byteAt body 0) with
    | none => reply link tag .field DownKind.loadBin.code [] s
    | some b =>
      let r := s.bin b
      let cap := clamp 1 4095 (wordAt body 1)
      if cap < r.fill + r.reserved then reply link tag .state DownKind.loadBin.code [] s
      else
        endEvent s { relief := false, purge := false,
                     pass := decide (cap ≠ r.capacity) || decide (r.state = .unloaded) }
          (reply link tag (if cap = wordAt body 1 then .ok else .okClamped) DownKind.loadBin.code []
            (setBin b { r with state := r.state.loaded, capacity := cap } s))) s

/-- LOAD_BIN (R130). -/
def execLoadBin (link : Lane) (tag : Byte) (body : List Byte) (s : State) : Host.Outcome State Fault Refusal :=
  .next (onLoadBin link tag body (frameCompleted link s))

/-- A bin record after its full sensor has reported (R133). -/
def Bin.reportFull (r : Bin) : Bin :=
  match r.state with
  | .ready => { r with state := .full, fill := r.capacity - r.reserved }
  | .full => { r with fill := r.capacity - r.reserved }
  | .out => r
  | .unloaded => r

/-- BIN_FULL (R133). -/
def execBinFull (b : Fin 17) (s : State) : Host.Outcome State Fault Refusal :=
  .next (setBin b (s.bin b).reportFull (beginEvent s))

/-- A bin record after the bin has been taken out of the rack (R134). -/
def Bin.reportRemoved (r : Bin) : Bin :=
  match r.state with
  | .ready => { r with state := .out }
  | .full => { r with state := .out }
  | .out => r
  | .unloaded => r

/-- BIN_REMOVED (R134). -/
def execBinRemoved (b : Fin 17) (s : State) : Host.Outcome State Fault Refusal :=
  .next (setBin b (s.bin b).reportRemoved (beginEvent s))

/-- A bin record after the bin has been put into the rack, taken to be empty (R135). -/
def Bin.reportReplaced (r : Bin) : Bin :=
  match r.state with
  | .out => { r with state := .ready, fill := 0 }
  | .ready => { r with state := .ready, fill := 0 }
  | .full => { r with state := .ready, fill := 0 }
  | .unloaded => r

/-- A bin replaced event; each but an UNLOADED bin's, which is ignored, makes the bin READY and leads to a pass (R135, R131,
R109). -/
def onBinReplaced (b : Fin 17) (s : State) : State :=
  endEvent s { relief := false, purge := false, pass := decide ((s.bin b).state ≠ .unloaded) }
    (setBin b (s.bin b).reportReplaced s)

/-- BIN_REPLACED (R135). -/
def execBinReplaced (b : Fin 17) (s : State) : Host.Outcome State Fault Refusal := .next (onBinReplaced b (beginEvent s))

/-- The exception tray emptied (R139): count 0, hold conditions where the count was at the threshold, and a pass. -/
def onTrayEmptied (s : State) : State :=
  let s1 := s.setTray 0
  endEvent s { relief := false, purge := false, pass := true }
    (if s.trayThreshold ≤ s.tray then evalHolds s1 else s1)

/-- EXCEPTION_TRAY_EMPTIED (R139). -/
def execExceptionTrayEmptied (s : State) : Host.Outcome State Fault Refusal := .next (onTrayEmptied (beginEvent s))

end Sys2Proof.Machine
end

