-- ==== Sys2Proof/Machine/FinishEvents.lean ====
section
/-! DEFINITION. The Finishing Unit's events and requests: the stages, the faults, Finisher Clear, suspension, the staple
supply, the take (chapter 6). -/

namespace Sys2Proof.Machine

/-- The current packet, where the unit runs a stage (R114: a completion in any other state is ignored). -/
def State.currentIn (s : State) (g : Stage) : Option Current :=
  if s.fin.unit.running = some g then s.fin.current else none

/-! ## Completion events -/

/-- The transfer done of the current packet (R115, R73): its slot frees and JOG starts; an occasion of relief (R86) and of
the Purge's test (R163). -/
def onTransferDone (s : State) : State :=
  match s.currentIn .transfer with
  | some c => endEvent s { relief := true, purge := true, pass := false } (enterJog (leaveSlot c.key s))
  | none => s

/-- TRANSFER_DONE (R115). -/
def execTransferDone (s : State) : Host.Outcome State Fault Refusal := .next (onTransferDone (beginEvent s))

/-- Jog done (R116): STAPLE where staples are still to be placed, EJECT otherwise, whether or not the current packet
is in the packet map (log entry 11). -/
def onJogDone (s : State) : State :=
  match s.currentIn .jog with
  | some c => if c.staplesPlaced < c.staplesNeeded then fireStaple c s else enterEject c s
  | none => s

/-- JOG_DONE (R116). -/
def execJogDone (s : State) : Host.Outcome State Fault Refusal := .next (onJogDone (beginEvent s))

/-- One staple done (R117): supply down, staples placed up, then EJECT or the next staple, whether or not the current packet is in
the packet map (log entry 11). -/
def onStapleDone (s : State) : State :=
  match s.currentIn .staple with
  | some c =>
    let c1 := { c with staplesPlaced := c.staplesPlaced + 1 }
    let s1 := setCurrent (some c1) (setSupply (s.fin.supply - 1) s)
    if c1.staplesPlaced = c1.staplesNeeded then enterEject c1 s1 else fireStaple c1 s1
  | none => s

/-- STAPLE_DONE (R117). -/
def execStapleDone (s : State) : Host.Outcome State Fault Refusal := .next (onStapleDone (beginEvent s))

/-- The commit of a delivery (R119 step 1, R131): units from reserved to fill, or sheets to the tray count. -/
def commit (c : Current) (p : Packet) (s : State) : State :=
  match c.target with
  | .bin b =>
    let r := s.bin b
    setBin b { r with reserved := r.reserved - c.units, fill := r.fill + c.units } s
  | .tray => addTray p.sheetsHeld s

/-- The other jog side (R136). -/
def Side.flip : Side → Side
  | .left => .right
  | .right => .left

/-- The jog side of the target changes after a delivery that was not centred (R119 step 2, R136). -/
def flipJogSide (c : Current) (p : Packet) (s : State) : State :=
  match c.target with
  | .bin b => if p.flags.centred then s else setBin b { s.bin b with jogSide := (s.bin b).jogSide.flip } s
  | .tray => s

/-- A RELEASED rank takes a state at eject done or removal; any other rank keeps its own (R91). -/
def endRank (k : Key) (x : RankState) (s : State) : State :=
  if s.rankAt k = some .released then setRank k x s else s

/-- The unit after its packet has gone: SUSPENDED where a suspend was to follow, IDLE otherwise (R119, R122). -/
def freeUnit (suspend : Bool) (s : State) : State := setUnit (if suspend then .suspended else .idle) s

/-- Whether the unit is in SUSPEND_PENDING. -/
def UnitState.isSuspendPending : UnitState → Bool
  | .suspendPending _ => true
  | .idle => false
  | .stage _ => false
  | .fault _ _ => false
  | .suspended => false

/-- The eight steps of an eject done, in order (R119); a current packet that is not in the packet map is ignored (log entry 11). -/
def onEjectDone (s : State) : State :=
  match s.currentIn .eject with
  | some c =>
    match s.packet c.key with
    | some p =>
      let s1 := flipJogSide c p (commit c p (stopStageTimer s))
      let s2 := endRank c.key .delivered (sendDisposition p c.target.code c.staplesPlaced c.units s1)
      let s3 := orderStep c.key.cls (setCurrent none (removePacket c.key s2))
      endEvent s { relief := false, purge := false, pass := true } (freeUnit s.fin.unit.isSuspendPending s3)
    | none => s
  | none => s

/-- EJECT_DONE (R119). -/
def execEjectDone (s : State) : Host.Outcome State Fault Refusal := .next (onEjectDone (beginEvent s))

/-! ## Faults -/

/-- The suspend mark a fault sets (R120 step 3). -/
def UnitState.marksSuspend : UnitState → Bool
  | .suspendPending _ => true
  | .suspended => true
  | .idle => false
  | .stage _ => false
  | .fault _ m => m

/-- The unit enters FAULT, or takes a new cause in FAULT, keeping packet, target, reservation and mark (R120). -/
def enterUnitFault (c : UnitCause) (s : State) : State :=
  raise .finisherFault (s.setFin { s.fin with unit := .fault c s.fin.unit.marksSuspend, timer := none })

/-- FINISHER_JAM (R120). -/
def execFinisherJam (s : State) : Host.Outcome State Fault Refusal := .next (enterUnitFault .jam (beginEvent s))

/-- A staple misfire, taken in STAPLE only (R120). -/
def onMisfire (s : State) : State := if s.fin.unit.running = some .staple then enterUnitFault .misfire s else s

/-- STAPLE_MISFIRE (R120). -/
def execStapleMisfire (s : State) : Host.Outcome State Fault Refusal := .next (onMisfire (beginEvent s))

/-- The expiry of a running stage timer (R120); a stopped timer cannot expire, and nothing happens (log entry 2). -/
def onStageLimit (s : State) : State :=
  if s.fin.timer.isSome && s.fin.unit.running.isSome then enterUnitFault .timeout s else s

/-- STAGE_LIMIT_EXPIRY (R120). -/
def execStageLimitExpiry (s : State) : Host.Outcome State Fault Refusal := .next (onStageLimit (beginEvent s))

/-! ## Finisher Clear -/

/-- The unit after a Finisher Clear RETRY, before its stage is started again: SUSPEND_PENDING where the mark is 1 (R121). -/
def retryUnit (mark : Bool) (g : Stage) (s : State) : State := setUnit (if mark then .suspendPending g else .idle) s

/-- RETRY with a current packet: JOG where its transfer done has been received, TRANSFER where it has not (R121); JOG for one that
is not in the packet map (log entry 11). -/
def retryPacket (mark : Bool) (c : Current) (s : State) : State :=
  if (s.slotOf c.key).isSome then enterTransfer c.key (retryUnit mark .transfer s) else enterJog (retryUnit mark .jog s)

/-- REMOVED with a current packet: steps 1 to 8 of R122, the selection pass left to the end of the event. -/
def removeCurrent (mark : Bool) (c : Current) (p : Packet) (s : State) : State :=
  let s1 := unreserve c.target c.units (updateFlags c.key (fun f => { f with removed := true }) s)
  let s2 := leaveSlot c.key s1
  let s3 := sendDisposition { p with flags := { p.flags with removed := true } } 18 c.staplesPlaced 0 s2
  let s4 := setCurrent none (removePacket c.key (endRank c.key .missed s3))
  freeUnit mark (orderStep c.key.cls s4)

/-- A Finisher Clear frame (R121, R122); the Reply comes after the Disposition and the Class Done report of a REMOVED, and before
relief, the Purge's test and the selection pass (log entry 6). -/
def onFinisherClear (link : Lane) (tag : Byte) (body : List Byte) (s : State) : State :=
  withLength .finisherClear link tag body (fun s =>
    let ok := reply link tag .ok DownKind.finisherClear.code []
    match outcomeOfCode (byteAt body 0), s.fin.unit with
    | none, _ => reply link tag .field DownKind.finisherClear.code [] s
    | some o, .fault _ mark =>
      match s.fin.current with
      | none => endEvent s { relief := false, purge := false, pass := true } (ok (freeUnit mark s))
      | some c =>
        match o, s.packet c.key with
        | .retry, _ => ok (retryPacket mark c s)
        | .removed, some p => endEvent s { relief := true, purge := true, pass := true } (ok (removeCurrent mark c p s))
        | .removed, none =>
          endEvent s { relief := true, purge := true, pass := true }
            (ok (freeUnit mark (setCurrent none (unreserve c.target c.units s))))
    | some _, .idle => reply link tag .state DownKind.finisherClear.code [] s
    | some _, .stage _ => reply link tag .state DownKind.finisherClear.code [] s
    | some _, .suspendPending _ => reply link tag .state DownKind.finisherClear.code [] s
    | some _, .suspended => reply link tag .state DownKind.finisherClear.code [] s) s

/-- FINISHER_CLEAR_RETRY: a Finisher Clear frame that ends in the outcome RETRY (R121; log entry 5). -/
def execFinisherClearRetry (link : Lane) (tag : Byte) (fields : List Byte) (s : State) :
    Host.Outcome State Fault Refusal :=
  .next (onFinisherClear link tag (fields ++ [0#8]) (frameCompleted link s))

/-- FINISHER_CLEAR_REMOVED: a Finisher Clear frame that ends in the outcome REMOVED (R122; log entry 5). -/
def execFinisherClearRemoved (link : Lane) (tag : Byte) (fields : List Byte) (s : State) :
    Host.Outcome State Fault Refusal :=
  .next (onFinisherClear link tag (fields ++ [1#8]) (frameCompleted link s))

/-! ## Suspend and Resume -/

/-- The unit state after Suspend Finishing (R123). -/
def UnitState.suspend : UnitState → UnitState
  | .idle => .suspended
  | .stage g => .suspendPending g
  | .suspendPending g => .suspendPending g
  | .suspended => .suspended
  | .fault c _ => .fault c true

/-- A Suspend Finishing frame (R123). -/
def onSuspendFinishing (link : Lane) (tag : Byte) (body : List Byte) (s : State) : State :=
  withLength .suspendFinishing link tag body (fun s =>
    reply link tag .ok DownKind.suspendFinishing.code [] (setUnit s.fin.unit.suspend s)) s

/-- SUSPEND_FINISHING (R123). -/
def execSuspendFinishing (link : Lane) (tag : Byte) (body : List Byte) (s : State) : Host.Outcome State Fault Refusal :=
  .next (onSuspendFinishing link tag body (frameCompleted link s))

/-- The unit state after Resume Finishing (R124). -/
def UnitState.resume : UnitState → UnitState
  | .idle => .idle
  | .stage g => .stage g
  | .suspendPending g => .stage g
  | .suspended => .idle
  | .fault c _ => .fault c false

/-- A Resume Finishing frame (R124); a unit that leaves SUSPENDED makes a selection pass. -/
def onResumeFinishing (link : Lane) (tag : Byte) (body : List Byte) (s : State) : State :=
  withLength .resumeFinishing link tag body (fun s =>
    endEvent s { relief := false, purge := false, pass := decide (s.fin.unit = .suspended) }
      (reply link tag .ok DownKind.resumeFinishing.code [] (setUnit s.fin.unit.resume s))) s

/-- RESUME_FINISHING (R124). -/
def execResumeFinishing (link : Lane) (tag : Byte) (body : List Byte) (s : State) : Host.Outcome State Fault Refusal :=
  .next (onResumeFinishing link tag body (frameCompleted link s))

/-! ## Staple supply and the take -/

/-- A cartridge inserted: the supply is the full count read now, and an IDLE unit makes a pass (R125, R109). -/
def onCartridgeInserted (s : State) : State :=
  endEvent s { relief := false, purge := false, pass := true } (setSupply s.settings.cartridgeFull s)

/-- CARTRIDGE_INSERTED (R125). -/
def execCartridgeInserted (s : State) : Host.Outcome State Fault Refusal := .next (onCartridgeInserted (beginEvent s))

/-- TAKE: the selection arbiter's pass by itself, with the take it may make (R109, R113; log entry 3). -/
def execTake (s : State) : Host.Outcome State Fault Refusal := .next (selectionPass (beginEvent s))

end Sys2Proof.Machine
end

