-- ==== Sys2Proof/Machine/PurgeEvents.lean ====
section
/-! DEFINITION. The Purge: its start, the dump and its completion (R47, R74, R92, R162, R163). -/

namespace Sys2Proof.Machine

/-- A lane at the start of a Purge (R47): entries to DIVERT PURGING, or an emptied queue in FAULT; hold conditions. -/
def purgeLaneStart (l : Lane) (s : State) : State :=
  let u := s.lane l
  let q := if u.inFault then [] else u.queue.map (fun e => { e with verdict := .divert .purging })
  evalHold l (setQueue l q s)

/-- One packet dumped from its slot (R74, R92): gate, PURGED, out of list and queue, tray count, Disposition, map, slot,
rank, then the class. -/
def dumpPacket (n : Fin 24) (p : Packet) (s : State) : State :=
  let q := { p with flags := { p.flags with purged := true }, timer := .stopped }
  let s1 := leaveFinishing p.key (leaveHeld p.key (act (.dumpGate n) s))
  let s2 := sendDisposition q 17 0 0 (addTray p.sheetsHeld s1)
  orderStep p.key.cls (setRank p.key .missed (freeSlot n (removePacket p.key s2)))

/-- A slot at the start of a Purge: its packet is dumped unless it is the Finishing Unit's current one (R74). -/
def dumpSlot (s : State) (n : Fin 24) : State :=
  match s.packetIn n with
  | some p => if p.state = .finishing then s else dumpPacket n p s
  | none => s

/-- The tower's part of a Purge's start: the unplaced list is emptied and the slots are dumped in ascending order (R74). -/
def purgeTower (s : State) : State := (List.finRange 24).foldl dumpSlot (s.setUnplaced [])

/-- A Purge frame (R162). -/
def onPurge (link : Lane) (tag : Byte) (body : List Byte) (s : State) : State :=
  withLength .purge link tag body (fun s =>
    match s.purge with
    | .inProgress _ _ => reply link tag .state DownKind.purge.code [] s
    | .idle =>
      let s1 := s.setPurge (.inProgress link tag)
      purgeTest (purgeTower (purgeLaneStart .b (purgeLaneStart .a s1)))) s

/-- PURGE (R162). -/
def execPurge (link : Lane) (tag : Byte) (body : List Byte) (s : State) : Host.Outcome State Fault Refusal :=
  .next (onPurge link tag body (frameCompleted link s))

/-- PURGE_COMPLETION: the completion test by itself, with the end it may bring (R163; log entry 3). -/
def execPurgeCompletion (s : State) : Host.Outcome State Fault Refusal := .next (purgeTest (beginEvent s))

end Sys2Proof.Machine
end

