-- ==== Sys2Proof/Machine/Queries.lean ====
section
/-! DEFINITION. The queries and Read Attention, with the data of their Replies (R154 to R159). -/

namespace Sys2Proof.Machine

/-! ## Codes -/

/-- The code of a class state (R156). -/
def ClassState.code : ClassState → Nat
  | .empty => 0
  | .loaded => 1
  | .active => 2
  | .done => 3

/-- The code of a rank state (R156). -/
def RankState.code : RankState → Nat
  | .excused => 1
  | .waiting => 2
  | .opened => 3
  | .held => 4
  | .released => 5
  | .relieved => 6
  | .delivered => 7
  | .missed => 8

/-- The code of a packet state (R157). -/
def PacketState.code : PacketState → Nat
  | .collecting => 1
  | .held => 2
  | .queued => 3
  | .finishing => 4

/-- The code of a staple pattern (R157). -/
def Pattern.code : Pattern → Nat
  | .none => 0
  | .corner => 1
  | .side2 => 2

/-- The code of a timer state (R157). -/
def CollectTimer.code : CollectTimer → Nat
  | .stopped => 0
  | .running _ => 1
  | .frozen _ => 2

/-- The remaining time in tenths of a second, rounded up (R157). -/
def CollectTimer.tenths : CollectTimer → Nat
  | .stopped => 0
  | .running t => (t + (Config.tenthMs - 1)) / Config.tenthMs
  | .frozen t => (t + (Config.tenthMs - 1)) / Config.tenthMs

/-- The code of a slot state (R157). -/
def Slot.code : Slot → Nat
  | .free => 0
  | .occupied .collecting _ _ => 1
  | .occupied .held _ _ => 2
  | .occupied .queued _ _ => 3
  | .fenced => 4

/-- The fence pending mark, 0 where it is absent (R157). -/
def Slot.pending : Slot → Bool
  | .occupied _ pending _ => pending
  | .free => false
  | .fenced => false

/-- The code of a bin state (R158). -/
def BinState.code : BinState → Nat
  | .unloaded => 0
  | .ready => 1
  | .full => 2
  | .out => 3

/-- The code of a jog side (R158). -/
def Side.code : Side → Nat
  | .left => 0
  | .right => 1

/-- The code of a lane state (R159). -/
def LaneState.code : LaneState → Nat
  | .running => 0
  | .held => 1
  | .fault _ => 2

/-- The code of a lane's fault cause, 0 where it is absent (R159). -/
def LaneState.causeCode : LaneState → Nat
  | .running => 0
  | .held => 0
  | .fault .transit => 1
  | .fault .jam => 2
  | .fault .sequence => 3
  | .fault .overrun => 4

/-- The code of a stage (R159). -/
def Stage.code : Stage → Nat
  | .transfer => 1
  | .jog => 2
  | .staple => 3
  | .eject => 4

/-- The code of the finishing state (R159). -/
def UnitState.code : UnitState → Nat
  | .idle => 0
  | .stage g => g.code
  | .fault _ _ => 5
  | .suspendPending _ => 6
  | .suspended => 7

/-- The code of the running stage, 0 where it is absent (R159). -/
def UnitState.runningCode : UnitState → Nat
  | .suspendPending g => g.code
  | .idle => 0
  | .stage _ => 0
  | .fault _ _ => 0
  | .suspended => 0

/-- The code of the finishing fault cause, 0 where it is absent (R159). -/
def UnitState.causeCode : UnitState → Nat
  | .fault .jam _ => 1
  | .fault .misfire _ => 2
  | .fault .timeout _ => 3
  | .idle => 0
  | .stage _ => 0
  | .suspendPending _ => 0
  | .suspended => 0

/-- The suspend mark, 0 where it is absent (R159). -/
def UnitState.markBit : UnitState → Bool
  | .fault _ m => m
  | .idle => false
  | .stage _ => false
  | .suspendPending _ => false
  | .suspended => false

/-! ## Data -/

/-- The byte of a rank in Read Class: its state, or 0 for a rank the class does not have (R156). -/
def ClassRec.rankByte (r : ClassRec) (k : Nat) : Byte :=
  match r.rankAt k with
  | some x => BitVec.ofNat 8 x.code
  | none => 0#8

/-- The data of Read Class, 48 bytes (R156). -/
def classData (r : ClassRec) : List Byte :=
  let a := match r.body with
    | some b => b.assignment.val
    | none => 0
  let b := match r.body with
    | some b => b.returnBin.val
    | none => 0
  be8 r.state.code ++ [r.generation] ++ be8 r.size ++ be8 a ++ be8 b ++ beBool r.priority ++ beBool r.locked
    ++ be8 r.cursor ++ (List.range 40).map r.rankByte

/-- The packet fields of Read Slot, 18 bytes (R157). -/
def packetData (p : Packet) : List Byte :=
  be8 p.key.cls ++ be8 p.key.rank ++ [p.generation] ++ be8 p.state.code ++ be16 p.jobTag.toNat ++ be8 p.nextBody
    ++ beBool p.coverReceived ++ be8 p.sheetsHeld ++ be16 p.height ++ be8 p.flags.code ++ be8 p.timer.code
    ++ be16 p.timer.tenths ++ be8 p.snapshot.sheetCount ++ beBool p.snapshot.cover ++ be8 p.snapshot.pattern.code

/-- The data of Read Slot, 20 bytes; the packet fields are 0 for a slot without a packet (R157). -/
def slotData (x : Slot) (p : Option Packet) : List Byte :=
  be8 x.code ++ beBool x.pending ++
    (match p with
    | some p => packetData p
    | none => List.replicate 18 0#8)

/-- The data of Read Bin, 8 bytes (R158). -/
def binData (r : Bin) : List Byte :=
  be8 r.state.code ++ be16 r.capacity ++ be16 r.fill ++ be16 r.reserved ++ be8 r.jogSide.code

/-- The current packet's fields of Read Status: present, class, rank, target, transferred (R159). -/
def currentData (s : State) : List Byte :=
  match s.fin.current with
  | some c => [1#8] ++ be8 c.key.cls ++ be8 c.key.rank ++ be8 c.target.code ++ beBool (!s.awaitsTransfer)
  | none => List.replicate 5 0#8

/-- The data of Read Status, 31 bytes (R159). -/
def statusData (s : State) : List Byte :=
  be8 s.laneA.state.code ++ be8 s.laneB.state.code ++ be8 s.laneA.state.causeCode ++ be8 s.laneB.state.causeCode
    ++ be8 s.laneA.queue.length ++ be8 s.laneB.queue.length ++ be8 s.unplaced.length ++ be8 s.freeCount
    ++ be8 (s.queueOf .express).length ++ be8 (s.queueOf .normal).length ++ be8 s.fin.unit.code
    ++ be8 s.fin.unit.runningCode ++ be8 s.fin.unit.causeCode ++ beBool s.fin.unit.markBit ++ currentData s
    ++ be16 s.fin.supply ++ be16 (min s.tray 65535) ++ be32 s.stamp ++ beBool s.purging
    ++ [laneCode s.settings.reportLane] ++ be16 s.flags.toNat

/-! ## The requests -/

/-- A Read Class frame (R156). -/
def onReadClass (link : Lane) (tag : Byte) (body : List Byte) (s : State) : State :=
  withLength .readClass link tag body (fun s =>
    if 48 ≤ byteAt body 0 then reply link tag .field DownKind.readClass.code [] s
    else reply link tag .ok DownKind.readClass.code (classData (s.classRec (byteAt body 0))) s) s

/-- READ_CLASS (R156). -/
def execReadClass (link : Lane) (tag : Byte) (body : List Byte) (s : State) : Host.Outcome State Fault Refusal :=
  .next (onReadClass link tag body (frameCompleted link s))

/-- A Read Slot frame (R157). -/
def onReadSlot (link : Lane) (tag : Byte) (body : List Byte) (s : State) : State :=
  withLength .readSlot link tag body (fun s =>
    match finOf 24 (byteAt body 0) with
    | none => reply link tag .field DownKind.readSlot.code [] s
    | some n => reply link tag .ok DownKind.readSlot.code (slotData (s.slot n) (s.packetIn n)) s) s

/-- READ_SLOT (R157). -/
def execReadSlot (link : Lane) (tag : Byte) (body : List Byte) (s : State) : Host.Outcome State Fault Refusal :=
  .next (onReadSlot link tag body (frameCompleted link s))

/-- A Read Bin frame (R158). -/
def onReadBin (link : Lane) (tag : Byte) (body : List Byte) (s : State) : State :=
  withLength .readBin link tag body (fun s =>
    match finOf 17 (byteAt body 0) with
    | none => reply link tag .field DownKind.readBin.code [] s
    | some b => reply link tag .ok DownKind.readBin.code (binData (s.bin b)) s) s

/-- READ_BIN (R158). -/
def execReadBin (link : Lane) (tag : Byte) (body : List Byte) (s : State) : Host.Outcome State Fault Refusal :=
  .next (onReadBin link tag body (frameCompleted link s))

/-- Read Attention's clearing and its data: the lowest pending code and the number still pending (R154). -/
def onReadAttention (link : Lane) (tag : Byte) (body : List Byte) (s : State) : State :=
  withLength .readAttention link tag body (fun s =>
    match lowestPending s.flags with
    | some i =>
      let s1 := s.setFlags (s.flags &&& ~~~(BitVec.twoPow 12 i))
      reply link tag .ok DownKind.readAttention.code (be8 (i + 1) ++ be8 (pendingCount s1.flags)) s1
    | none => reply link tag .ok DownKind.readAttention.code [0#8, 0#8] s) s

/-- READ_ATTENTION (R154). -/
def execReadAttention (link : Lane) (tag : Byte) (body : List Byte) (s : State) : Host.Outcome State Fault Refusal :=
  .next (onReadAttention link tag body (frameCompleted link s))

/-- A Read Status frame (R159). -/
def onReadStatus (link : Lane) (tag : Byte) (body : List Byte) (s : State) : State :=
  withLength .readStatus link tag body (fun s => reply link tag .ok DownKind.readStatus.code (statusData s) s) s

/-- READ_STATUS (R159). -/
def execReadStatus (link : Lane) (tag : Byte) (body : List Byte) (s : State) : Host.Outcome State Fault Refusal :=
  .next (onReadStatus link tag body (frameCompleted link s))

end Sys2Proof.Machine
end

