-- ==== Sys2Proof/Machine/TableRequests.lean ====
section
/-! DEFINITION. The Table Store's requests: classes, roster marks, assignments, media, settings (chapter 1). -/

namespace Sys2Proof.Machine

/-! ## Load Class -/

/-- The fields of a Load Class that have passed the FIELD checks of R9. -/
structure ClassLoad where
  cls : Nat
  body : ClassBody
  priority : Bool
deriving DecidableEq, Repr

/-- A Load Class body read; none where a FIELD check fails (R9). Marks at or above the size are not read. -/
def ClassLoad.ofBody (body : List Byte) : Option ClassLoad :=
  let size := byteAt body 1
  if byteAt body 0 < 48 ∧ 1 ≤ size ∧ size ≤ 40 then
    match finOf 32 (byteAt body 2), finOf 16 (byteAt body 3), flagOfCode (byteAt body 4),
        rosterOf ((body.drop 5).take size) with
    | some a, some b, some p, some r =>
      some { cls := byteAt body 0, body := { size := size, roster := r, assignment := a, returnBin := b }, priority := p }
    | _, _, _, _ => none
  else none

/-- The record a taken Load Class leaves, before the cursor advance (R10, R4). -/
def ClassRec.reloaded (r : ClassRec) (q : ClassLoad) : ClassRec :=
  { state := .loaded, generation := r.generation + 1#8, body := some q.body, priority := q.priority, locked := false,
    cursor := 0 }

/-- A Load Class frame (R9, R10). -/
def onLoadClass (link : Lane) (tag : Byte) (body : List Byte) (s : State) : State :=
  withLength .loadClass link tag body (fun s =>
    match ClassLoad.ofBody body with
    | none => reply link tag .field DownKind.loadClass.code [] s
    | some q =>
      let r := s.classRec q.cls
      if r.locked ∨ r.state = .active then reply link tag .protectedState DownKind.loadClass.code [] s
      else
        endEvent s { relief := false, purge := false, pass := false }
          (cursorAdvance q.cls (reply link tag .ok DownKind.loadClass.code [] (s.setClassRec q.cls (r.reloaded q))))) s

/-- LOAD_CLASS (R10). -/
def execLoadClass (link : Lane) (tag : Byte) (body : List Byte) (s : State) : Host.Outcome State Fault Refusal :=
  .next (onLoadClass link tag body (frameCompleted link s))

/-! ## Unload Class, Lock Class -/

/-- An Unload Class frame (R11, R3). -/
def onUnloadClass (link : Lane) (tag : Byte) (body : List Byte) (s : State) : State :=
  withLength .unloadClass link tag body (fun s =>
    let c := byteAt body 0
    let r := s.classRec c
    if 48 ≤ c then reply link tag .field DownKind.unloadClass.code [] s
    else if r.locked ∨ r.state = .empty ∨ r.state = .active then
      reply link tag .protectedState DownKind.unloadClass.code [] s
    else reply link tag .ok DownKind.unloadClass.code [] (s.setClassRec c (.emptyWith r.generation))) s

/-- UNLOAD_CLASS (R11). -/
def execUnloadClass (link : Lane) (tag : Byte) (body : List Byte) (s : State) : Host.Outcome State Fault Refusal :=
  .next (onUnloadClass link tag body (frameCompleted link s))

/-- A Lock Class frame (R12). -/
def onLockClass (link : Lane) (tag : Byte) (body : List Byte) (s : State) : State :=
  withLength .lockClass link tag body (fun s =>
    let c := byteAt body 0
    let r := s.classRec c
    if 48 ≤ c then reply link tag .field DownKind.lockClass.code [] s
    else if r.state = .empty then reply link tag .state DownKind.lockClass.code [] s
    else reply link tag .ok DownKind.lockClass.code [] (s.setClassRec c { r with locked := true })) s

/-- LOCK_CLASS (R12). -/
def execLockClass (link : Lane) (tag : Byte) (body : List Byte) (s : State) : Host.Outcome State Fault Refusal :=
  .next (onLockClass link tag body (frameCompleted link s))

/-! ## Set Roster Mark -/

/-- A mark's own condition (R14, R15, R16). -/
def markAllowed (k : Key) (s : State) : RosterMark → Bool
  | .excuse =>
    decide (s.rankAt k = some .waiting) && decide ((s.classRec k.cls).cursor ≤ k.rank) && !s.isUnplaced k
  | .expect => decide (s.rankAt k = some .excused) && decide ((s.classRec k.cls).cursor ≤ k.rank)
  | .retry => decide (s.rankAt k = some .missed) && (s.packet k).isNone

/-- The state a mark gives a rank (R14, R15, R16). -/
def RosterMark.rankState : RosterMark → RankState
  | .excuse => .excused
  | .expect => .waiting
  | .retry => .waiting

/-- A DONE class becomes ACTIVE at a RETRY (R16, R7). -/
def reopenDone (m : RosterMark) (c : Nat) (s : State) : State :=
  if m = .retry ∧ (s.classRec c).state = .done then setClassState c .active s else s

/-- A taken mark: the rank, the Reply, then the advance and the done condition (R13, R78; log entry 6). -/
def applyMark (link : Lane) (tag : Byte) (m : RosterMark) (k : Key) (s : State) : State :=
  let s1 := reopenDone m k.cls (setRank k m.rankState s)
  endEvent s { relief := false, purge := false, pass := false }
    (orderStep k.cls (reply link tag .ok DownKind.setRosterMark.code [] s1))

/-- A Set Roster Mark frame, checked in the order of R13. -/
def onSetRosterMark (link : Lane) (tag : Byte) (body : List Byte) (s : State) : State :=
  withLength .setRosterMark link tag body (fun s =>
    let k : Key := { cls := byteAt body 0, rank := byteAt body 1 }
    let r := s.classRec k.cls
    if 48 ≤ k.cls then reply link tag .field DownKind.setRosterMark.code [] s
    else
      match rosterMarkOfCode (byteAt body 2) with
      | none => reply link tag .field DownKind.setRosterMark.code [] s
      | some m =>
        if r.state = .empty then reply link tag .state DownKind.setRosterMark.code [] s
        else if r.size ≤ k.rank then reply link tag .field DownKind.setRosterMark.code [] s
        else if markAllowed k s m then applyMark link tag m k s
        else reply link tag .protectedState DownKind.setRosterMark.code [] s) s

/-- SET_ROSTER_MARK_EXCUSE: a Set Roster Mark frame that ends in the mark EXCUSE (R14; log entry 5). -/
def execSetRosterMarkExcuse (link : Lane) (tag : Byte) (fields : List Byte) (s : State) :
    Host.Outcome State Fault Refusal :=
  .next (onSetRosterMark link tag (fields ++ [0#8]) (frameCompleted link s))

/-- SET_ROSTER_MARK_EXPECT: a Set Roster Mark frame that ends in the mark EXPECT (R15; log entry 5). -/
def execSetRosterMarkExpect (link : Lane) (tag : Byte) (fields : List Byte) (s : State) :
    Host.Outcome State Fault Refusal :=
  .next (onSetRosterMark link tag (fields ++ [1#8]) (frameCompleted link s))

/-- SET_ROSTER_MARK_RETRY: a Set Roster Mark frame that ends in the mark RETRY (R16; log entry 5). -/
def execSetRosterMarkRetry (link : Lane) (tag : Byte) (fields : List Byte) (s : State) :
    Host.Outcome State Fault Refusal :=
  .next (onSetRosterMark link tag (fields ++ [2#8]) (frameCompleted link s))

/-! ## Close Class -/

/-- A rank state after Close Class: WAITING becomes MISSED (R17 step 2). -/
def RankState.closed : RankState → RankState
  | .waiting => .missed
  | .excused => .excused
  | .opened => .opened
  | .held => .held
  | .released => .released
  | .relieved => .relieved
  | .delivered => .delivered
  | .missed => .missed

/-- Whether Close Class abandons a key: its rank is WAITING and it is in the unplaced list (R17 step 3). -/
def State.abandons (s : State) (c : Nat) (k : Key) : Bool :=
  decide (k.cls = c) && decide (s.rankAt k = some .waiting) && s.isUnplaced k

/-- An UNPLACED entry of an abandoned key becomes DIVERT RANK_CLOSED (R17 step 3, R35). -/
def Entry.closedBy (s : State) (c : Nat) (e : Entry) : Entry :=
  if e.verdict = .unplaced ∧ s.abandons c e.key then { e with verdict := .divert .rankClosed } else e

/-- A class record with every WAITING rank made MISSED (R17 step 2). -/
def ClassRec.closeRanks (r : ClassRec) : ClassRec :=
  { r with body := r.body.map (fun b => { b with roster := b.roster.map RankState.closed }) }

/-- Steps 1 to 4 of a taken Close Class (R17). -/
def closeClass (c : Nat) (s : State) : State :=
  let s1 := activate c s
  let s2 := s1.setClassRec c (s1.classRec c).closeRanks
  let s3 := s2.setUnplaced (s2.unplaced.filter (fun u => !s.abandons c u.key))
  let s4 := setQueue .a ((s3.lane .a).queue.map (Entry.closedBy s c)) s3
  evalHolds (setQueue .b ((s4.lane .b).queue.map (Entry.closedBy s c)) s4)

/-- A Close Class frame (R17); the Reply precedes the Class Done report (R94). -/
def onCloseClass (link : Lane) (tag : Byte) (body : List Byte) (s : State) : State :=
  withLength .closeClass link tag body (fun s =>
    let c := byteAt body 0
    if 48 ≤ c then reply link tag .field DownKind.closeClass.code [] s
    else if (s.classRec c).state = .empty ∨ (s.classRec c).state = .done then
      reply link tag .state DownKind.closeClass.code [] s
    else
      endEvent s { relief := false, purge := false, pass := false }
        (orderStep c (reply link tag .ok DownKind.closeClass.code [] (closeClass c s)))) s

/-- CLOSE_CLASS (R17). -/
def execCloseClass (link : Lane) (tag : Byte) (body : List Byte) (s : State) : Host.Outcome State Fault Refusal :=
  .next (onCloseClass link tag body (frameCompleted link s))

/-! ## Load Assignment, Load Media -/

/-- A Load Assignment's fields; none where a FIELD check fails (R19). -/
def assignmentOfBody (body : List Byte) : Option (Fin 32 × Assignment) :=
  match finOf 32 (byteAt body 0), flagOfCode (byteAt body 2), patternOfCode (byteAt body 3) with
  | some n, some cover, some pattern =>
    if 1 ≤ byteAt body 1 ∧ byteAt body 1 ≤ 40 then
      some (n, { sheetCount := byteAt body 1, cover := cover, pattern := pattern })
    else none
  | _, _, _ => none

/-- A Load Assignment frame (R19). -/
def onLoadAssignment (link : Lane) (tag : Byte) (body : List Byte) (s : State) : State :=
  withLength .loadAssignment link tag body (fun s =>
    match assignmentOfBody body with
    | none => reply link tag .field DownKind.loadAssignment.code [] s
    | some (n, a) =>
      reply link tag .ok DownKind.loadAssignment.code []
        (s.setTables { s.tables with assignments := put s.tables.assignments n (some a) })) s

/-- LOAD_ASSIGNMENT (R19). -/
def execLoadAssignment (link : Lane) (tag : Byte) (body : List Byte) (s : State) : Host.Outcome State Fault Refusal :=
  .next (onLoadAssignment link tag body (frameCompleted link s))

/-- The code of a Reply to a taken request: OK_CLAMPED where a value was brought within its range (R146). -/
def clampedCode (clamped : Bool) : ReplyCode := if clamped then .okClamped else .ok

/-- A Load Media frame (R20). -/
def onLoadMedia (link : Lane) (tag : Byte) (body : List Byte) (s : State) : State :=
  withLength .loadMedia link tag body (fun s =>
    match finOf 16 (byteAt body 0) with
    | none => reply link tag .field DownKind.loadMedia.code [] s
    | some n =>
      let t := clamp 40 400 (wordAt body 1)
      reply link tag (clampedCode (t ≠ wordAt body 1)) DownKind.loadMedia.code []
        (s.setTables { s.tables with media := put s.tables.media n (some t) })) s

/-- LOAD_MEDIA (R20). -/
def execLoadMedia (link : Lane) (tag : Byte) (body : List Byte) (s : State) : Host.Outcome State Fault Refusal :=
  .next (onLoadMedia link tag body (frameCompleted link s))

/-! ## Load Settings -/

/-- The settings a Load Settings body carries, in the order of the table of R21, before clamping. -/
def settingsOfBody (body : List Byte) (report : Lane) : Settings :=
  { transitWindow := byteAt body 0, collectionWindow := wordAt body 1, loftPlain := byteAt body 3,
    loftStapled := byteAt body 4, scale := byteAt body 5, staplerCapacity := wordAt body 6,
    cartridgeFull := wordAt body 8, transferLimit := byteAt body 10, jogLimit := byteAt body 11,
    stapleLimit := byteAt body 12, ejectLimit := byteAt body 13, exceptionCapacity := wordAt body 14,
    reportLane := report }

/-- Each numeric value clamped to its range (R21, R22). -/
def Settings.clamped (t : Settings) : Settings :=
  { transitWindow := clamp 2 100 t.transitWindow, collectionWindow := clamp 10 900 t.collectionWindow,
    loftPlain := clamp 16 40 t.loftPlain, loftStapled := clamp 16 40 t.loftStapled, scale := clamp 4 8 t.scale,
    staplerCapacity := clamp 500 6000 t.staplerCapacity, cartridgeFull := clamp 100 5000 t.cartridgeFull,
    transferLimit := clamp 5 50 t.transferLimit, jogLimit := clamp 5 50 t.jogLimit,
    stapleLimit := clamp 5 50 t.stapleLimit, ejectLimit := clamp 5 100 t.ejectLimit,
    exceptionCapacity := clamp 50 500 t.exceptionCapacity, reportLane := t.reportLane }

/-- Whether any bin has a fill or a reservation other than 0 (R23). -/
def State.anyBinInUse (s : State) : Bool :=
  (List.finRange 17).any (fun b => decide ((s.bin b).fill ≠ 0) || decide ((s.bin b).reserved ≠ 0))

/-- Whether a Load Settings is refused by the present state: scale, then exception capacity (R23). -/
def State.settingsRefused (s : State) (t : Settings) : Bool :=
  (decide (t.scale ≠ s.settings.scale) && s.anyBinInUse) || decide (t.exceptionCapacity < s.tray)

/-- The settings replaced whole, with what acts at the moment of the taking (R22, R24): a lower full count lowers the
supply, and a changed exception capacity is compared with the count. -/
def applySettings (t : Settings) (s : State) : State :=
  let old := s.settings.exceptionCapacity
  let s1 := s.setTables { s.tables with settings := t }
  let s2 := if t.cartridgeFull < s1.fin.supply then setSupply t.cartridgeFull s1 else s1
  if t.exceptionCapacity = old then s2
  else evalHolds (if s2.trayThreshold ≤ s2.tray then raise .exceptionTrayFull s2 else s2)

/-- A Load Settings frame (R22, R23, R24). -/
def onLoadSettings (link : Lane) (tag : Byte) (body : List Byte) (s : State) : State :=
  withLength .loadSettings link tag body (fun s =>
    match laneOfCode (byteAt body 16) with
    | none => reply link tag .field DownKind.loadSettings.code [] s
    | some report =>
      let raw := settingsOfBody body report
      let t := raw.clamped
      if s.settingsRefused t then reply link tag .state DownKind.loadSettings.code [] s
      else
        endEvent s { relief := false, purge := false, pass := true }
          (reply link tag (clampedCode (t ≠ raw)) DownKind.loadSettings.code [] (applySettings t s))) s

/-- LOAD_SETTINGS (R22). -/
def execLoadSettings (link : Lane) (tag : Byte) (body : List Byte) (s : State) : Host.Outcome State Fault Refusal :=
  .next (onLoadSettings link tag body (frameCompleted link s))

end Sys2Proof.Machine
end

