-- ==== Sys2Proof/Machine/TowerEvents.lean ====
section
/-! DEFINITION. The Staging Tower's requests and events: fences, collection expiry, the allocator's gift (chapter 3). -/

namespace Sys2Proof.Machine

/-- A Fence Slot frame (R71); fencing a FREE slot is an occasion of relief (R86). -/
def onFenceSlot (link : Lane) (tag : Byte) (body : List Byte) (s : State) : State :=
  withLength .fenceSlot link tag body (fun s =>
    match finOf 24 (byteAt body 0) with
    | none => reply link tag .field DownKind.fenceSlot.code [] s
    | some n =>
      match s.slot n with
      | .free =>
        endEvent s { relief := true, purge := false, pass := false }
          (reply link tag .ok DownKind.fenceSlot.code [] (setSlot n .fenced s))
      | .occupied h _ k => reply link tag .ok DownKind.fenceSlot.code [] (setSlot n (.occupied h true k) s)
      | .fenced => reply link tag .state DownKind.fenceSlot.code [] s) s

/-- FENCE_SLOT (R71). -/
def execFenceSlot (link : Lane) (tag : Byte) (body : List Byte) (s : State) : Host.Outcome State Fault Refusal :=
  .next (onFenceSlot link tag body (frameCompleted link s))

/-- An Unfence Slot frame (R72). -/
def onUnfenceSlot (link : Lane) (tag : Byte) (body : List Byte) (s : State) : State :=
  withLength .unfenceSlot link tag body (fun s =>
    match finOf 24 (byteAt body 0) with
    | none => reply link tag .field DownKind.unfenceSlot.code [] s
    | some n =>
      match s.slot n with
      | .fenced =>
        endEvent s { relief := false, purge := false, pass := false }
          (reply link tag .ok DownKind.unfenceSlot.code [] (allocate n (setSlot n .free s)))
      | .occupied h pending k =>
        if pending then reply link tag .ok DownKind.unfenceSlot.code [] (setSlot n (.occupied h false k) s)
        else reply link tag .state DownKind.unfenceSlot.code [] s
      | .free => reply link tag .state DownKind.unfenceSlot.code [] s) s

/-- UNFENCE_SLOT (R72). -/
def execUnfenceSlot (link : Lane) (tag : Byte) (body : List Byte) (s : State) : Host.Outcome State Fault Refusal :=
  .next (onUnfenceSlot link tag body (frameCompleted link s))

/-- The expiry of the collection timer of the packet in a slot (R68); a timer that is not running cannot expire, and
nothing happens (log entry 2). -/
def onCollectionExpiry (n : Fin 24) (s : State) : State :=
  match s.packetIn n with
  | some p =>
    if p.timer.isRunning then endEvent s { relief := false, purge := false, pass := false } (becomeStale p.key s) else s
  | none => s

/-- COLLECTION_TIMER_EXPIRY (R68). -/
def execCollectionTimerExpiry (n : Fin 24) (s : State) : Host.Outcome State Fault Refusal :=
  .next (onCollectionExpiry n (beginEvent s))

/-- The allocator's run for a slot (R59): a FREE slot goes to the first unplaced key. -/
def onSlotGift (n : Fin 24) (s : State) : State :=
  match s.slot n with
  | .free => endEvent s { relief := false, purge := false, pass := false } (allocate n s)
  | .fenced => s
  | .occupied _ _ _ => s

/-- SLOT_GIFT (R59; log entry 3). -/
def execSlotGift (n : Fin 24) (s : State) : Host.Outcome State Fault Refusal := .next (onSlotGift n (beginEvent s))

end Sys2Proof.Machine
end

