-- ==== Sys2Proof/Machine/LinkEvents.lean ====
section
/-! DEFINITION. The link's own events: bytes, complete frames, the gap, frames sent (R141 to R144, R147); power-on; and
the passing of time. -/

namespace Sys2Proof.Machine

/-! ## Complete frames -/

/-- A frame of a downstream kind handed to the owner of the state it concerns (R144). -/
def handOver (k : DownKind) (link : Lane) (tag : Byte) (body : List Byte) (s : State) : State :=
  match k with
  | .sheetAnnounce => onSheetAnnounce link body s
  | .loadClass => onLoadClass link tag body s
  | .unloadClass => onUnloadClass link tag body s
  | .lockClass => onLockClass link tag body s
  | .setRosterMark => onSetRosterMark link tag body s
  | .closeClass => onCloseClass link tag body s
  | .loadAssignment => onLoadAssignment link tag body s
  | .loadMedia => onLoadMedia link tag body s
  | .loadBin => onLoadBin link tag body s
  | .loadSettings => onLoadSettings link tag body s
  | .laneClear => onLaneClear link tag body s
  | .finisherClear => onFinisherClear link tag body s
  | .suspendFinishing => onSuspendFinishing link tag body s
  | .resumeFinishing => onResumeFinishing link tag body s
  | .fenceSlot => onFenceSlot link tag body s
  | .unfenceSlot => onUnfenceSlot link tag body s
  | .purge => onPurge link tag body s
  | .readAttention => onReadAttention link tag body s
  | .readClass => onReadClass link tag body s
  | .readSlot => onReadSlot link tag body s
  | .readBin => onReadBin link tag body s
  | .readStatus => onReadStatus link tag body s

/-- A frame with a good check is tested by its kind byte, then handed on (R143, R144). -/
def testKind (link : Lane) (kind tag : Byte) (body : List Byte) (s : State) : State :=
  match DownKind.ofCode kind with
  | some k => handOver k link tag body s
  | none => reply link tag .kind kind [] s

/-- A frame that fails its check is discarded and FRAME_ERROR raised (R142). -/
def discardFrame (s : State) : State := raise .frameError s

/-- A complete frame, its bytes from the start byte on, is tested by its check and then by its kind (R142, R143). -/
def completeFrame (link : Lane) (bytes : List Byte) (s : State) : State :=
  let inner := (bytes.drop 1).take (bytes.length - 3)
  if checkBytes inner = bytes.drop (bytes.length - 2) then
    testKind link (inner.getD 0 0#8) (inner.getD 1 0#8) (inner.drop 3) s
  else discardFrame s

/-- UNKNOWN_KIND_FRAME (R143): a frame with a good check tested by its kind byte. -/
def execUnknownKindFrame (link : Lane) (kind tag : Byte) (body : List Byte) (s : State) :
    Host.Outcome State Fault Refusal :=
  .next (testKind link kind tag body (frameCompleted link s))

/-- BAD_CHECK_FRAME (R142). -/
def execBadCheckFrame (link : Lane) (s : State) : Host.Outcome State Fault Refusal :=
  .next (discardFrame (frameCompleted link s))

/-! ## Bytes -/

/-- A byte taken in COLLECTING (R141): the third byte of the frame after the start byte is the length and says how many
more come; the last check byte completes the frame. -/
def takeByte (link : Lane) (b : Byte) (bytes : List Byte) (toCome : Nat) (s : State) : State :=
  let all := bytes ++ [b]
  if 1 < toCome then setRx link (.collecting all (toCome - 1) Config.gapMs) s
  else if all.length = 4 then setRx link (.collecting all (b.toNat + 2) Config.gapMs) s
  else completeFrame link all (setRx link .hunt s)

/-- A byte received on a link (R141). -/
def onByte (link : Lane) (b : Byte) (s : State) : State :=
  match (s.link link).rx with
  | .hunt => if b = Config.startByte then setRx link (.collecting [b] 3 Config.gapMs) s else s
  | .collecting bytes toCome _ => takeByte link b bytes toCome s

/-- BYTE_RECEIVED (R141). -/
def execByteReceived (link : Lane) (b : Byte) (s : State) : Host.Outcome State Fault Refusal :=
  .next (onByte link b (beginEvent s))

/-- The expiry of a gap timer (R141): the frame is cut short; in HUNT it cannot occur, and nothing happens (log entry 2). -/
def onFrameGap (link : Lane) (s : State) : State :=
  match (s.link link).rx with
  | .hunt => s
  | .collecting _ _ _ => raise .frameError (setRx link .hunt s)

/-- FRAME_GAP_EXPIRY (R141). -/
def execFrameGapExpiry (link : Lane) (s : State) : Host.Outcome State Fault Refusal :=
  .next (onFrameGap link (beginEvent s))

/-- The oldest frame of a transmit queue has been sent, and the next is the oldest now (R147); with an empty queue the
line is idle, and nothing happens (log entry 14). -/
def onFrameSent (link : Lane) (s : State) : State := s.setLink link { s.link link with tx := (s.link link).tx.tail }

/-- FRAME_SENT (R147). -/
def execFrameSent (link : Lane) (s : State) : Host.Outcome State Fault Refusal := .next (onFrameSent link (beginEvent s))

/-! ## Power-on -/

/-- POWER_ON (R25): every piece of state takes its power-on value; the waiting commands are the environment's and stay
(log entry 13). -/
def execPowerOn (s : State) : Host.Outcome State Fault Refusal := .next (State.reset.setPending s.pending)

/-! ## Time -/

/-- A running collection timer one millisecond on; it waits at 0 for its expiry to be taken (log entry 2). -/
def CollectTimer.tick : CollectTimer → CollectTimer
  | .running t => .running (t - 1)
  | .frozen t => .frozen t
  | .stopped => .stopped

/-- A receiver's gap timer one millisecond on. -/
def Receiver.tick : Receiver → Receiver
  | .hunt => .hunt
  | .collecting bytes toCome gap => .collecting bytes toCome (gap - 1)

/-- One millisecond passes while no command waits (log entry 1). -/
def passTime (s : State) : State :=
  let s1 := mapTimers CollectTimer.tick (beginEvent (s.setNow (s.now + 1)))
  let s2 := s1.setFin { s1.fin with timer := s1.fin.timer.map (fun t => t - 1) }
  setRx .b ((s2.link .b).rx.tick) (setRx .a ((s2.link .a).rx.tick) s2)

end Sys2Proof.Machine
end

