-- ==== Sys2Proof/Machine/Dispatch.lean ====
section
/-! DEFINITION. The dispatch of the commands to their meanings. -/

namespace Sys2Proof.Machine

def exec (i : Instr) (s : State) : Host.Outcome State Fault Refusal :=
  match i with
  | .powerOn => Sys2Proof.Machine.execPowerOn s
  | .sheetAnnounce link body => Sys2Proof.Machine.execSheetAnnounce link body s
  | .loadClass link tag body => Sys2Proof.Machine.execLoadClass link tag body s
  | .unloadClass link tag body => Sys2Proof.Machine.execUnloadClass link tag body s
  | .lockClass link tag body => Sys2Proof.Machine.execLockClass link tag body s
  | .setRosterMarkExcuse link tag fields => Sys2Proof.Machine.execSetRosterMarkExcuse link tag fields s
  | .setRosterMarkExpect link tag fields => Sys2Proof.Machine.execSetRosterMarkExpect link tag fields s
  | .setRosterMarkRetry link tag fields => Sys2Proof.Machine.execSetRosterMarkRetry link tag fields s
  | .closeClass link tag body => Sys2Proof.Machine.execCloseClass link tag body s
  | .loadAssignment link tag body => Sys2Proof.Machine.execLoadAssignment link tag body s
  | .loadMedia link tag body => Sys2Proof.Machine.execLoadMedia link tag body s
  | .loadSettings link tag body => Sys2Proof.Machine.execLoadSettings link tag body s
  | .loadBin link tag body => Sys2Proof.Machine.execLoadBin link tag body s
  | .laneClear link tag body => Sys2Proof.Machine.execLaneClear link tag body s
  | .finisherClearRetry link tag fields => Sys2Proof.Machine.execFinisherClearRetry link tag fields s
  | .finisherClearRemoved link tag fields => Sys2Proof.Machine.execFinisherClearRemoved link tag fields s
  | .fenceSlot link tag body => Sys2Proof.Machine.execFenceSlot link tag body s
  | .unfenceSlot link tag body => Sys2Proof.Machine.execUnfenceSlot link tag body s
  | .suspendFinishing link tag body => Sys2Proof.Machine.execSuspendFinishing link tag body s
  | .resumeFinishing link tag body => Sys2Proof.Machine.execResumeFinishing link tag body s
  | .purge link tag body => Sys2Proof.Machine.execPurge link tag body s
  | .readClass link tag body => Sys2Proof.Machine.execReadClass link tag body s
  | .readSlot link tag body => Sys2Proof.Machine.execReadSlot link tag body s
  | .readBin link tag body => Sys2Proof.Machine.execReadBin link tag body s
  | .readAttention link tag body => Sys2Proof.Machine.execReadAttention link tag body s
  | .readStatus link tag body => Sys2Proof.Machine.execReadStatus link tag body s
  | .badCheckFrame link => Sys2Proof.Machine.execBadCheckFrame link s
  | .unknownKindFrame link kind tag body => Sys2Proof.Machine.execUnknownKindFrame link kind tag body s
  | .frameGapExpiry link => Sys2Proof.Machine.execFrameGapExpiry link s
  | .frameSent link => Sys2Proof.Machine.execFrameSent link s
  | .laneEntry l => Sys2Proof.Machine.execLaneEntry l s
  | .laneJam l => Sys2Proof.Machine.execLaneJam l s
  | .transitTimerExpiry l => Sys2Proof.Machine.execTransitTimerExpiry l s
  | .collectionTimerExpiry n => Sys2Proof.Machine.execCollectionTimerExpiry n s
  | .transferDone => Sys2Proof.Machine.execTransferDone s
  | .jogDone => Sys2Proof.Machine.execJogDone s
  | .stapleDone => Sys2Proof.Machine.execStapleDone s
  | .stapleMisfire => Sys2Proof.Machine.execStapleMisfire s
  | .ejectDone => Sys2Proof.Machine.execEjectDone s
  | .finisherJam => Sys2Proof.Machine.execFinisherJam s
  | .stageLimitExpiry => Sys2Proof.Machine.execStageLimitExpiry s
  | .binFull b => Sys2Proof.Machine.execBinFull b s
  | .binRemoved b => Sys2Proof.Machine.execBinRemoved b s
  | .binReplaced b => Sys2Proof.Machine.execBinReplaced b s
  | .exceptionTrayEmptied => Sys2Proof.Machine.execExceptionTrayEmptied s
  | .cartridgeInserted => Sys2Proof.Machine.execCartridgeInserted s
  | .take => Sys2Proof.Machine.execTake s
  | .slotGift n => Sys2Proof.Machine.execSlotGift n s
  | .purgeCompletion => Sys2Proof.Machine.execPurgeCompletion s
  | .byteReceived link byte => Sys2Proof.Machine.execByteReceived link byte s

end Sys2Proof.Machine
end

