-- ==== Sys2Proof/WellFormed.lean ====
section
/-! DEFINITION. Which commands are events the block can meet: a body fits its length byte, and a frame of the row
UNKNOWN_KIND_FRAME names no downstream kind. Lanes, slots and bins are in range by their types. -/

namespace Sys2Proof

/-- The length byte carries 0 to 255 body bytes (R151). -/
def bodyFits (body : List Byte) : Bool := decide (body.length ≤ 255)

/-- The kind codes of the downstream frames, from the table of R151. -/
def downstreamCodes : List Byte :=
  [0x01#8, 0x10#8, 0x11#8, 0x12#8, 0x13#8, 0x14#8, 0x15#8, 0x16#8, 0x17#8, 0x18#8, 0x20#8, 0x21#8, 0x22#8, 0x23#8,
    0x24#8, 0x25#8, 0x26#8, 0x30#8, 0x31#8, 0x32#8, 0x33#8, 0x34#8]

/-- A command that the environment can send. -/
def Instr.wellFormed : Instr → Bool
  | .sheetAnnounce _ body => bodyFits body
  | .loadClass _ _ body => bodyFits body
  | .unloadClass _ _ body => bodyFits body
  | .lockClass _ _ body => bodyFits body
  | .setRosterMarkExcuse _ _ fields => decide (fields.length ≤ 254)
  | .setRosterMarkExpect _ _ fields => decide (fields.length ≤ 254)
  | .setRosterMarkRetry _ _ fields => decide (fields.length ≤ 254)
  | .closeClass _ _ body => bodyFits body
  | .loadAssignment _ _ body => bodyFits body
  | .loadMedia _ _ body => bodyFits body
  | .loadSettings _ _ body => bodyFits body
  | .loadBin _ _ body => bodyFits body
  | .laneClear _ _ body => bodyFits body
  | .finisherClearRetry _ _ fields => decide (fields.length ≤ 254)
  | .finisherClearRemoved _ _ fields => decide (fields.length ≤ 254)
  | .fenceSlot _ _ body => bodyFits body
  | .unfenceSlot _ _ body => bodyFits body
  | .suspendFinishing _ _ body => bodyFits body
  | .resumeFinishing _ _ body => bodyFits body
  | .purge _ _ body => bodyFits body
  | .readClass _ _ body => bodyFits body
  | .readSlot _ _ body => bodyFits body
  | .readBin _ _ body => bodyFits body
  | .readAttention _ _ body => bodyFits body
  | .readStatus _ _ body => bodyFits body
  | .unknownKindFrame _ kind _ body => bodyFits body && !downstreamCodes.contains kind
  | .powerOn => true
  | .badCheckFrame _ => true
  | .frameGapExpiry _ => true
  | .frameSent _ => true
  | .laneEntry _ => true
  | .laneJam _ => true
  | .transitTimerExpiry _ => true
  | .collectionTimerExpiry _ => true
  | .transferDone => true
  | .jogDone => true
  | .stapleDone => true
  | .stapleMisfire => true
  | .ejectDone => true
  | .finisherJam => true
  | .stageLimitExpiry => true
  | .binFull _ => true
  | .binRemoved _ => true
  | .binReplaced _ => true
  | .exceptionTrayEmptied => true
  | .cartridgeInserted => true
  | .take => true
  | .slotGift _ => true
  | .purgeCompletion => true
  | .byteReceived _ _ => true

end Sys2Proof
end

