-- ==== Sys2Proof/Safety.lean ====
section
/-! DEFINITION. What a good state is, in the terms the statements use: one predicate for each law that the spec says the
block keeps; and the words in which a statement says what an event changed and what it left. -/

namespace Sys2Proof.Safety

open Sys2Proof.Machine

/-! ## Tables and queues -/

/-- The settings lie in the ranges of R21. -/
def SettingsInRange (t : Settings) : Prop :=
  (2 ≤ t.transitWindow ∧ t.transitWindow ≤ 100) ∧ (10 ≤ t.collectionWindow ∧ t.collectionWindow ≤ 900)
    ∧ (16 ≤ t.loftPlain ∧ t.loftPlain ≤ 40) ∧ (16 ≤ t.loftStapled ∧ t.loftStapled ≤ 40) ∧ (4 ≤ t.scale ∧ t.scale ≤ 8)
    ∧ (500 ≤ t.staplerCapacity ∧ t.staplerCapacity ≤ 6000) ∧ (100 ≤ t.cartridgeFull ∧ t.cartridgeFull ≤ 5000)
    ∧ (5 ≤ t.transferLimit ∧ t.transferLimit ≤ 50) ∧ (5 ≤ t.jogLimit ∧ t.jogLimit ≤ 50)
    ∧ (5 ≤ t.stapleLimit ∧ t.stapleLimit ≤ 50) ∧ (5 ≤ t.ejectLimit ∧ t.ejectLimit ≤ 100)
    ∧ (50 ≤ t.exceptionCapacity ∧ t.exceptionCapacity ≤ 500)

/-- Settings, thicknesses and sheet counts lie in the ranges of R18, R20 and R21, and the supply does not exceed the
cartridge full count (R106). -/
def TablesInRange (s : State) : Prop :=
  SettingsInRange s.settings
    ∧ (∀ i : Fin 16, ∀ t, s.tables.media[i.val] = some t → 40 ≤ t ∧ t ≤ 400)
    ∧ (∀ i : Fin 32, ∀ a, s.tables.assignments[i.val] = some a → 1 ≤ a.sheetCount ∧ a.sheetCount ≤ 40)
    ∧ s.fin.supply ≤ s.settings.cartridgeFull

/-- Announce queues hold at most 6 entries (R25) and transmit queues at most 128 frames (R147). -/
def QueuesBounded (s : State) : Prop :=
  ∀ l, (s.lane l).queue.length ≤ Config.queueRoom ∧ (s.link l).tx.length ≤ Config.txRoom

/-! ## Classes -/

/-- A class record as R2, R3, R5 and R6 have it: fields absent in EMPTY only, a roster of exactly size entries, the cursor
between 0 and the size, no RELEASED or DELIVERED rank at or above the cursor, and a WAITING or OPEN rank at it. -/
def ClassKept (r : ClassRec) : Prop :=
  (r.state = .empty ↔ r.body = none) ∧ r.cursor ≤ r.size
    ∧ (r.state = .empty → r.locked = false ∧ r.priority = false)
    ∧ (∀ b, r.body = some b → b.roster.length = b.size ∧ 1 ≤ b.size ∧ b.size ≤ 40)
    ∧ (∀ k, r.cursor ≤ k → r.rankAt k ≠ some .released ∧ r.rankAt k ≠ some .delivered)
    ∧ (r.cursor < r.size → r.rankAt r.cursor = some .waiting ∨ r.rankAt r.cursor = some .opened)

/-- Every class record is kept. -/
def ClassesKept (s : State) : Prop := ∀ c, ClassKept (s.classRec c)

/-! ## Bins and the Finishing Unit -/

/-- The units the current packet holds reserved in a bin (R128). -/
def reservedBy (c : Option Current) (b : Fin 17) : Nat :=
  match c with
  | some x => if x.target = .bin b then x.units else 0
  | none => 0

/-- The unit works on at most one packet: on none in IDLE and SUSPENDED, and on one in a stage (R107). -/
def CurrentFits (f : Finisher) : Prop :=
  (f.unit = .idle ∨ f.unit = .suspended → f.current = none) ∧ (f.unit.running ≠ none → f.current ≠ none)

/-- Fill plus reserved never exceeds capacity (R132); the reserved units are the current packet's in its target bin and 0
elsewhere (R128); the unit's current packet fits its state (R107). -/
def BinsKept (s : State) : Prop :=
  CurrentFits s.fin
    ∧ ∀ b, (s.bin b).fill + (s.bin b).reserved ≤ (s.bin b).capacity ∧ (s.bin b).reserved = reservedBy s.fin.current b

/-- The stage timer runs exactly while a stage runs (R106, R114). -/
def StageTimerRuns (s : State) : Prop := s.fin.timer.isSome = s.fin.unit.running.isSome

/-! ## Lanes -/

/-- The transit timer runs toward the head's deadline while the lane is RUNNING or HELD with a queue that is not empty, and
is stopped otherwise (R36). -/
def TransitWatchesHead (s : State) : Prop :=
  ∀ l, (s.lane l).transit = if (s.lane l).inFault then none else (s.lane l).queue.head?.map Entry.deadline

/-- A RUNNING lane has no hold condition in force and a HELD lane has one (R44). -/
def HoldsSettled (s : State) : Prop :=
  ∀ l, ((s.lane l).state = .running → s.holdCondition l = false) ∧ ((s.lane l).state = .held → s.holdCondition l = true)

/-- Collection timers are frozen while a lane is in FAULT, and none is frozen otherwise (R66, R67). -/
def TimersFrozenInFault (s : State) : Prop :=
  ∀ p ∈ s.packets, (s.anyFault → p.timer.isRunning = false) ∧ (s.anyFault = false → ∀ t, p.timer ≠ .frozen t)

/-- Every UNPLACED entry waits for a key that is in the unplaced list (R7, R34, R40). -/
def UnplacedEntriesListed (s : State) : Prop :=
  ∀ l, ∀ e ∈ (s.lane l).queue, e.verdict = .unplaced → s.isUnplaced e.key = true

/-- Each key of the unplaced list stands in it once and has an UNPLACED entry in one of the queues, and a Purge in progress
finds the list empty (R56, R74). -/
def KeysWaitInQueues (s : State) : Prop :=
  (s.unplaced.map Waiting.key).Nodup ∧ (s.purge ≠ .idle → s.unplaced = [])
    ∧ ∀ u ∈ s.unplaced, ∃ l, ∃ e ∈ (s.lane l).queue, e.key = u.key ∧ e.verdict = .unplaced

/-! ## Heights -/

/-- The sheets a packet has received, by its next body index and its cover pocket (R55, R61, R62). -/
def Packet.sheetsFit (p : Packet) : Prop :=
  1 ≤ p.snapshot.sheetCount ∧ p.snapshot.sheetCount ≤ 40 ∧ p.nextBody ≤ p.snapshot.sheetCount + 1
    ∧ p.sheetsHeld + (if p.snapshot.cover then 2 else 1) ≤ p.nextBody + (if p.coverReceived then 1 else 0)
    ∧ (p.coverReceived = true → p.snapshot.cover = true)

/-- Every packet holds at most the sheets its indices admit, each of at most 400 um (R20, R63, R96). -/
def HeightsKept (s : State) : Prop := ∀ p ∈ s.packets, Packet.sheetsFit p ∧ p.height ≤ 400 * p.sheetsHeld

/-! ## The tower -/

/-- The rank states that go with a packet state (R51, R77). -/
def PacketState.fitsRank : PacketState → Option RankState → Prop
  | .collecting, r => r = some .opened
  | .held, r => r = some .held
  | .queued, r => r = some .released ∨ r = some .relieved ∨ r = some .missed
  | .finishing, r => r = some .released ∨ r = some .relieved ∨ r = some .missed

/-- The slot states that go with a packet state (R50). -/
def PacketState.fitsSlot : PacketState → SlotHold → Prop
  | .collecting, h => h = .collecting
  | .held, h => h = .held
  | .queued, h => h = .queued
  | .finishing, h => h = .queued

/-- A packet stands where its state says: its rank and class, its timer, its list or queue, its slot (R50, R51, R53). -/
structure PacketKept (s : State) (p : Packet) : Prop where
  active : (s.classRec p.key.cls).state = .active
  rank : PacketState.fitsRank p.state (s.rankAt p.key)
  timer : p.timer ≠ .stopped → p.state = .collecting
  held : p.state = .held → p.key ∈ s.held
  queued : p.state = .queued → ∃ q ∈ s.queued, q.key = p.key
  current : p.state = .finishing → ∃ c, s.fin.current = some c ∧ c.key = p.key
  gone : p.slot = none → p.state = .finishing
  slot : ∀ n, p.slot = some n → ∃ h m, s.slot n = .occupied h m p.key ∧ PacketState.fitsSlot p.state h

/-- The packet map, the slots, the unplaced list, the held list, the finishing queues, the current packet and the ranks agree
(R49 to R53, R56, R59, R73, R84, R94, R106, R107, R108): keys rise strictly, so no two packets share one, and each list names
exactly the packets in its state. -/
structure TowerKept (s : State) : Prop where
  keysRise : s.packets.Pairwise (fun p q => p.key.below q.key = true)
  packets : ∀ p ∈ s.packets, PacketKept s p
  waiting : ∀ u ∈ s.unplaced, (s.classRec u.key.cls).state = .active ∧ s.rankAt u.key = some .waiting
    ∧ (s.assignmentOf u.key.cls).isSome
  waitingOnce : (s.unplaced.map Waiting.key).Nodup
  noIdleSlot : s.unplaced ≠ [] → s.lowestFree = none
  heldOnce : s.held.Nodup
  heldPackets : ∀ k ∈ s.held, ∃ p ∈ s.packets, p.key = k ∧ p.state = .held
  queuedOnce : (s.queued.map Queued.key).Nodup
  queuedPackets : ∀ q ∈ s.queued, ∃ p ∈ s.packets, p.key = q.key ∧ p.state = .queued
  currentPacket : ∀ c, s.fin.current = some c → ∃ p ∈ s.packets, p.key = c.key ∧ p.state = .finishing
  currentFits : CurrentFits s.fin
  transferred : ∀ c, s.fin.current = some c → s.fin.unit.running ≠ none → s.fin.unit.running ≠ some .transfer →
    s.slotOf c.key = none
  occupied : ∀ n h m k, s.slot n = .occupied h m k → ∃ p ∈ s.packets, p.key = k ∧ p.slot = some n
  openRanks : ∀ k, s.rankAt k = some .opened → ∃ p ∈ s.packets, p.key = k ∧ p.state = .collecting
  heldRanks : ∀ k, s.rankAt k = some .held → ∃ p ∈ s.packets, p.key = k ∧ p.state = .held
  doneClasses : ∀ c, (s.classRec c).state = .done →
    (s.classRec c).cursor = (s.classRec c).size ∧ (s.classRec c).countOf .waiting = 0

/-- The states that a rank of one class generation may have after an event, by its state before: the changes of the table of R77,
and those that one event makes in a row. -/
def RankState.mayBecome : RankState → List RankState
  | .excused => [.excused, .waiting]
  | .waiting => [.waiting, .excused, .opened, .missed]
  | .opened => [.opened, .waiting, .held, .released, .relieved, .missed]
  | .held => [.held, .released, .relieved, .missed]
  | .released => [.released, .delivered, .missed]
  | .relieved => [.relieved, .missed]
  | .delivered => [.delivered]
  | .missed => [.missed, .waiting]

/-! ## What an event changed -/

/-- The parts of the state. -/
inductive Part where
  | now
  | laneA
  | laneB
  | linkA
  | linkB
  | stamp
  | classes
  | tables
  | slots
  | packets
  | unplaced
  | held
  | queued
  | fin
  | bins
  | tray
  | flags
  | purge
  | actions
  | pending
deriving DecidableEq, Repr

/-- The Lane Unit's part of the state. -/
def Part.lane : Lane → Part
  | .a => .laneA
  | .b => .laneB

/-- The link's part of the state. -/
def Part.link : Lane → Part
  | .a => .linkA
  | .b => .linkB

/-- A part of the state is the same in two states. -/
def Part.Same (s t : State) : Part → Prop
  | .now => t.now = s.now
  | .laneA => t.laneA = s.laneA
  | .laneB => t.laneB = s.laneB
  | .linkA => t.linkA = s.linkA
  | .linkB => t.linkB = s.linkB
  | .stamp => t.stamp = s.stamp
  | .classes => t.classes = s.classes
  | .tables => t.tables = s.tables
  | .slots => t.slots = s.slots
  | .packets => t.packets = s.packets
  | .unplaced => t.unplaced = s.unplaced
  | .held => t.held = s.held
  | .queued => t.queued = s.queued
  | .fin => t.fin = s.fin
  | .bins => t.bins = s.bins
  | .tray => t.tray = s.tray
  | .flags => t.flags = s.flags
  | .purge => t.purge = s.purge
  | .actions => t.actions = s.actions
  | .pending => t.pending = s.pending

/-- Between two states nothing but the listed parts has changed. -/
def OnlyChanges (ps : List Part) (s t : State) : Prop := ∀ p, p ∉ ps → p.Same s t

/-- The five conditions of relief (R85). -/
def ReliefDue (s : State) : Prop :=
  s.unplaced ≠ [] ∧ (∀ n, s.slot n ≠ .free) ∧ s.queued = [] ∧ (∀ c, s.fin.current = some c → s.slotOf c.key = none)
    ∧ s.held ≠ []

/-- An event that has had its other effects in `u` tries relief and ends (R86): where the five conditions hold, relief is
performed and the packet it queues is offered to a selection pass (R87, R109); where one fails, nothing follows. -/
def EndsWithRelief (u : State) (o : Host.Outcome State Fault Refusal) : Prop :=
  (ReliefDue u → o = .next (selectionPass (tryRelief u))) ∧ (¬ReliefDue u → o = .next u)

/-- The frame an unsolicited report or a Hold or Release makes on a link: tag and number (R148), attention bit (R155). -/
def sentLink (k : Link) (attention : Bool) (kind : UpKind) (body : List Byte) : Link :=
  { rx := k.rx, tx := joinTx { kind := kind, attention := attention, tag := k.seq, body := body } k.tx, seq := k.seq + 1#8 }

/-- A lane that is HELD is released by the pop of its head: no sixth entry and no UNPLACED one stays, the tray count is below its
threshold, and no Purge is in progress (R38, R44). -/
abbrev PopReleases (l : Lane) (rest : List Entry) (s : State) : Prop :=
  (s.lane l).state = .held ∧ rest.length < 6 ∧ (∀ d ∈ rest, d.verdict ≠ .unplaced)
    ∧ s.tray < s.settings.exceptionCapacity - 12 ∧ s.purge = .idle

/-- A lane, RUNNING or HELD, once an arrival has popped its head (R36, R38, R44). -/
def poppedLane (l : Lane) (rest : List Entry) (s : State) : LaneUnit :=
  { s.lane l with
    queue := rest, transit := rest.head?.map Entry.deadline, state := if PopReleases l rest s then .running else (s.lane l).state }

/-- A link once an arrival on lane `l` has popped its head: the Release of the pop is on it, or nothing more (R38, R44). -/
def poppedLink (l : Lane) (rest : List Entry) (s : State) (m : Lane) : Link :=
  if m = l ∧ PopReleases l rest s then sentLink (s.link m) s.attention .release [] else s.link m

/-- The reason codes of a Sheet Exception (R160). -/
def reasonByte : Reason → Byte
  | .purging => 1#8
  | .noClass => 2#8
  | .staleGeneration => 3#8
  | .badRank => 4#8
  | .badMedia => 5#8
  | .rankExcused => 6#8
  | .rankClosed => 7#8
  | .rankDone => 8#8
  | .countMismatch => 9#8
  | .badIndex => 10#8
  | .noAssignment => 11#8
  | .duplicate => 12#8
  | .noSlot => 13#8
  | .unannounced => 14#8
  | .laneFault => 15#8

/-- An arrival on lane `l` has popped `e` and its sheet has been diverted (R28, R38, R42, R160): stamp, divert gate, tray count,
which raises EXCEPTION_TRAY_FULL at its threshold and holds both lanes where it reaches it (R138), then the Sheet Exception with
the entry's fields on the report lane, then SHEET_DIVERTED. -/
def DivertsPopped (l : Lane) (e : Entry) (rest : List Entry) (reason : Reason) (s t : State) : Prop :=
  let threshold := s.settings.exceptionCapacity - 12
  let flags := if threshold ≤ s.tray + 1 then s.flags ||| BitVec.twoPow 12 3 else s.flags
  let lane := fun m => if m = l then poppedLane l rest s else s.lane m
  let holds := fun m => s.tray < threshold ∧ threshold ≤ s.tray + 1 ∧ (lane m).state = .running
  let link := fun m => if holds m then sentLink (poppedLink l rest s m) true .hold [] else poppedLink l rest s m
  t.stamp = s.stamp + 1#32 ∧ t.tray = s.tray + 1 ∧ t.actions = [.divertGate l true] ∧ t.flags = flags ||| BitVec.twoPow 12 9
    ∧ (∀ m, t.lane m = if holds m then { lane m with state := .held } else lane m)
    ∧ ∀ m, t.link m = if m = s.settings.reportLane then
        sentLink (link m) (flags != 0#12) .sheetException
          ([match l with | .a => 0#8 | .b => 1#8, reasonByte reason] ++ be32 (s.stamp + 1#32) ++ [1#8]
            ++ be16 e.jobTag.toNat ++ [e.cls, e.generation, e.rank, e.index] ++ be32 e.order)
      else link m

/-- Both parts of a Purge's completion are met (R163). -/
def PurgePartsMet (s : State) : Prop := (∀ l, (s.lane l).queue = []) ∧ ∀ n, s.slot n = .free ∨ s.slot n = .fenced

/-- The end of the Purge of a request with a tag on link `l` (R163, R48): IDLE, any sequence expected, a Release of each HELD lane
that the tray count does not hold, then the Reply. -/
def PurgeEnds (l : Lane) (tag : Byte) (s t : State) : Prop :=
  let releases := fun m => (s.lane m).state = .held ∧ s.tray < s.settings.exceptionCapacity - 12
  let link := fun m => if releases m then sentLink (s.link m) s.attention .release [] else s.link m
  let answer : Frame := { kind := .reply, attention := s.attention, tag := tag, body := [0#8, 0x26#8] }
  t.purge = .idle
    ∧ (∀ m, t.lane m = { s.lane m with expected := none, state := if releases m then .running else (s.lane m).state })
    ∧ (∀ m, t.link m = if m = l then { link m with tx := joinTx answer (link m).tx } else link m)
    ∧ OnlyChanges [.laneA, .laneB, .linkA, .linkB, .purge] s t

/-- An event that has had its other effects in `u` makes the completion test of a Purge and ends (R163): a Purge in progress whose
parts are both met ends, and nothing follows otherwise. -/
def EndsWithPurgeTest (u : State) (o : Host.Outcome State Fault Refusal) : Prop :=
  (u.purge = .idle ∨ ¬PurgePartsMet u → o = .next u)
    ∧ ∀ l tag, u.purge = .inProgress l tag → PurgePartsMet u → ∃ t, o = .next t ∧ PurgeEnds l tag u t

/-- The five checks of R31 passed: no Purge, a record that is not EMPTY, its generation, a rank of it, a LOADED media code. -/
abbrev PassesIdentity (x : Announcement) (s : State) : Prop :=
  let r := s.classRec x.cls.toNat
  s.purge = .idle ∧ r.state ≠ .empty ∧ x.generation = r.generation ∧ x.rank.toNat < r.size
    ∧ ∃ i : Fin 16, i.val = x.media.toNat ∧ s.tables.media[i.val] ≠ none

/-- Every sheet of a packet is in it: the next body index above the sheet count, and the cover received where there is one
(R64). -/
abbrev AllSheetsIn (p : Packet) : Prop :=
  p.snapshot.sheetCount < p.nextBody ∧ (p.snapshot.cover = true → p.coverReceived = true)

/-- A link after the completion of a request's frame and one Reply to it (R141, R145, R147, R148, R152). -/
def answeredLink (k : Link) (attention : Bool) (tag : Byte) (code : ReplyCode) (kind : Byte) (data : List Byte) : Link :=
  { rx := .hunt,
    tx := joinTx { kind := .reply, attention := attention, tag := tag, body := code.code :: kind :: data } k.tx,
    seq := k.seq }

/-- A request on a link has been answered by one Reply, with the attention-pending bit as it stood before. -/
def Answers (l : Lane) (tag : Byte) (code : ReplyCode) (kind : Byte) (data : List Byte) (s t : State) : Prop :=
  t.link l = answeredLink (s.link l) s.attention tag code kind data

/-- A request on a link has been answered by one Reply and has had no other effect (R1, R143, R146). -/
def TurnedAway (l : Lane) (tag : Byte) (code : ReplyCode) (kind : Byte) (s t : State) : Prop :=
  Answers l tag code kind [] s t ∧ t.actions = [] ∧ OnlyChanges [.link l, .actions] s t

/-! ## Commands as frames on a line -/

/-- The link, kind code, tag and body of the frame that a request row stands for; none for a row that is no request. The
kind codes are those of the table of R151. -/
def requestFrame : Instr → Option (Lane × Byte × Byte × List Byte)
  | .loadClass l tag body => some (l, 0x10#8, tag, body)
  | .unloadClass l tag body => some (l, 0x11#8, tag, body)
  | .lockClass l tag body => some (l, 0x12#8, tag, body)
  | .setRosterMarkExcuse l tag fields => some (l, 0x13#8, tag, fields ++ [0#8])
  | .setRosterMarkExpect l tag fields => some (l, 0x13#8, tag, fields ++ [1#8])
  | .setRosterMarkRetry l tag fields => some (l, 0x13#8, tag, fields ++ [2#8])
  | .closeClass l tag body => some (l, 0x14#8, tag, body)
  | .loadAssignment l tag body => some (l, 0x15#8, tag, body)
  | .loadMedia l tag body => some (l, 0x16#8, tag, body)
  | .loadBin l tag body => some (l, 0x17#8, tag, body)
  | .loadSettings l tag body => some (l, 0x18#8, tag, body)
  | .laneClear l tag body => some (l, 0x20#8, tag, body)
  | .finisherClearRetry l tag fields => some (l, 0x21#8, tag, fields ++ [0#8])
  | .finisherClearRemoved l tag fields => some (l, 0x21#8, tag, fields ++ [1#8])
  | .suspendFinishing l tag body => some (l, 0x22#8, tag, body)
  | .resumeFinishing l tag body => some (l, 0x23#8, tag, body)
  | .fenceSlot l tag body => some (l, 0x24#8, tag, body)
  | .unfenceSlot l tag body => some (l, 0x25#8, tag, body)
  | .purge l tag body => some (l, 0x26#8, tag, body)
  | .readAttention l tag body => some (l, 0x30#8, tag, body)
  | .readClass l tag body => some (l, 0x31#8, tag, body)
  | .readSlot l tag body => some (l, 0x32#8, tag, body)
  | .readBin l tag body => some (l, 0x33#8, tag, body)
  | .readStatus l tag body => some (l, 0x34#8, tag, body)
  | .powerOn => none
  | .sheetAnnounce _ _ => none
  | .badCheckFrame _ => none
  | .unknownKindFrame _ _ _ _ => none
  | .frameGapExpiry _ => none
  | .frameSent _ => none
  | .laneEntry _ => none
  | .laneJam _ => none
  | .transitTimerExpiry _ => none
  | .collectionTimerExpiry _ => none
  | .transferDone => none
  | .jogDone => none
  | .stapleDone => none
  | .stapleMisfire => none
  | .ejectDone => none
  | .finisherJam => none
  | .stageLimitExpiry => none
  | .binFull _ => none
  | .binRemoved _ => none
  | .binReplaced _ => none
  | .exceptionTrayEmptied => none
  | .cartridgeInserted => none
  | .take => none
  | .slotGift _ => none
  | .purgeCompletion => none
  | .byteReceived _ _ => none

/-- The body length that the table of R151 gives for a request's kind code. -/
def requestLength (kind : Byte) : Option Nat :=
  if kind = 0x10#8 then some 45
  else if kind = 0x11#8 ∨ kind = 0x12#8 ∨ kind = 0x14#8 then some 1
  else if kind = 0x13#8 then some 3
  else if kind = 0x15#8 then some 4
  else if kind = 0x16#8 ∨ kind = 0x17#8 then some 3
  else if kind = 0x18#8 then some 17
  else if kind = 0x20#8 ∨ kind = 0x21#8 ∨ kind = 0x24#8 ∨ kind = 0x25#8 then some 1
  else if kind = 0x22#8 ∨ kind = 0x23#8 ∨ kind = 0x26#8 then some 0
  else if kind = 0x31#8 ∨ kind = 0x32#8 ∨ kind = 0x33#8 then some 1
  else if kind = 0x30#8 ∨ kind = 0x34#8 then some 0
  else none

/-- The command of a Set Roster Mark frame with a mark (R13). -/
def markCommand (m : RosterMark) (l : Lane) (tag c k : Byte) : Instr :=
  match m with
  | .excuse => .setRosterMarkExcuse l tag [c, k]
  | .expect => .setRosterMarkExpect l tag [c, k]
  | .retry => .setRosterMarkRetry l tag [c, k]

/-- Commands that complete a byte on a line: what they lead to depends on the bytes before (R141). -/
def isByte : Instr → Bool
  | .byteReceived _ _ => true
  | _ => false

/-- The run of a list of received bytes on a link, one command each, with nothing else waiting. -/
def receives (l : Lane) (bytes : List Byte) (s : State) : Host.Outcome State Fault Refusal :=
  Host.Core.run Sys2Proof.core bytes.length (s.setPending (bytes.map (Instr.byteReceived l)))

end Sys2Proof.Safety
end

