-- ==== Sys2Proof/Certificates/Slice0/Obligations.lean ====
section
/-! DEFINITION. The statements for the provers, each from the rules of spec/ that its docstring names. -/

section Statements

open Sys2Proof Sys2Proof.Machine Sys2Proof.Safety

/-! ## The step, time and power-on -/

/-- A step with a command waiting is that command's event on the state with the queue's rest (the model's own queue: log
entry 20). -/
def Obligations.StepRunsTheFrontCommand : Prop :=
  ∀ (c : Instr) (rest : List Instr) (s : State), s.pending = c :: rest → step s = exec c (s.setPending rest)

/-- A step with no command waiting is one millisecond: the clock, the running collection timers, the stage timer and the
gap timers (the model's own choice: log entry 1). -/
def Obligations.IdleStepPassesOneMillisecond : Prop :=
  ∀ s : State, s.pending = [] → ∃ t, step s = .next t ∧ t.now = s.now + 1 ∧ t.actions = []
    ∧ t.packets = s.packets.map (fun p => { p with timer := match p.timer with
        | .running n => .running (n - 1)
        | .frozen n => .frozen n
        | .stopped => .stopped })
    ∧ t.fin = { s.fin with timer := s.fin.timer.map (fun n => n - 1) }
    ∧ (∀ l, t.link l = { s.link l with rx := match (s.link l).rx with
        | .hunt => .hunt
        | .collecting bytes n gap => .collecting bytes n (gap - 1) })
    ∧ OnlyChanges [.now, .packets, .fin, .linkA, .linkB, .actions] s t

/-- The state after power-on satisfies every law that the step keeps. -/
def Obligations.ResetSatisfiesTheLaws : Prop :=
  TablesInRange State.reset ∧ QueuesBounded State.reset ∧ ClassesKept State.reset ∧ BinsKept State.reset
    ∧ StageTimerRuns State.reset ∧ TransitWatchesHead State.reset ∧ HoldsSettled State.reset
    ∧ TimersFrozenInFault State.reset ∧ UnplacedEntriesListed State.reset ∧ TowerKept State.reset
    ∧ HeightsKept State.reset ∧ KeysWaitInQueues State.reset

/-- Power-on gives all state the values of State.reset, the waiting commands apart (log entry 13), and these are the power-on values of
R3, R18, R20, R21, R25, R28, R49, R51, R56, R84, R106, R128, R137, R141, R147, R148, R153 and R162. -/
def Obligations.PowerOnGivesThePowerOnValues : Prop :=
  (∀ s : State, exec .powerOn s = .next (State.reset.setPending s.pending))
  ∧ (let s := State.reset
  (∀ c, c < 48 → (s.classRec c).state = .empty ∧ (s.classRec c).generation = 0#8 ∧ (s.classRec c).locked = false
      ∧ (s.classRec c).priority = false ∧ (s.classRec c).cursor = 0 ∧ (s.classRec c).body = none)
    ∧ (∀ i : Fin 32, s.tables.assignments[i.val] = none) ∧ (∀ i : Fin 16, s.tables.media[i.val] = none)
    ∧ s.settings = { transitWindow := 20, collectionWindow := 120, loftPlain := 16, loftStapled := 20, scale := 6,
                     staplerCapacity := 4000, cartridgeFull := 2000, transferLimit := 20, jogLimit := 15,
                     stapleLimit := 10, ejectLimit := 30, exceptionCapacity := 250, reportLane := .a }
    ∧ (∀ l, s.lane l = { state := .running, queue := [], expected := none, counter := 0#32, transit := none })
    ∧ s.stamp = 0#32 ∧ (∀ n, s.slot n = .free) ∧ s.packets = [] ∧ s.unplaced = [] ∧ s.held = [] ∧ s.queued = []
    ∧ s.fin = { unit := .idle, timer := none, current := none, supply := 0 }
    ∧ (∀ b, s.bin b = { state := .unloaded, capacity := 0, fill := 0, reserved := 0, jogSide := .left }) ∧ s.tray = 0
    ∧ (∀ l, s.link l = { rx := .hunt, tx := [], seq := 0#8 }) ∧ s.flags = 0#12 ∧ s.purge = .idle ∧ s.pending = [])

/-! ## Laws that every step keeps -/

/-- R132, with the reserved units of R128: fill plus reserved never exceeds capacity, and the reserved units of a bin are the
current packet's units in its target and 0 elsewhere. -/
def Obligations.EveryStepKeepsTheBins : Prop :=
  ∀ s t : State, BinsKept s → step s = .next t → BinsKept t

/-- R44: a RUNNING lane has no hold condition in force and a HELD lane has one, after every event. R36: the transit timer runs toward
the head's deadline exactly while a lane not in FAULT has a head. R7, R34, R40 and R46: an UNPLACED entry always waits for a key of the
unplaced list. R56: each key of the list has an UNPLACED entry in a queue, so the list holds at most 12 keys. -/
def Obligations.EveryStepKeepsTheLanes : Prop :=
  (∀ s t : State, HoldsSettled s → step s = .next t → HoldsSettled t)
  ∧ (∀ s t : State, TransitWatchesHead s → step s = .next t → TransitWatchesHead t)
  ∧ (∀ s t : State, UnplacedEntriesListed s → step s = .next t → UnplacedEntriesListed t)
  ∧ (∀ s t : State, KeysWaitInQueues s → step s = .next t → KeysWaitInQueues t)
  ∧ (∀ s : State, QueuesBounded s → KeysWaitInQueues s → s.unplaced.length ≤ 12)

/-- R25 and R147: at most 6 announce queue entries on a lane and at most 128 frames in a transmit queue. R18, R20, R21 and R106:
settings, thicknesses and sheet counts stay in their ranges, and the staple supply does not exceed the cartridge full count. R96 and
R102: a packet holds at most the sheets its indices admit, so its height is at most 16000 um and its units at most 2500. -/
def Obligations.EveryStepKeepsTheBounds : Prop :=
  (∀ s t : State, QueuesBounded s → step s = .next t → QueuesBounded t)
  ∧ (∀ s t : State, TablesInRange s → step s = .next t → TablesInRange t)
  ∧ (∀ s t : State, TablesInRange s → HeightsKept s → step s = .next t → HeightsKept t)
  ∧ (∀ s : State, SettingsInRange s.settings → HeightsKept s →
    ∀ p ∈ s.packets, p.height ≤ 16000 ∧ (budgetOf s.settings p).units ≤ 2500)

/-- R2, R5, R6 and R79: class records keep their shape, and the cursor of a class rests at its size or on a WAITING or OPEN
rank, with no RELEASED or DELIVERED rank at or above it. -/
def Obligations.EveryStepKeepsTheClasses : Prop :=
  ∀ s t : State, ClassesKept s → step s = .next t → ClassesKept t

/-- R66 and R67: no collection timer runs while a lane is in FAULT, and none is frozen while neither is. R106 and R114: the stage timer
runs exactly while a stage runs. -/
def Obligations.EveryStepKeepsTheTimers : Prop :=
  (∀ s t : State, TimersFrozenInFault s → step s = .next t → TimersFrozenInFault t)
  ∧ (∀ s t : State, StageTimerRuns s → step s = .next t → StageTimerRuns t)

/-- R49 to R53, R56, R84, R106 and R108: the packet map, the slots, the unplaced list, the held list, the finishing queues and the
current packet agree after every event; so the map never holds more than 25 packets, the held list and the queues 24, and no two
packets share a key. -/
def Obligations.EveryStepKeepsTheTower : Prop :=
  (∀ s t : State, TowerKept s → step s = .next t → TowerKept t)
  ∧ (∀ s : State, TowerKept s → s.packets.length ≤ 25 ∧ s.held.length ≤ 24 ∧ s.queued.length ≤ 24
    ∧ ∀ p ∈ s.packets, ∀ q ∈ s.packets, p.key = q.key → p = q)

/-! ## Rules over all commands -/

/-- R12: locked returns to 0 only at power-on. R4: the generation of a class record changes only by a taken Load Class of its number,
which adds 1 modulo 256 (or by power-on). -/
def Obligations.LockAndGenerationChangeOnlyAsSaid : Prop :=
  (∀ (i : Instr) (s t : State) (c : Nat), exec i s = .next t → i ≠ .powerOn → (s.classRec c).locked = true →
    (t.classRec c).locked = true)
  ∧ (∀ (i : Instr) (s t : State) (c : Nat), exec i s = .next t → (t.classRec c).generation ≠ (s.classRec c).generation →
    i = .powerOn ∨ ((isByte i = true ∨ (∃ link tag body, i = .loadClass link tag body ∧ byteAt body 0 = c)
      ∨ ∃ link tag body, i = .unknownKindFrame link 0x10#8 tag body ∧ byteAt body 0 = c)
      ∧ (t.classRec c).generation = (s.classRec c).generation + 1#8 ∧ (t.classRec c).state = .loaded))

/-- R28: each lane entry adds 1 to the sheet stamp, power-on makes it 0, and no other command changes it. R137: the exception tray count
falls only at exception tray emptied (or at power-on). -/
def Obligations.StampAndTrayCountChangeOnlyAsSaid : Prop :=
  (∀ (i : Instr) (s t : State), exec i s = .next t →
    ((∃ l, i = .laneEntry l) → t.stamp = s.stamp + 1#32) ∧ (i = .powerOn → t.stamp = 0#32)
      ∧ ((∀ l, i ≠ .laneEntry l) → i ≠ .powerOn → t.stamp = s.stamp))
  ∧ (∀ (i : Instr) (s t : State), exec i s = .next t → t.tray < s.tray → i = .powerOn ∨ i = .exceptionTrayEmptied)

/-- R26: a lane leaves FAULT by a taken Lane Clear, and by no other request or event (power-on and the bytes that may complete
a Lane Clear apart). -/
def Obligations.OnlyLaneClearEndsALaneFault : Prop :=
  ∀ (i : Instr) (s t : State) (l : Lane), exec i s = .next t → (s.lane l).inFault = true → (t.lane l).inFault = false →
    i = .powerOn ∨ isByte i = true ∨ (∃ link tag, i = .laneClear link tag [laneCode l])
      ∨ ∃ link tag, i = .unknownKindFrame link 0x20#8 tag [laneCode l]

/-- R153 and R154: a flag that is 1 becomes 0 only by Read Attention (or by power-on); every other command leaves it 1. -/
def Obligations.OnlyReadAttentionClearsAFlag : Prop :=
  ∀ (i : Instr) (s t : State) (c : Cause), exec i s = .next t → s.isPending c = true → t.isPending c = false →
    i = .powerOn ∨ isByte i = true ∨ (∃ link tag, i = .readAttention link tag [])
      ∨ ∃ link tag, i = .unknownKindFrame link 0x30#8 tag []

/-- R77, while a class record keeps its generation and is not EMPTY (power-on apart): a rank changes only as the table of R77 says,
or by two of its changes that one event makes in a row, as where an OPEN rank becomes HELD and is released or relieved (log entry
21). So a DELIVERED rank stays DELIVERED (R95), and no rank leaves its roster. -/
def Obligations.RankChangesFollowTheTable : Prop :=
  ∀ (i : Instr) (s t : State) (k : Key) (x : RankState), TowerKept s → exec i s = .next t → i ≠ .powerOn →
    (t.classRec k.cls).generation = (s.classRec k.cls).generation → (t.classRec k.cls).state ≠ .empty →
    s.rankAt k = some x → ∃ y ∈ RankState.mayBecome x, t.rankAt k = some y

/-! ## Bytes and frames -/

/-- R141 to R145: the bytes of a request's frame, or of a Sheet Announce with any tag, received one by one from HUNT with a good check,
have exactly the effect of the row; so do those of a frame of unknown kind, with UNKNOWN_KIND_FRAME; those of a frame whose check bytes
are not those of R142 have the effect of BAD_CHECK_FRAME. -/
def Obligations.ReceivedFrameBytesRunTheFrame : Prop :=
  (∀ (i : Instr) (l : Lane) (kind tag : Byte) (body : List Byte) (s : State), requestFrame i = some (l, kind, tag, body) →
    body.length ≤ 255 → (s.link l).rx = .hunt →
    receives l (envelope kind tag body) s = exec i (s.setPending []))
  ∧ (∀ (l : Lane) (tag : Byte) (body : List Byte) (s : State), body.length ≤ 255 → (s.link l).rx = .hunt →
    receives l (envelope 0x01#8 tag body) s = exec (.sheetAnnounce l body) (s.setPending []))
  ∧ (∀ (l : Lane) (kind tag : Byte) (body : List Byte) (s : State), kind ∉ downstreamCodes → body.length ≤ 255 →
    (s.link l).rx = .hunt → receives l (envelope kind tag body) s = exec (.unknownKindFrame l kind tag body) (s.setPending []))
  ∧ (∀ (l : Lane) (kind tag c1 c2 : Byte) (body : List Byte) (s : State), body.length ≤ 255 → (s.link l).rx = .hunt →
    [c1, c2] ≠ checkBytes (kind :: tag :: BitVec.ofNat 8 body.length :: body) →
    receives l (0xA5#8 :: kind :: tag :: BitVec.ofNat 8 body.length :: body ++ [c1, c2]) s
      = exec (.badCheckFrame l) (s.setPending []))

/-- R141: a byte on a link in HUNT is discarded unless it is A5, which starts a frame with three bytes expected; in COLLECTING
it is the frame's next byte and restarts the gap of 5 ms, and the length byte says how many bytes are to come. -/
def Obligations.ReceiverCollectsByteByByte : Prop :=
  ∀ (l : Lane) (b : Byte) (s : State), ∃ t, exec (.byteReceived l b) s = .next t
    ∧ ((s.link l).rx = .hunt → b ≠ 0xA5#8 → t.link l = s.link l ∧ OnlyChanges [.actions] s t)
    ∧ ((s.link l).rx = .hunt → b = 0xA5#8 →
        t.link l = { s.link l with rx := .collecting [b] 3 5 } ∧ OnlyChanges [.link l, .actions] s t)
    ∧ (∀ bytes n gap, (s.link l).rx = .collecting bytes n gap → 1 < n →
        t.link l = { s.link l with rx := .collecting (bytes ++ [b]) (n - 1) 5 } ∧ OnlyChanges [.link l, .actions] s t)
    ∧ (∀ bytes gap, (s.link l).rx = .collecting bytes 1 gap → bytes.length = 3 →
        t.link l = { s.link l with rx := .collecting (bytes ++ [b]) (b.toNat + 2) 5 }
          ∧ OnlyChanges [.link l, .actions] s t)

/-- R141: the gap timer's expiry in COLLECTING cuts the frame short: back to HUNT, FRAME_ERROR raised, nothing else; in HUNT it does
nothing (log entry 2). R142: a frame that fails its check gets no Reply and raises FRAME_ERROR. R147: the oldest frame leaves the
transmit queue when it has been sent; with an empty queue nothing happens (log entry 14). -/
def Obligations.FrameErrorsAndSentFrames : Prop :=
  (∀ (l : Lane) (s : State), ∃ t, exec (.frameGapExpiry l) s = .next t ∧ t.actions = []
    ∧ ((s.link l).rx ≠ .hunt → t.link l = { s.link l with rx := .hunt } ∧ t.flags = s.flags ||| BitVec.twoPow 12 10
        ∧ OnlyChanges [.link l, .flags, .actions] s t)
    ∧ ((s.link l).rx = .hunt → OnlyChanges [.actions] s t))
  ∧ (∀ (l : Lane) (s : State), ∃ t, exec (.badCheckFrame l) s = .next t ∧ t.actions = []
    ∧ t.link l = { s.link l with rx := .hunt } ∧ t.flags = s.flags ||| BitVec.twoPow 12 10
    ∧ OnlyChanges [.link l, .flags, .actions] s t)
  ∧ (∀ (l : Lane) (s : State), ∃ t, exec (.frameSent l) s = .next t ∧ t.actions = []
    ∧ t.link l = { s.link l with tx := (s.link l).tx.tail } ∧ OnlyChanges [.link l, .actions] s t)

/-- R143, cases 1 and 2: a kind byte that names no downstream kind, every upstream kind and every byte with its top bit set among them, is
answered KIND; a request whose body has not the length of its kind is answered LENGTH; neither is acted on further. -/
def Obligations.UnknownKindOrLengthIsTurnedAway : Prop :=
  (∀ (l : Lane) (kind tag : Byte) (body : List Byte) (s : State), kind ∉ downstreamCodes →
    ∃ t, exec (.unknownKindFrame l kind tag body) s = .next t ∧ TurnedAway l tag .kind kind s t)
  ∧ (∀ (i : Instr) (l : Lane) (kind tag : Byte) (body : List Byte) (s : State), requestFrame i = some (l, kind, tag, body) →
    requestLength kind ≠ some body.length → ∃ t, exec i s = .next t ∧ TurnedAway l tag .length kind s t)

/-- R148 and R155: a frame that is not a Reply takes the link's number as its tag and the attention bit of the moment, and the number
increases by 1 modulo 256 whether or not it is queued; a Reply leaves the number. R147 and R149: a frame joins the end of a queue with
room; a full queue discards a report or a Reply, and makes room for a Hold or Release by the newest report, else by the newest Reply,
else the newest frame goes and the new one with it. That the oldest frame too, which may be on the line already, can be the one that goes
is the model's choice (log entry 23). -/
def Obligations.QueuedFramesTakeTagsAndRoom : Prop :=
  (∀ (l : Lane) (kind : UpKind) (body data : List Byte) (tag reqKind : Byte) (code : ReplyCode) (s : State),
    (sendUnsolicited l kind body s).link l = sentLink (s.link l) s.attention kind body
    ∧ OnlyChanges [.link l] s (sendUnsolicited l kind body s)
    ∧ ((reply l tag code reqKind data s).link l).seq = (s.link l).seq
    ∧ OnlyChanges [.link l] s (reply l tag code reqKind data s))
  ∧ (∀ (f : Frame) (tx : List Frame),
    (tx.length < 128 → joinTx f tx = tx ++ [f])
    ∧ (128 ≤ tx.length → f.kind ≠ .hold → f.kind ≠ .release → joinTx f tx = tx)
    ∧ (128 ≤ tx.length → (f.kind = .hold ∨ f.kind = .release) →
        (∀ older newer g, tx = older ++ g :: newer → g.kind.isReport = true → (∀ h ∈ newer, h.kind.isReport = false) →
          joinTx f tx = older ++ newer ++ [f])
        ∧ (∀ older newer g, tx = older ++ g :: newer → (∀ h ∈ tx, h.kind.isReport = false) → g.kind = .reply →
          (∀ h ∈ newer, h.kind ≠ .reply) → joinTx f tx = older ++ newer ++ [f])
        ∧ ((∀ h ∈ tx, h.kind = .hold ∨ h.kind = .release) → joinTx f tx = tx.dropLast)))

/-! ## Attention and queries -/

/-- R154: Read Attention clears the pending cause with the lowest code and returns that code and the number of flags still at
1; with none pending it returns 0 and 0; the Reply's attention bit is that after the clearing. -/
def Obligations.ReadAttentionReturnsTheLowestCause : Prop :=
  ∀ (l : Lane) (tag : Byte) (s : State), ∃ t, exec (.readAttention l tag []) s = .next t ∧ t.actions = []
    ∧ (s.flags = 0#12 → t.flags = s.flags ∧ t.link l = answeredLink (s.link l) false tag .ok 0x30#8 [0#8, 0#8])
    ∧ (∀ i, i < 12 → s.flags.getLsbD i = true → (∀ j, j < i → s.flags.getLsbD j = false) →
        (∀ j, j < 12 → t.flags.getLsbD j = (s.flags.getLsbD j && j != i))
        ∧ t.link l = answeredLink (s.link l) (t.flags != 0#12) tag .ok 0x30#8
            [BitVec.ofNat 8 (i + 1), BitVec.ofNat 8 ((List.range 12).countP (fun j => t.flags.getLsbD j))])
    ∧ OnlyChanges [.link l, .flags, .actions] s t

/-- R156: Read Class returns the 48 bytes of the record as it stands and changes nothing; a number above 47 is refused FIELD. R157: so
does Read Slot the 20 bytes of the slot and its packet, with a number above 23 refused FIELD; and R158: Read Bin the 8 bytes of a bin,
with a number above 16 refused FIELD. -/
def Obligations.QueriesReturnTheRecords : Prop :=
  (∀ (l : Lane) (tag c : Byte) (s : State), ∃ t, exec (.readClass l tag [c]) s = .next t
    ∧ (48 ≤ c.toNat → TurnedAway l tag .field 0x31#8 s t)
    ∧ (c.toNat < 48 →
        (let r := s.classRec c.toNat
         Answers l tag .ok 0x31#8
          ([match r.state with | .empty => 0#8 | .loaded => 1#8 | .active => 2#8 | .done => 3#8, r.generation]
            ++ (match r.body with
              | none => [0#8, 0#8, 0#8]
              | some b => [BitVec.ofNat 8 b.size, BitVec.ofNat 8 b.assignment.val, BitVec.ofNat 8 b.returnBin.val])
            ++ [if r.priority then 1#8 else 0#8, if r.locked then 1#8 else 0#8, BitVec.ofNat 8 r.cursor]
            ++ (List.range 40).map (fun k => match r.rankAt k with
              | none => 0#8
              | some .excused => 1#8
              | some .waiting => 2#8
              | some .opened => 3#8
              | some .held => 4#8
              | some .released => 5#8
              | some .relieved => 6#8
              | some .delivered => 7#8
              | some .missed => 8#8)) s t)
        ∧ t.actions = [] ∧ OnlyChanges [.link l, .actions] s t))
  ∧ (∀ (l : Lane) (tag c : Byte) (s : State), ∃ t, exec (.readSlot l tag [c]) s = .next t
    ∧ (24 ≤ c.toNat → TurnedAway l tag .field 0x32#8 s t)
    ∧ (∀ n : Fin 24, n.val = c.toNat → t.actions = [] ∧ OnlyChanges [.link l, .actions] s t
        ∧ (s.slot n = .free → Answers l tag .ok 0x32#8 (List.replicate 20 0#8) s t)
        ∧ (s.slot n = .fenced → Answers l tag .ok 0x32#8 (4#8 :: List.replicate 19 0#8) s t)
        ∧ (∀ h m k p, s.slot n = .occupied h m k → s.packet k = some p →
            Answers l tag .ok 0x32#8
              ([match h with | .collecting => 1#8 | .held => 2#8 | .queued => 3#8, if m then 1#8 else 0#8,
                BitVec.ofNat 8 k.cls, BitVec.ofNat 8 k.rank, p.generation,
                match p.state with | .collecting => 1#8 | .held => 2#8 | .queued => 3#8 | .finishing => 4#8,
                p.jobTag.extractLsb' 8 8, p.jobTag.extractLsb' 0 8, BitVec.ofNat 8 p.nextBody,
                if p.coverReceived then 1#8 else 0#8, BitVec.ofNat 8 p.sheetsHeld, BitVec.ofNat 8 (p.height / 256),
                BitVec.ofNat 8 p.height, BitVec.ofNat 8 p.flags.code]
                ++ (match p.timer with
                  | .stopped => [0#8, 0#8, 0#8]
                  | .running ms => [1#8, BitVec.ofNat 8 ((ms + 99) / 100 / 256), BitVec.ofNat 8 ((ms + 99) / 100)]
                  | .frozen ms => [2#8, BitVec.ofNat 8 ((ms + 99) / 100 / 256), BitVec.ofNat 8 ((ms + 99) / 100)])
                ++ [BitVec.ofNat 8 p.snapshot.sheetCount, if p.snapshot.cover then 1#8 else 0#8,
                    match p.snapshot.pattern with | .none => 0#8 | .corner => 1#8 | .side2 => 2#8]) s t)))
  ∧ (∀ (l : Lane) (tag c : Byte) (s : State), ∃ t, exec (.readBin l tag [c]) s = .next t
    ∧ (17 ≤ c.toNat → TurnedAway l tag .field 0x33#8 s t)
    ∧ (∀ b : Fin 17, b.val = c.toNat → t.actions = [] ∧ OnlyChanges [.link l, .actions] s t
        ∧ (let r := s.bin b
           Answers l tag .ok 0x33#8
            [match r.state with | .unloaded => 0#8 | .ready => 1#8 | .full => 2#8 | .out => 3#8,
             BitVec.ofNat 8 (r.capacity / 256), BitVec.ofNat 8 r.capacity, BitVec.ofNat 8 (r.fill / 256),
             BitVec.ofNat 8 r.fill, BitVec.ofNat 8 (r.reserved / 256), BitVec.ofNat 8 r.reserved,
             match r.jogSide with | .left => 0#8 | .right => 1#8] s t)))

/-- R159: Read Status returns its 31 bytes, the lanes, the list lengths, the finishing state, the current packet, the supply,
the tray count, the stamp, the Purge state, the report lane and the causes, and changes nothing. -/
def Obligations.ReadStatusReturnsTheWhole : Prop :=
  ∀ (l : Lane) (tag : Byte) (s : State), ∃ t, exec (.readStatus l tag []) s = .next t ∧ t.actions = []
    ∧ OnlyChanges [.link l, .actions] s t
    ∧ Answers l tag .ok 0x34#8
      ([s.laneA.state, s.laneB.state].map (fun x => match x with | .running => 0#8 | .held => 1#8 | .fault _ => 2#8)
        ++ [s.laneA.state, s.laneB.state].map (fun x => match x with
          | .running => 0#8
          | .held => 0#8
          | .fault .transit => 1#8
          | .fault .jam => 2#8
          | .fault .sequence => 3#8
          | .fault .overrun => 4#8)
        ++ [BitVec.ofNat 8 s.laneA.queue.length, BitVec.ofNat 8 s.laneB.queue.length, BitVec.ofNat 8 s.unplaced.length,
            BitVec.ofNat 8 ((List.finRange 24).countP (fun n => s.slot n = .free)),
            BitVec.ofNat 8 (s.queued.countP (fun q => q.queue = .express)),
            BitVec.ofNat 8 (s.queued.countP (fun q => q.queue = .normal))]
        ++ (match s.fin.unit with
          | .idle => [0#8, 0#8, 0#8, 0#8]
          | .stage .transfer => [1#8, 0#8, 0#8, 0#8]
          | .stage .jog => [2#8, 0#8, 0#8, 0#8]
          | .stage .staple => [3#8, 0#8, 0#8, 0#8]
          | .stage .eject => [4#8, 0#8, 0#8, 0#8]
          | .fault c m => [5#8, 0#8, match c with | .jam => 1#8 | .misfire => 2#8 | .timeout => 3#8, if m then 1#8 else 0#8]
          | .suspendPending g =>
            [6#8, match g with | .transfer => 1#8 | .jog => 2#8 | .staple => 3#8 | .eject => 4#8, 0#8, 0#8]
          | .suspended => [7#8, 0#8, 0#8, 0#8])
        ++ (match s.fin.current with
          | none => [0#8, 0#8, 0#8, 0#8, 0#8]
          | some c => [1#8, BitVec.ofNat 8 c.key.cls, BitVec.ofNat 8 c.key.rank,
              match c.target with | .bin b => BitVec.ofNat 8 b.val | .tray => 17#8,
              if (s.slotOf c.key).isSome then 0#8 else 1#8])
        ++ [BitVec.ofNat 8 (s.fin.supply / 256), BitVec.ofNat 8 s.fin.supply,
            BitVec.ofNat 8 (min s.tray 65535 / 256), BitVec.ofNat 8 (min s.tray 65535)]
        ++ [s.stamp.extractLsb' 24 8, s.stamp.extractLsb' 16 8, s.stamp.extractLsb' 8 8, s.stamp.extractLsb' 0 8]
        ++ [match s.purge with | .idle => 0#8 | .inProgress _ _ => 1#8,
            match s.settings.reportLane with | .a => 0#8 | .b => 1#8]
        ++ [BitVec.ofNat 8 (s.flags.toNat / 256), BitVec.ofNat 8 s.flags.toNat]) s t

/-! ## Table requests -/

/-- R9, R10 and R4: the checks of Load Class in their order, and the whole effect of a taken one. -/
def Obligations.LoadClassReplacesTheRecord : Prop :=
  ∀ (l : Lane) (tag : Byte) (body : List Byte) (s : State), body.length = 45 →
    let c := byteAt body 0
    let size := byteAt body 1
    let fieldsInRange := c < 48 ∧ 1 ≤ size ∧ size ≤ 40 ∧ byteAt body 2 < 32 ∧ byteAt body 3 < 16 ∧ byteAt body 4 ≤ 1
      ∧ ∀ k, k < size → byteAt body (5 + k) ≤ 1
    ∃ t, exec (.loadClass l tag body) s = .next t
      ∧ (¬fieldsInRange → TurnedAway l tag .field 0x10#8 s t)
      ∧ (fieldsInRange → (s.classRec c).locked = true ∨ (s.classRec c).state = .active →
          TurnedAway l tag .protectedState 0x10#8 s t)
      ∧ (fieldsInRange → (s.classRec c).locked = false → (s.classRec c).state ≠ .active →
          Answers l tag .ok 0x10#8 [] s t ∧ t.actions = [] ∧ OnlyChanges [.link l, .classes, .actions] s t
          ∧ (∀ d, d ≠ c → t.classRec d = s.classRec d)
          ∧ (t.classRec c).state = .loaded ∧ (t.classRec c).generation = (s.classRec c).generation + 1#8
          ∧ (t.classRec c).priority = decide (byteAt body 4 = 1) ∧ (t.classRec c).locked = false
          ∧ (∃ b, (t.classRec c).body = some b ∧ b.size = size ∧ b.assignment.val = byteAt body 2
              ∧ b.returnBin.val = byteAt body 3 ∧ b.roster.length = size
              ∧ ∀ k, k < size → b.roster[k]? = some (if byteAt body (5 + k) = 1 then .excused else .waiting))
          ∧ (t.classRec c).cursor ≤ size
          ∧ (∀ k, k < (t.classRec c).cursor → byteAt body (5 + k) = 1)
          ∧ ((t.classRec c).cursor < size → byteAt body (5 + (t.classRec c).cursor) = 0))

/-- R11 and R3: the checks of Unload Class in their order, and the record a taken one leaves. R12: Lock Class refuses a number above 47
FIELD and an EMPTY record STATE; in any other state locked becomes 1 and nothing else changes. -/
def Obligations.UnloadAndLockClassChangeTheRecord : Prop :=
  (∀ (l : Lane) (tag c : Byte) (s : State), let r := s.classRec c.toNat
    ∃ t, exec (.unloadClass l tag [c]) s = .next t
      ∧ (48 ≤ c.toNat → TurnedAway l tag .field 0x11#8 s t)
      ∧ (c.toNat < 48 → (r.locked = true ∨ (r.state ≠ .loaded ∧ r.state ≠ .done)) →
          TurnedAway l tag .protectedState 0x11#8 s t)
      ∧ (c.toNat < 48 → r.locked = false → (r.state = .loaded ∨ r.state = .done) →
          Answers l tag .ok 0x11#8 [] s t ∧ t.actions = [] ∧ OnlyChanges [.link l, .classes, .actions] s t
          ∧ (∀ d, d ≠ c.toNat → t.classRec d = s.classRec d)
          ∧ t.classRec c.toNat = { state := .empty, generation := r.generation, body := none, priority := false,
                                   locked := false, cursor := 0 }))
  ∧ (∀ (l : Lane) (tag c : Byte) (s : State), let r := s.classRec c.toNat
    ∃ t, exec (.lockClass l tag [c]) s = .next t
      ∧ (48 ≤ c.toNat → TurnedAway l tag .field 0x12#8 s t)
      ∧ (c.toNat < 48 → r.state = .empty → TurnedAway l tag .state 0x12#8 s t)
      ∧ (c.toNat < 48 → r.state ≠ .empty →
          Answers l tag .ok 0x12#8 [] s t ∧ t.actions = [] ∧ OnlyChanges [.link l, .classes, .actions] s t
          ∧ (∀ d, d ≠ c.toNat → t.classRec d = s.classRec d) ∧ t.classRec c.toNat = { r with locked := true }))

/-- R13, with the marks' own conditions of R14, R15 and R16: the checks of Set Roster Mark in their order, each with the code it
refuses with; a mark byte that names no mark is refused FIELD (reached by UNKNOWN_KIND_FRAME in the model: log entry 5). -/
def Obligations.RosterMarkIsCheckedInOrder : Prop :=
  ∀ (m : RosterMark) (l : Lane) (tag c k : Byte) (s : State),
    let key : Key := { cls := c.toNat, rank := k.toNat }
    let r := s.classRec key.cls
    let applies := match m with
      | .excuse => s.rankAt key = some .waiting ∧ r.cursor ≤ key.rank ∧ s.isUnplaced key = false
      | .expect => s.rankAt key = some .excused ∧ r.cursor ≤ key.rank
      | .retry => s.rankAt key = some .missed ∧ s.packet key = none
    ∃ t, exec (markCommand m l tag c k) s = .next t
      ∧ (48 ≤ key.cls → TurnedAway l tag .field 0x13#8 s t)
      ∧ (key.cls < 48 → r.state = .empty → TurnedAway l tag .state 0x13#8 s t)
      ∧ (key.cls < 48 → r.state ≠ .empty → r.size ≤ key.rank → TurnedAway l tag .field 0x13#8 s t)
      ∧ (key.cls < 48 → r.state ≠ .empty → key.rank < r.size → ¬applies → TurnedAway l tag .protectedState 0x13#8 s t)
      ∧ ∀ b : Byte, 3 ≤ b.toNat →
          ∃ u, exec (.unknownKindFrame l 0x13#8 tag [c, k, b]) s = .next u ∧ TurnedAway l tag .field 0x13#8 s u

/-- R14, R15 and R16: a taken EXCUSE or EXPECT above the cursor, and a taken RETRY anywhere, sets the one rank, a RETRY makes a DONE
class ACTIVE, and nothing else changes; EXCUSE of the WAITING rank at the cursor makes it EXCUSED and moves the cursor past it. -/
def Obligations.TakenRosterMarkSetsTheRank : Prop :=
  (∀ (m : RosterMark) (l : Lane) (tag c k : Byte) (s : State),
    let key : Key := { cls := c.toNat, rank := k.toNat }
    let r := s.classRec key.cls
    let applies := match m with
      | .excuse => s.rankAt key = some .waiting ∧ r.cursor < key.rank ∧ s.isUnplaced key = false
      | .expect => s.rankAt key = some .excused ∧ r.cursor ≤ key.rank
      | .retry => s.rankAt key = some .missed ∧ s.packet key = none
    key.cls < 48 → r.state ≠ .empty → key.rank < r.size → ClassKept r → applies →
    ∃ t, exec (markCommand m l tag c k) s = .next t ∧ Answers l tag .ok 0x13#8 [] s t ∧ t.actions = []
      ∧ OnlyChanges [.link l, .classes, .actions] s t ∧ (∀ d, d ≠ key.cls → t.classRec d = s.classRec d)
      ∧ t.classRec key.cls = { r.withRank key.rank (match m with
            | .excuse => .excused
            | .expect => .waiting
            | .retry => .waiting) with
          state := if m = .retry ∧ r.state = .done then .active else r.state })
  ∧ (∀ (l : Lane) (tag c k : Byte) (s : State), let key : Key := { cls := c.toNat, rank := k.toNat }
    TowerKept s → ClassesKept s → key.cls < 48 → s.rankAt key = some .waiting → (s.classRec key.cls).cursor = key.rank →
    s.isUnplaced key = false →
    ∃ t, exec (.setRosterMarkExcuse l tag [c, k]) s = .next t ∧ t.rankAt key = some .excused
      ∧ key.rank < (t.classRec key.cls).cursor)

/-- R79, R80 and R81: the advance moves the cursor over EXCUSED, MISSED, RELIEVED and HELD ranks and stops at the first other
one or at the size; every HELD rank it passes becomes RELEASED, its packet and slot QUEUED, leaves the held list and joins the
class's queue, in rank order; no other rank, packet, slot and class changes. -/
def Obligations.CursorAdvanceReleasesInRosterOrder : Prop :=
  ∀ (c : Nat) (s : State) (b : ClassBody), c < 48 → (s.classRec c).body = some b → b.roster.length = b.size →
    (s.classRec c).cursor ≤ b.size →
    let r := s.classRec c
    let t := cursorAdvance c s
    let r' := t.classRec c
    let passes := fun k => r.cursor ≤ k ∧ k < r'.cursor ∧ r.rankAt k = some .held
    r.cursor ≤ r'.cursor ∧ r'.cursor ≤ b.size
      ∧ (∀ k, r.cursor ≤ k → k < r'.cursor → r.rankAt k = some .excused ∨ r.rankAt k = some .missed
          ∨ r.rankAt k = some .relieved ∨ r.rankAt k = some .held)
      ∧ (r'.cursor < b.size → r.rankAt r'.cursor ≠ some .excused ∧ r.rankAt r'.cursor ≠ some .missed
          ∧ r.rankAt r'.cursor ≠ some .relieved ∧ r.rankAt r'.cursor ≠ some .held)
      ∧ (∀ k, passes k → r'.rankAt k = some .released) ∧ (∀ k, ¬passes k → r'.rankAt k = r.rankAt k)
      ∧ t.queued = s.queued ++ ((List.range' r.cursor (r'.cursor - r.cursor)).filter (fun k => r.rankAt k = some .held)).map
          (fun k => { queue := s.classQueue c, key := { cls := c, rank := k } })
      ∧ t.held = s.held.filter (fun h => ¬(h.cls = c ∧ passes h.rank))
      ∧ (∀ k, passes k → t.packet { cls := c, rank := k }
          = (s.packet { cls := c, rank := k }).map (fun p => { p with state := .queued }))
      ∧ (∀ j : Key, ¬(j.cls = c ∧ passes j.rank) → t.packet j = s.packet j)
      ∧ (∀ n k h m j, passes k → s.slotOf { cls := c, rank := k } = some n → s.slot n = .occupied h m j →
          t.slot n = .occupied .queued m j)
      ∧ (∀ n, (∀ k, passes k → s.slotOf { cls := c, rank := k } ≠ some n) → t.slot n = s.slot n)
      ∧ (∀ d, d ≠ c → t.classRec d = s.classRec d)
      ∧ OnlyChanges [.classes, .held, .slots, .packets, .queued] s t

/-- R17: the checks of Close Class, and its effect on the roster, the unplaced list and the announce queues: every WAITING
rank becomes MISSED, its key leaves the list, its UNPLACED entries become DIVERT RANK_CLOSED; other ranks of the class are kept,
but for a HELD one that the advance that follows releases or relief sends. -/
def Obligations.CloseClassGivesUpWaitingRanks : Prop :=
  ∀ (l : Lane) (tag c : Byte) (s : State), let r := s.classRec c.toNat
    (48 ≤ c.toNat → ∃ t, exec (.closeClass l tag [c]) s = .next t ∧ TurnedAway l tag .field 0x14#8 s t)
    ∧ (c.toNat < 48 → r.state = .empty ∨ r.state = .done →
        ∃ t, exec (.closeClass l tag [c]) s = .next t ∧ TurnedAway l tag .state 0x14#8 s t)
    ∧ (c.toNat < 48 → r.state = .loaded ∨ r.state = .active → TowerKept s →
        ∃ t, exec (.closeClass l tag [c]) s = .next t
          ∧ (∀ k, r.rankAt k = some .waiting → (t.classRec c.toNat).rankAt k = some .missed)
          ∧ (∀ k, r.rankAt k ≠ some .waiting → r.rankAt k ≠ some .held →
              (t.classRec c.toNat).rankAt k = r.rankAt k)
          ∧ (∀ k, r.rankAt k = some .held → (t.classRec c.toNat).rankAt k = some .held
              ∨ (t.classRec c.toNat).rankAt k = some .released ∨ (t.classRec c.toNat).rankAt k = some .relieved)
          ∧ ((t.classRec c.toNat).state = .active ∨ (t.classRec c.toNat).state = .done)
          ∧ t.unplaced = s.unplaced.filter (fun u => u.key.cls ≠ c.toNat)
          ∧ (∀ m, (t.lane m).queue = (s.lane m).queue.map (fun e =>
              if e.verdict = .unplaced ∧ e.key.cls = c.toNat ∧ s.isUnplaced e.key = true then
                { e with verdict := .divert .rankClosed }
              else e))
          ∧ t.tables = s.tables ∧ t.stamp = s.stamp ∧ t.tray = s.tray ∧ t.purge = s.purge ∧ t.now = s.now
          ∧ t.pending = s.pending)

/-- R19: the checks of Load Assignment, and the record a taken one leaves; packets keep their snapshots and queue entries their verdicts.
R20: Load Media refuses a code above 15 FIELD, and otherwise loads the thickness brought within 40 to 400, with OK_CLAMPED where it was
clamped. -/
def Obligations.LoadAssignmentAndMediaReplaceTheRecord : Prop :=
  (∀ (l : Lane) (tag n count cover pattern : Byte) (s : State),
    let ok := n.toNat < 32 ∧ 1 ≤ count.toNat ∧ count.toNat ≤ 40 ∧ cover.toNat ≤ 1 ∧ pattern.toNat ≤ 2
    ∃ t, exec (.loadAssignment l tag [n, count, cover, pattern]) s = .next t
      ∧ (¬ok → TurnedAway l tag .field 0x15#8 s t)
      ∧ (ok → Answers l tag .ok 0x15#8 [] s t ∧ t.actions = [] ∧ OnlyChanges [.link l, .tables, .actions] s t
          ∧ t.tables.media = s.tables.media ∧ t.tables.settings = s.tables.settings
          ∧ ∀ i : Fin 32, t.tables.assignments[i.val] = if i.val = n.toNat then
              some { sheetCount := count.toNat, cover := decide (cover.toNat = 1),
                     pattern := if pattern.toNat = 0 then .none else if pattern.toNat = 1 then .corner else .side2 }
            else s.tables.assignments[i.val]))
  ∧ (∀ (l : Lane) (tag n hi lo : Byte) (s : State), let v := hi.toNat * 256 + lo.toNat
    ∃ t, exec (.loadMedia l tag [n, hi, lo]) s = .next t
      ∧ (16 ≤ n.toNat → TurnedAway l tag .field 0x16#8 s t)
      ∧ (n.toNat < 16 → Answers l tag (if 40 ≤ v ∧ v ≤ 400 then .ok else .okClamped) 0x16#8 [] s t ∧ t.actions = []
          ∧ OnlyChanges [.link l, .tables, .actions] s t
          ∧ t.tables.assignments = s.tables.assignments ∧ t.tables.settings = s.tables.settings
          ∧ ∀ i : Fin 16, t.tables.media[i.val] = if i.val = n.toNat then some (max 40 (min v 400))
            else s.tables.media[i.val]))

/-- R21, R22, R23 and R24: a report lane code above 1 is refused FIELD; a new scale while a bin is in use, and an exception
capacity below the tray count, are refused STATE; otherwise all thirteen fields are replaced, each brought within its range,
the supply is lowered to a lower full count, a changed capacity is compared with the count, and an IDLE unit makes a pass. -/
def Obligations.LoadSettingsReplacesTheRecord : Prop :=
  ∀ (l : Lane) (tag : Byte) (body : List Byte) (s : State), body.length = 17 →
    let at8 := fun lo hi i => max lo (min (byteAt body i) hi)
    let at16 := fun lo hi i => max lo (min (byteAt body i * 256 + byteAt body (i + 1)) hi)
    let new : Settings :=
      { transitWindow := at8 2 100 0, collectionWindow := at16 10 900 1, loftPlain := at8 16 40 3,
        loftStapled := at8 16 40 4, scale := at8 4 8 5, staplerCapacity := at16 500 6000 6,
        cartridgeFull := at16 100 5000 8, transferLimit := at8 5 50 10, jogLimit := at8 5 50 11,
        stapleLimit := at8 5 50 12, ejectLimit := at8 5 100 13, exceptionCapacity := at16 50 500 14,
        reportLane := if byteAt body 16 = 0 then .a else .b }
    let raw : Settings :=
      { transitWindow := byteAt body 0, collectionWindow := byteAt body 1 * 256 + byteAt body 2,
        loftPlain := byteAt body 3, loftStapled := byteAt body 4, scale := byteAt body 5,
        staplerCapacity := byteAt body 6 * 256 + byteAt body 7, cartridgeFull := byteAt body 8 * 256 + byteAt body 9,
        transferLimit := byteAt body 10, jogLimit := byteAt body 11, stapleLimit := byteAt body 12,
        ejectLimit := byteAt body 13, exceptionCapacity := byteAt body 14 * 256 + byteAt body 15,
        reportLane := new.reportLane }
    let inUse := ∃ b, (s.bin b).fill ≠ 0 ∨ (s.bin b).reserved ≠ 0
    let refused := (new.scale ≠ s.settings.scale ∧ inUse) ∨ new.exceptionCapacity < s.tray
    let same := new.exceptionCapacity = s.settings.exceptionCapacity
    (2 ≤ byteAt body 16 → ∃ t, exec (.loadSettings l tag body) s = .next t ∧ TurnedAway l tag .field 0x18#8 s t)
    ∧ (byteAt body 16 ≤ 1 → refused →
        ∃ t, exec (.loadSettings l tag body) s = .next t ∧ TurnedAway l tag .state 0x18#8 s t)
    ∧ (byteAt body 16 ≤ 1 → ¬refused → ∃ u, exec (.loadSettings l tag body) s = .next (selectionPass u)
        ∧ u.settings = new ∧ u.tables.media = s.tables.media ∧ u.tables.assignments = s.tables.assignments
        ∧ u.fin = { s.fin with supply := min s.fin.supply new.cartridgeFull } ∧ u.actions = []
        ∧ OnlyChanges [.tables, .fin, .flags, .laneA, .laneB, .linkA, .linkB, .actions] s u
        ∧ (same → u.flags = s.flags ∧ (∀ m, u.lane m = s.lane m) ∧ u.link (otherLane l) = s.link (otherLane l)
            ∧ Answers l tag (if new = raw then .ok else .okClamped) 0x18#8 [] s u)
        ∧ (¬same → u.flags = (if new.exceptionCapacity - 12 ≤ s.tray then s.flags ||| BitVec.twoPow 12 3 else s.flags)
            ∧ ∀ m, (u.lane m).queue = (s.lane m).queue ∧ ((u.lane m).state = .running → u.holdCondition m = false)
              ∧ ((u.lane m).state = .held → u.holdCondition m = true)))

/-! ## Lanes -/

/-- R26, R27, R37 and R43, outside a Purge: a lane jam, and the expiry of a running transit timer, put a RUNNING or HELD lane in FAULT:
state and cause, timer stopped, flag raised, Hold on its own link where it was RUNNING, collection timers frozen, the queue kept whole; a
jam on a lane in FAULT makes the cause JAM and raises the flag again. A stopped timer cannot expire, and nothing happens (log entry 2).
R47: a lane that enters FAULT by either while a Purge is in progress has its queue emptied at once. -/
def Obligations.LaneFaultStopsTheLane : Prop :=
  (∀ (l : Lane) (s : State), s.purge = .idle →
    let flag : BitVec 12 := match l with
      | .a => 1#12
      | .b => 2#12
    let faulted := fun (cause : LaneCause) (t : State) =>
      t.lane l = { s.lane l with state := .fault cause, transit := none } ∧ t.flags = s.flags ||| flag ∧ t.actions = []
        ∧ t.packets = s.packets.map (fun p => { p with timer := match p.timer with
            | .running n => .frozen n
            | .frozen n => .frozen n
            | .stopped => .stopped })
        ∧ t.link l = (if (s.lane l).state = .running then sentLink (s.link l) true .hold [] else s.link l)
        ∧ OnlyChanges [Part.lane l, Part.link l, .flags, .packets, .actions] s t
    ((s.lane l).inFault = false → ∃ t, exec (.laneJam l) s = .next t ∧ faulted .jam t)
    ∧ ((s.lane l).inFault = false → (s.lane l).transit ≠ none →
        ∃ t, exec (.transitTimerExpiry l) s = .next t ∧ faulted .transit t)
    ∧ ((s.lane l).inFault = true → ∃ t, exec (.laneJam l) s = .next t ∧ t.actions = []
        ∧ t.lane l = { s.lane l with state := .fault .jam } ∧ t.flags = s.flags ||| flag
        ∧ OnlyChanges [Part.lane l, .flags, .actions] s t))
  ∧ (∀ (l : Lane) (s : State), (s.lane l).transit = none ∨ (s.lane l).inFault = true →
    ∃ t, exec (.transitTimerExpiry l) s = .next t ∧ t.actions = [] ∧ OnlyChanges [.actions] s t)
  ∧ (∀ (l : Lane) (s : State), s.purging = true → (s.lane l).inFault = false →
    let emptied := fun (cause : LaneCause) (t : State) =>
      (t.lane l).queue = [] ∧ (t.lane l).state = .fault cause ∧ (t.lane l).transit = none
        ∧ t.flags = s.flags ||| BitVec.twoPow 12 (match l with | .a => 0 | .b => 1)
        ∧ t.packets = s.packets.map (fun p => { p with timer := match p.timer with
            | .running n => .frozen n
            | .frozen n => .frozen n
            | .stopped => .stopped })
    (∃ t, exec (.laneJam l) s = .next t ∧ emptied .jam t)
    ∧ ((s.lane l).transit ≠ none → ∃ t, exec (.transitTimerExpiry l) s = .next t ∧ emptied .transit t))

/-- R29, cases 1 to 3, R26, R67 and R143, case 3: an announcement of the wrong length raises FRAME_ERROR only, and one on a lane in FAULT
is dropped; one out of sequence puts the lane in FAULT with SEQUENCE, and one to a queue of 6 entries with OVERRUN: the lane's flag
raised, the collection timers frozen, Hold where the lane was RUNNING. None makes an entry, a Reply or a change of the expected sequence
or the counter outside a Purge. R47: in a Purge either fault empties the queue. -/
def Obligations.AnnouncementsAreDroppedOrFaultTheLane : Prop :=
  ∀ (l : Lane) (body : List Byte) (s : State),
    let seq := body.getD 0 0#8
    let wrong := (s.lane l).expected ≠ none ∧ (s.lane l).expected ≠ some seq
    let stops := fun (t : State) =>
      t.flags = s.flags ||| BitVec.twoPow 12 (match l with | .a => 0 | .b => 1)
        ∧ t.packets = s.packets.map (fun p => { p with timer := match p.timer with
            | .running n => .frozen n
            | .frozen n => .frozen n
            | .stopped => .stopped })
    let enters := fun (cause : LaneCause) (t : State) =>
      stops t ∧ t.lane l = { s.lane l with state := .fault cause, transit := none }
        ∧ t.link l = (if (s.lane l).state = .running then sentLink { s.link l with rx := .hunt } true .hold []
            else { s.link l with rx := .hunt })
        ∧ t.actions = [] ∧ OnlyChanges [Part.lane l, Part.link l, .flags, .packets, .actions] s t
    let emptied := fun (cause : LaneCause) (t : State) =>
      stops t ∧ (t.lane l).queue = [] ∧ (t.lane l).state = .fault cause ∧ (t.lane l).transit = none
        ∧ (t.lane l).counter = (s.lane l).counter
    ∃ t, exec (.sheetAnnounce l body) s = .next t
      ∧ (body.length ≠ 9 → t.flags = s.flags ||| BitVec.twoPow 12 10 ∧ t.link l = { s.link l with rx := .hunt }
          ∧ OnlyChanges [Part.link l, .flags, .actions] s t)
      ∧ (body.length = 9 → (s.lane l).inFault = true → t.link l = { s.link l with rx := .hunt }
          ∧ OnlyChanges [Part.link l, .actions] s t)
      ∧ (body.length = 9 → (s.lane l).inFault = false → wrong →
          (s.purge = .idle → enters .sequence t) ∧ (s.purge ≠ .idle → emptied .sequence t))
      ∧ (body.length = 9 → (s.lane l).inFault = false → ¬wrong → 6 ≤ (s.lane l).queue.length →
          (s.purge = .idle → enters .overrun t) ∧ (s.purge ≠ .idle → emptied .overrun t))

/-- R29, case 4, and R30: an announcement in sequence on a lane not in FAULT with fewer than 6 entries is appended with its verdict: the
counter plus 1 as its order number, the deadline the transit window from now, the expected sequence one more than its own, the transit
timer toward the queue head; no Reply, and the other lane left as it was. In a state that keeps the laws, R34, R44 and R86: packets,
slots, ranks, classes and the unplaced list become what the verdict sets up; an UNPLACED verdict raises SLOTS_EXHAUSTED and has relief
tried; the sixth entry and an UNPLACED one make a RUNNING lane HELD with its Hold. R152: its fields by their places in the body. -/
def Obligations.AnnouncementIsAppendedWithItsVerdict : Prop :=
  (∀ (l : Lane) (body : List Byte) (s : State) (x : Announcement), Announcement.ofBody body = some x →
    (s.lane l).inFault = false → (s.lane l).expected = none ∨ (s.lane l).expected = some x.sequence →
    (s.lane l).queue.length < 6 →
    let v := (verdictOf x s).1
    let u := (verdictOf x s).2
    let e : Entry :=
      { jobTag := x.jobTag, cls := x.cls, generation := x.generation, rank := x.rank, index := x.index, media := x.media,
        order := (s.lane l).counter + 1#32, deadline := s.now + s.settings.transitWindow * 100, verdict := v }
    let holds := (s.lane l).state = .running ∧ ((s.lane l).queue.length = 5 ∨ v = .unplaced)
    let link : Link := { s.link l with rx := .hunt }
    ∃ t, exec (.sheetAnnounce l body) s = .next t ∧ (t.lane l).queue = (s.lane l).queue ++ [e]
      ∧ (t.lane l).expected = some (x.sequence + 1#8) ∧ (t.lane l).counter = (s.lane l).counter + 1#32
      ∧ (t.lane l).transit = ((s.lane l).queue ++ [e]).head?.map Entry.deadline ∧ (t.lane l).inFault = false
      ∧ t.lane (otherLane l) = s.lane (otherLane l) ∧ t.stamp = s.stamp ∧ t.tray = s.tray ∧ t.tables = s.tables
      ∧ t.purge = s.purge ∧ t.now = s.now ∧ t.pending = s.pending
      ∧ (TowerKept s → ClassesKept s → HoldsSettled s → t.link (otherLane l) = s.link (otherLane l)
          ∧ ∃ w, OnlyChanges [Part.lane l, Part.link l, .flags, .actions] u w ∧ w.actions = []
            ∧ w.flags = (if v = .unplaced then s.flags ||| BitVec.twoPow 12 6 else s.flags)
            ∧ w.lane l = { state := if holds then .held else (s.lane l).state, queue := (s.lane l).queue ++ [e],
                           expected := some (x.sequence + 1#8), counter := (s.lane l).counter + 1#32,
                           transit := ((s.lane l).queue ++ [e]).head?.map Entry.deadline }
            ∧ w.link l = (if holds then sentLink link (w.flags != 0#12) .hold [] else link)
            ∧ (v ≠ .unplaced → t = w) ∧ (v = .unplaced → EndsWithRelief w (.next t))))
  ∧ (∀ b0 b1 b2 b3 b4 b5 b6 b7 b8 : Byte, ∃ x, Announcement.ofBody [b0, b1, b2, b3, b4, b5, b6, b7, b8] = some x
    ∧ x.sequence = b0 ∧ x.jobTag.toNat = b1.toNat * 256 + b2.toNat ∧ x.cls = b3 ∧ x.generation = b4 ∧ x.rank = b5
    ∧ x.index = b6 ∧ x.count = b7 ∧ x.media = b8)

/-- R31: the identity checks in their order; the first that fails gives DIVERT with its reason. R32 and R33: an announcement that passes
them is decided by its rank's state: RANK_EXCUSED, RANK_CLOSED or RANK_DONE, and for an OPEN rank by its packet's snapshot and slot.
None changes any state. -/
def Obligations.VerdictFollowsTheChecksAndTheRank : Prop :=
  (∀ (x : Announcement) (s : State),
    let r := s.classRec x.cls.toNat
    let diverts := fun reason => verdictOf x s = (.divert reason, s)
    let noMedia := ∀ i : Fin 16, i.val = x.media.toNat → s.tables.media[i.val] = none
    (s.purging = true → diverts .purging)
    ∧ (s.purging = false → (48 ≤ x.cls.toNat ∨ r.state = .empty) → diverts .noClass)
    ∧ (s.purging = false → r.state ≠ .empty → x.generation ≠ r.generation → diverts .staleGeneration)
    ∧ (s.purging = false → r.state ≠ .empty → x.generation = r.generation → r.size ≤ x.rank.toNat → diverts .badRank)
    ∧ (s.purging = false → r.state ≠ .empty → x.generation = r.generation → x.rank.toNat < r.size → noMedia →
        diverts .badMedia))
  ∧ (∀ (x : Announcement) (s : State), PassesIdentity x s →
    let k : Key := { cls := x.cls.toNat, rank := x.rank.toNat }
    let gives := fun v => verdictOf x s = (v, s)
    (s.rankAt k = some .excused → gives (.divert .rankExcused))
    ∧ (s.rankAt k = some .missed → gives (.divert .rankClosed))
    ∧ (s.rankAt k = some .held ∨ s.rankAt k = some .released ∨ s.rankAt k = some .relieved
        ∨ s.rankAt k = some .delivered → gives (.divert .rankDone))
    ∧ ∀ p n, s.rankAt k = some .opened → s.packet k = some p → p.slot = some n →
        (x.count.toNat ≠ p.snapshot.sheetCount → gives (.divert .countMismatch))
        ∧ (x.count.toNat = p.snapshot.sheetCount → (x.index.toNat < 1 ∨ p.snapshot.sheetCount < x.index.toNat) →
            gives (.divert .badIndex))
        ∧ (x.count.toNat = p.snapshot.sheetCount → 1 ≤ x.index.toNat → x.index.toNat ≤ p.snapshot.sheetCount →
            gives (.place n)))

/-- R34, R54 and R56, for a WAITING rank: NO_ASSIGNMENT, COUNT_MISMATCH, BAD_INDEX, in that order; then UNPLACED where its key waits
already; then PLACE with the lowest-numbered FREE slot; then UNPLACED, the key joining the end of the list with its job tag, a LOADED
class becoming ACTIVE. R55 and R50: the packet's record at creation, its slot COLLECTING, its rank OPEN, its class ACTIVE; no other rank,
slot or packet changes. -/
def Obligations.WaitingRankAsksForASlot : Prop :=
  (∀ (x : Announcement) (s : State), PassesIdentity x s →
    let k : Key := { cls := x.cls.toNat, rank := x.rank.toNat }
    s.rankAt k = some .waiting →
    (s.assignmentOf k.cls = none → verdictOf x s = (.divert .noAssignment, s))
    ∧ ∀ a, s.assignmentOf k.cls = some a →
      (x.count.toNat ≠ a.sheetCount → verdictOf x s = (.divert .countMismatch, s))
      ∧ (x.count.toNat = a.sheetCount → (x.index.toNat < 1 ∨ a.sheetCount < x.index.toNat) →
          verdictOf x s = (.divert .badIndex, s))
      ∧ (x.count.toNat = a.sheetCount → 1 ≤ x.index.toNat → x.index.toNat ≤ a.sheetCount →
          (s.isUnplaced k = true → verdictOf x s = (.unplaced, s))
          ∧ (s.isUnplaced k = false → ∀ n, s.slot n = .free → (∀ m, m < n → s.slot m ≠ .free) →
              verdictOf x s = (.place n, createPacket k n a x.jobTag s))
          ∧ (s.isUnplaced k = false → (∀ n, s.slot n ≠ .free) → ∃ t, verdictOf x s = (.unplaced, t)
              ∧ t.unplaced = s.unplaced ++ [{ key := k, jobTag := x.jobTag }]
              ∧ (∀ d, d ≠ k.cls → t.classRec d = s.classRec d)
              ∧ t.classRec k.cls = { s.classRec k.cls with
                  state := if (s.classRec k.cls).state = .loaded then .active else (s.classRec k.cls).state }
              ∧ OnlyChanges [.unplaced, .classes] s t)))
  ∧ (∀ (k : Key) (n : Fin 24) (a : Assignment) (tag : BitVec 16) (s : State), TowerKept s → ClassesKept s →
    s.rankAt k = some .waiting → (s.classRec k.cls).state = .loaded ∨ (s.classRec k.cls).state = .active →
    let t := createPacket k n a tag s
    t.packet k = some
        { key := k, generation := (s.classRec k.cls).generation, slot := some n, snapshot := a, jobTag := tag,
          nextBody := if a.cover then 2 else 1, coverReceived := false, sheetsHeld := 0, height := 0,
          flags := { disordered := false, late := false, relieved := false, stale := false, overcap := false,
                     overflowed := false, removed := false, purged := false },
          timer := .stopped, state := .collecting }
      ∧ (∀ j, j ≠ k → t.packet j = s.packet j) ∧ t.slot n = .occupied .collecting false k
      ∧ (∀ m, m ≠ n → t.slot m = s.slot m) ∧ t.rankAt k = some .opened ∧ (∀ j, j ≠ k → t.rankAt j = s.rankAt j)
      ∧ (t.classRec k.cls).state = .active ∧ (t.classRec k.cls).cursor = (s.classRec k.cls).cursor
      ∧ OnlyChanges [.classes, .packets, .slots] s t)

/-- R28, R38, R42 and R160: a sheet that arrives on a lane in FAULT is diverted LANE_FAULT, and one on another lane with an empty queue
UNANNOUNCED: stamp and tray count up by 1, divert gate to the tray, Sheet Exception with no entry fields on the report lane,
SHEET_DIVERTED raised, no queue popped. Below the tray threshold nothing else changes. -/
def Obligations.UnmatchedArrivalIsDiverted : Prop :=
  ∀ (l : Lane) (s : State), (s.lane l).inFault = true ∨ (s.lane l).queue = [] →
    ∃ t, exec (.laneEntry l) s = .next t ∧ t.stamp = s.stamp + 1#32 ∧ t.tray = s.tray + 1
      ∧ t.actions = [.divertGate l true] ∧ t.isPending .sheetDiverted = true
      ∧ (∀ m, (t.lane m).queue = (s.lane m).queue) ∧ ((s.lane l).inFault = true → t.lane l = s.lane l)
      ∧ OnlyChanges [.stamp, .tray, .flags, .laneA, .laneB, .linkA, .linkB, .actions] s t
      ∧ (s.tray + 1 < s.settings.exceptionCapacity - 12 →
          t.link s.settings.reportLane = sentLink (s.link s.settings.reportLane) s.attention .sheetException
              ([match l with | .a => 0#8 | .b => 1#8, if (s.lane l).inFault then 15#8 else 14#8]
                ++ be32 (s.stamp + 1#32) ++ List.replicate 11 0#8)
          ∧ t.flags = s.flags ||| BitVec.twoPow 12 9
          ∧ OnlyChanges [.stamp, .tray, .flags, Part.link s.settings.reportLane, .actions] s t)

/-- R38, R41 and R42, on a RUNNING or a HELD lane with no overdue entry behind: a sheet whose popped entry carries DIVERT is diverted
with the stored reason and reported with the entry's fields; R44 and R138: the lane is released where the pop ends its last hold
condition, and a count that reaches the tray threshold holds both lanes. R47 and R163: so in a Purge, which ends with this arrival where
both its parts are met then. The Release of the pop comes before the report and the end of a Purge after it, as the model has it (log
entries 7 and 6). R39 and R60: a PLACE entry whose named slot holds no packet, or one of another key or generation, or a stale one, is
diverted RANK_CLOSED; one whose packet is HELD, QUEUED or FINISHING, DUPLICATE. R61, R62 and R70: so is a sheet that its COLLECTING
packet refuses, DUPLICATE, with the packet as it was; but a packet that has no sheet and is named by no other PLACE entry is dropped, its
slot freed, its rank WAITING. -/
def Obligations.DivertedEntryIsReported : Prop :=
  (∀ (l : Lane) (e : Entry) (rest : List Entry) (reason : Reason) (s : State), (s.lane l).inFault = false → HoldsSettled s →
    (s.lane l).queue = e :: rest → e.verdict = .divert reason → (∀ d, rest.head? = some d → s.now ≤ d.deadline) →
    ∃ u, EndsWithPurgeTest u (exec (.laneEntry l) s) ∧ DivertsPopped l e rest reason s u
      ∧ OnlyChanges [.stamp, .tray, .flags, .laneA, .laneB, .linkA, .linkB, .actions] s u)
  ∧ (∀ (l : Lane) (e : Entry) (rest : List Entry) (n : Fin 24) (s : State), (s.lane l).inFault = false → HoldsSettled s →
    s.purge = .idle → (s.lane l).queue = e :: rest → e.verdict = .place n →
    (∀ d, rest.head? = some d → s.now ≤ d.deadline) →
    let matching := ∃ p, s.packetIn n = some p ∧ p.key = { cls := e.cls.toNat, rank := e.rank.toNat }
      ∧ p.generation = e.generation ∧ p.flags.stale = false
    let diverted := fun (reason : Reason) => ∃ t, exec (.laneEntry l) s = .next t ∧ DivertsPopped l e rest reason s t
      ∧ OnlyChanges [.stamp, .tray, .flags, .laneA, .laneB, .linkA, .linkB, .actions] s t
    (¬matching → diverted .rankClosed)
    ∧ ((∃ p, s.packetIn n = some p ∧ p.key = { cls := e.cls.toNat, rank := e.rank.toNat }
        ∧ p.generation = e.generation ∧ p.flags.stale = false ∧ p.state ≠ .collecting) → diverted .duplicate))
  ∧ (∀ (l : Lane) (e : Entry) (rest : List Entry) (n : Fin 24) (p : Packet) (s : State), (s.lane l).inFault = false →
    HoldsSettled s → TowerKept s → ClassesKept s → s.purge = .idle → (s.lane l).queue = e :: rest → e.verdict = .place n →
    (∀ d, rest.head? = some d → s.now ≤ d.deadline) →
    s.packetIn n = some p → p.key = { cls := e.cls.toNat, rank := e.rank.toNat } → p.generation = e.generation →
    p.flags.stale = false → p.state = .collecting → decidePlacement p e.index.toNat = .refused →
    let named := ∃ d ∈ rest ++ (s.lane (otherLane l)).queue, d.cls = e.cls ∧ d.rank = e.rank ∧ ∃ j, d.verdict = .place j
    ∃ t, exec (.laneEntry l) s = .next t
      ∧ (p.coverReceived = true ∨ p.sheetsHeld ≠ 0 ∨ named → DivertsPopped l e rest .duplicate s t
          ∧ OnlyChanges [.stamp, .tray, .flags, .laneA, .laneB, .linkA, .linkB, .actions] s t)
      ∧ (p.coverReceived = false → p.sheetsHeld = 0 → ¬named → s.unplaced = [] → DivertsPopped l e rest .duplicate s t
          ∧ t.packet p.key = none ∧ (∀ k, k ≠ p.key → t.packet k = s.packet k)
          ∧ t.rankAt p.key = some .waiting ∧ (∀ k, k ≠ p.key → t.rankAt k = s.rankAt k)
          ∧ (∀ m, s.slot n = .occupied .collecting m p.key → t.slot n = if m then .fenced else .free)
          ∧ (∀ j, j ≠ n → t.slot j = s.slot j)
          ∧ OnlyChanges [.stamp, .tray, .flags, .laneA, .laneB, .linkA, .linkB, .classes, .slots, .packets, .actions] s t))

/-- R38, R39, R60 to R64 and R66: a sheet whose popped PLACE entry names a COLLECTING packet of its key and generation without STALE, and
which the tower places without completing the packet, is let through: the packet has it, one more sheet, its height more by the thickness
of the media code, its collection timer at the full window. On a RUNNING or a HELD lane outside a Purge with no overdue entry behind
nothing else changes than the stamp, the queue and its timer, and, R44, a HELD lane whose last hold condition the pop ends, with its
Release. -/
def Obligations.PlacedSheetIsCountedInItsPacket : Prop :=
  ∀ (l : Lane) (e : Entry) (rest : List Entry) (n : Fin 24) (p q : Packet) (thickness : Nat) (s : State),
    (s.lane l).inFault = false → HoldsSettled s → TowerKept s → s.purge = .idle → (s.lane l).queue = e :: rest →
    e.verdict = .place n → (∀ d, rest.head? = some d → s.now ≤ d.deadline) → s.packetIn n = some p →
    p.key = { cls := e.cls.toNat, rank := e.rank.toNat } → p.generation = e.generation → p.flags.stale = false →
    p.state = .collecting → decidePlacement p e.index.toNat = .placed q → ¬AllSheetsIn q →
    s.thickness e.media.toNat = some thickness →
    ∃ t, exec (.laneEntry l) s = .next t ∧ t.stamp = s.stamp + 1#32 ∧ t.actions = [.divertGate l false]
      ∧ t.lane l = poppedLane l rest s ∧ t.link l = poppedLink l rest s l
      ∧ t.packet p.key = some { q with
          sheetsHeld := p.sheetsHeld + 1, height := p.height + thickness,
          timer := if s.anyFault then .frozen (s.settings.collectionWindow * 1000)
            else .running (s.settings.collectionWindow * 1000) }
      ∧ (∀ k, k ≠ p.key → t.packet k = s.packet k)
      ∧ OnlyChanges [.stamp, Part.lane l, Part.link l, .packets, .actions] s t

/-- R61: a cover sheet (index 1 where the snapshot has a cover) goes into an empty cover pocket, and is refused where it is full; the next
body index is neither read nor changed. R62: a body sheet's index against the sheet count and the next body index, in the order of the
table: refused above the count, placed at the next index, refused below it, placed across a gap with DISORDERED. -/
def Obligations.PlacementIsDecidedByPocketAndIndex : Prop :=
  (∀ p : Packet, p.snapshot.cover = true →
    (p.coverReceived = false → decidePlacement p 1 = .placed { p with coverReceived := true })
    ∧ (p.coverReceived = true → decidePlacement p 1 = .refused))
  ∧ (∀ (p : Packet) (i : Nat), ¬(p.snapshot.cover = true ∧ i = 1) →
    (p.snapshot.sheetCount < i → decidePlacement p i = .refused)
    ∧ (i ≤ p.snapshot.sheetCount → i = p.nextBody → decidePlacement p i = .placed { p with nextBody := i + 1 })
    ∧ (i ≤ p.snapshot.sheetCount → i < p.nextBody → decidePlacement p i = .refused)
    ∧ (i ≤ p.snapshot.sheetCount → p.nextBody < i →
        decidePlacement p i = .placed { p with nextBody := i + 1, flags := { p.flags with disordered := true } }))

/-- R40 and R42: a popped UNPLACED entry's sheet is diverted, divert gate to the tray, and its key leaves the unplaced list exactly where
no other UNPLACED entry with that key stands in either queue; its rank keeps its state. Below the tray threshold, R44 and R160: the lane
is released where nothing else holds it, and a Sheet Exception with reason NO_SLOT, 13, and the entry's fields goes on the report lane,
after the Release where both go on one link (log entry 7). -/
def Obligations.UnplacedArrivalGivesUpTheSheet : Prop :=
  ∀ (l : Lane) (e : Entry) (rest : List Entry) (s : State), (s.lane l).inFault = false → s.purge = .idle →
    (s.lane l).queue = e :: rest → e.verdict = .unplaced →
    (∀ d, rest.head? = some d → s.now ≤ d.deadline) →
    let k : Key := { cls := e.cls.toNat, rank := e.rank.toNat }
    let other := (∃ d ∈ rest, d.cls = e.cls ∧ d.rank = e.rank ∧ d.verdict = .unplaced)
      ∨ ∃ d ∈ (s.lane (otherLane l)).queue, d.cls = e.cls ∧ d.rank = e.rank ∧ d.verdict = .unplaced
    let released := rest.length < 6 ∧ ∀ d ∈ rest, d.verdict ≠ .unplaced
    let link := fun (m : Lane) => if m = l ∧ released then sentLink (s.link m) s.attention .release [] else s.link m
    let report := s.settings.reportLane
    ∃ t, exec (.laneEntry l) s = .next t ∧ t.tray = s.tray + 1 ∧ t.stamp = s.stamp + 1#32
      ∧ t.actions = [.divertGate l true] ∧ t.isPending .sheetDiverted = true ∧ (t.lane l).queue = rest
      ∧ (other → t.unplaced = s.unplaced) ∧ (¬other → t.unplaced = s.unplaced.filter (fun u => u.key ≠ k))
      ∧ t.classes = s.classes ∧ t.packets = s.packets ∧ t.slots = s.slots ∧ t.tables = s.tables
      ∧ (HoldsSettled s → s.tray + 1 < s.settings.exceptionCapacity - 12 →
          t.flags = s.flags ||| BitVec.twoPow 12 9
          ∧ t.lane l = { s.lane l with
              queue := rest, transit := rest.head?.map Entry.deadline, state := if released then .running else .held }
          ∧ t.link report = sentLink (link report) s.attention .sheetException
              ([match l with | .a => 0#8 | .b => 1#8, 13#8] ++ be32 (s.stamp + 1#32) ++ [1#8]
                ++ be16 e.jobTag.toNat ++ [e.cls, e.generation, e.rank, e.index] ++ be32 e.order)
          ∧ (report ≠ l → t.link l = link l)
          ∧ OnlyChanges [.stamp, .tray, .flags, .unplaced, Part.lane l, Part.link l, Part.link report, .actions] s t)

/-- R45, R36 and R67: Lane Clear of a lane not in FAULT is refused STATE, and a code above 1 FIELD; a taken one leaves the lane out of
FAULT with an empty queue, any sequence expected, its timer stopped and its counter kept; with an empty queue outside a Purge it is
RUNNING with a Release, before the Reply on a link that both go on (log entry 6), or HELD where the tray threshold holds it, and the
timers run again where the other lane is not in FAULT. R46 and R70: a packet without a sheet, named by the lane's only entry and by none
of the other lane, is dropped and its rank WAITING again. -/
def Obligations.LaneClearRestartsTheLane : Prop :=
  (∀ (link l : Lane) (tag b : Byte) (s : State),
    (2 ≤ b.toNat → ∃ t, exec (.laneClear link tag [b]) s = .next t ∧ TurnedAway link tag .field 0x20#8 s t)
    ∧ ((s.lane l).inFault = false →
        ∃ t, exec (.laneClear link tag [laneCode l]) s = .next t ∧ TurnedAway link tag .state 0x20#8 s t)
    ∧ ((s.lane l).inFault = true →
        ∃ t, exec (.laneClear link tag [laneCode l]) s = .next t ∧ (t.lane l).inFault = false ∧ (t.lane l).queue = []
          ∧ (t.lane l).expected = none ∧ (t.lane l).transit = none ∧ (t.lane l).counter = (s.lane l).counter
          ∧ t.stamp = s.stamp ∧ t.tray = s.tray ∧ t.tables = s.tables ∧ t.now = s.now ∧ t.pending = s.pending))
  ∧ (∀ (link l : Lane) (tag : Byte) (s : State), (s.lane l).inFault = true → (s.lane l).queue = [] → s.purge = .idle →
    s.unplaced = [] →
    let held := s.settings.exceptionCapacity - 12 ≤ s.tray
    ∃ t, exec (.laneClear link tag [laneCode l]) s = .next t ∧ t.actions = []
      ∧ t.lane l = { state := if held then .held else .running, queue := [], expected := none,
                     counter := (s.lane l).counter, transit := none }
      ∧ t.packets = (if (s.lane (otherLane l)).inFault then s.packets
          else s.packets.map (fun p => { p with timer := match p.timer with
            | .frozen n => .running n
            | .running n => .running n
            | .stopped => .stopped }))
      ∧ (link ≠ l → t.link link = answeredLink (s.link link) s.attention tag .ok 0x20#8 []
          ∧ t.link l = if held then s.link l else sentLink (s.link l) s.attention .release [])
      ∧ (link = l → t.link l = answeredLink (if held then s.link l
          else sentLink (s.link l) s.attention .release []) s.attention tag .ok 0x20#8 [])
      ∧ OnlyChanges [Part.lane l, .linkA, .linkB, .packets, .actions] s t)
  ∧ (∀ (link l : Lane) (tag : Byte) (e : Entry) (n : Fin 24) (m : Bool) (p : Packet) (s : State), TowerKept s → ClassesKept s →
    (s.lane l).inFault = true → (s.lane l).queue = [e] → e.verdict = .place n → s.purge = .idle → s.unplaced = [] →
    s.packet { cls := e.cls.toNat, rank := e.rank.toNat } = some p → p.slot = some n →
    s.slot n = .occupied .collecting m p.key → p.coverReceived = false → p.sheetsHeld = 0 →
    (∀ d ∈ (s.lane (otherLane l)).queue, d.key = e.key → ∀ j, d.verdict ≠ .place j) →
    ∃ t, exec (.laneClear link tag [laneCode l]) s = .next t ∧ t.packet p.key = none ∧ t.rankAt p.key = some .waiting
      ∧ t.slot n = (if m then .fenced else .free) ∧ (∀ k, k ≠ p.key → t.rankAt k = s.rankAt k)
      ∧ (∀ j, j ≠ n → t.slot j = s.slot j) ∧ t.held = s.held ∧ t.queued = s.queued ∧ t.fin = s.fin ∧ t.bins = s.bins)

/-! ## Collection, completion and slots -/

/-- R68 and R69: the expiry of a running collection timer makes the packet stale: STALE, timer STOPPED, packet and slot QUEUED,
the key at the end of the normal queue whatever the class's priority, the rank MISSED, PACKET_STALE raised, then the releases of
its class's advance and an IDLE unit's pass. A timer that is not running cannot expire, and nothing happens (log entry 2). -/
def Obligations.CollectionExpiryMakesThePacketStale : Prop :=
  ∀ (n : Fin 24) (s : State),
    ((∀ p ms, s.packetIn n = some p → p.timer ≠ .running ms) →
      ∃ t, exec (.collectionTimerExpiry n) s = .next t ∧ t.actions = [] ∧ OnlyChanges [.actions] s t)
    ∧ ∀ p ms, TowerKept s → s.packetIn n = some p → p.timer = .running ms →
      ∃ u, exec (.collectionTimerExpiry n) s = .next (selectionPass u)
        ∧ u.packet p.key = some { p with flags := { p.flags with stale := true }, timer := .stopped, state := .queued }
        ∧ (∃ m, s.slot n = .occupied .collecting m p.key ∧ u.slot n = .occupied .queued m p.key)
        ∧ u.rankAt p.key = some .missed ∧ (s.queued ++ [{ queue := .normal, key := p.key }]) <+: u.queued
        ∧ u.flags = s.flags ||| BitVec.twoPow 12 8 ∧ u.actions = []
        ∧ (∀ k, k.cls ≠ p.key.cls → u.packet k = s.packet k ∧ u.rankAt k = s.rankAt k)
        ∧ (∀ k, k ≠ p.key → s.rankAt k ≠ some .held → u.packet k = s.packet k ∧ u.rankAt k = s.rankAt k)
        ∧ OnlyChanges [.classes, .slots, .packets, .held, .queued, .flags, .actions] s u

/-- R38, R64, R65, R82 and R83, on a RUNNING or a HELD lane outside a Purge with no overdue entry behind: the sheet that completes a
packet, the next body index above the sheet count and a cover in its pocket where there is one, stops its timer and hands it on: a
DISORDERED one to the end of the normal queue with its rank MISSED; a late one, below the cursor, to its class's queue, LATE, its rank
RELIEVED; one at the cursor released at once, at the end of its class's queue before any rank above it; one above the cursor HELD, at the
end of the held list, after which relief is tried (R86). No packet and rank changes beside it but for HELD ones that the advance releases:
none where it is late or HELD. R44: a HELD lane whose last hold condition the pop ends is released. -/
def Obligations.CompletedPacketIsHandedOn : Prop :=
  ∀ (l : Lane) (e : Entry) (rest : List Entry) (n : Fin 24) (p q : Packet) (thickness : Nat) (s : State),
    (s.lane l).inFault = false → HoldsSettled s → TowerKept s → ClassesKept s → s.purge = .idle →
    (s.lane l).queue = e :: rest → e.verdict = .place n → (∀ d, rest.head? = some d → s.now ≤ d.deadline) →
    s.packetIn n = some p → p.key = { cls := e.cls.toNat, rank := e.rank.toNat } → p.generation = e.generation →
    p.flags.stale = false → p.state = .collecting → decidePlacement p e.index.toNat = .placed q → AllSheetsIn q →
    s.thickness e.media.toNat = some thickness →
    let k := p.key
    let cursor := (s.classRec k.cls).cursor
    let ends := fun (x : PacketState) (h : SlotHold) (f : PacketFlags) (r : RankState) (u : State) =>
      u.packet k = some { q with sheetsHeld := p.sheetsHeld + 1, height := p.height + thickness, timer := .stopped,
                                 flags := f, state := x }
        ∧ (∃ m, s.slot n = .occupied .collecting m k ∧ u.slot n = .occupied h m k) ∧ u.rankAt k = some r
        ∧ u.stamp = s.stamp + 1#32 ∧ u.actions = [.divertGate l false]
        ∧ u.lane l = poppedLane l rest s ∧ u.link l = poppedLink l rest s l
        ∧ (∀ j, j.cls ≠ k.cls → u.packet j = s.packet j ∧ u.rankAt j = s.rankAt j)
        ∧ (∀ j, j ≠ k → s.rankAt j ≠ some .held → u.packet j = s.packet j ∧ u.rankAt j = s.rankAt j)
        ∧ OnlyChanges [.stamp, Part.lane l, Part.link l, .classes, .slots, .packets, .held, .queued, .actions] s u
    let alone := fun (u : State) => ∀ j, j ≠ k → u.packet j = s.packet j ∧ u.rankAt j = s.rankAt j
    let own : Queued := { queue := if (s.classRec k.cls).priority then .express else .normal, key := k }
    (q.flags.disordered = true → ∃ u, exec (.laneEntry l) s = .next (selectionPass u)
        ∧ ends .queued .queued q.flags .missed u ∧ (s.queued ++ [{ queue := .normal, key := k }]) <+: u.queued)
    ∧ (q.flags.disordered = false → k.rank < cursor → ∃ u, exec (.laneEntry l) s = .next (selectionPass u)
        ∧ ends .queued .queued { q.flags with late := true } .relieved u ∧ u.queued = s.queued ++ [own] ∧ u.held = s.held
        ∧ alone u)
    ∧ (q.flags.disordered = false → k.rank = cursor → ∃ u, exec (.laneEntry l) s = .next (selectionPass u)
        ∧ ends .queued .queued q.flags .released u ∧ (s.queued ++ [own]) <+: u.queued
        ∧ cursor < (u.classRec k.cls).cursor)
    ∧ (q.flags.disordered = false → cursor < k.rank → ∃ u, EndsWithRelief u (exec (.laneEntry l) s)
        ∧ ends .held .held q.flags .held u ∧ alone u ∧ u.queued = s.queued ∧ u.held = s.held ++ [k]
        ∧ (u.classRec k.cls).cursor = cursor)

/-- R71, R72, R58 and R59: Fence Slot and Unfence Slot by the slot's state, refusals by code; a slot that Unfence Slot or the
allocator makes available goes to the first waiting key: the packet is created in it, its rank becomes OPEN, the key leaves the
list, and its UNPLACED entries on both lanes name the slot. After a FREE slot has been fenced and after a gift relief is tried (R86). The
command SLOT_GIFT is the allocator's run by itself (log entry 3). -/
def Obligations.FencesAndGiftsFollowTheSlotState : Prop :=
  ∀ (l : Lane) (tag b : Byte) (s : State),
    (24 ≤ b.toNat → (∃ t, exec (.fenceSlot l tag [b]) s = .next t ∧ TurnedAway l tag .field 0x24#8 s t)
      ∧ ∃ t, exec (.unfenceSlot l tag [b]) s = .next t ∧ TurnedAway l tag .field 0x25#8 s t)
    ∧ ∀ n : Fin 24, n.val = b.toNat →
      let given := fun (u : State) (w : Waiting) (rest : List Waiting) =>
        u.slot n = .occupied .collecting false w.key ∧ u.rankAt w.key = some .opened ∧ u.unplaced = rest
          ∧ (∃ p, u.packet w.key = some p ∧ p.slot = some n ∧ p.jobTag = w.jobTag ∧ some p.snapshot = s.assignmentOf w.key.cls
              ∧ p.sheetsHeld = 0 ∧ p.state = .collecting)
          ∧ u.held = s.held ∧ u.queued = s.queued ∧ u.fin = s.fin
          ∧ ∀ m, (u.lane m).queue = (s.lane m).queue.map (fun e =>
              if e.key = w.key ∧ e.verdict = .unplaced then { e with verdict := .place n } else e)
      let mayWait := fun (w : Waiting) => s.rankAt w.key = some .waiting ∧ (s.classRec w.key.cls).state = .active
        ∧ ClassKept (s.classRec w.key.cls) ∧ (s.assignmentOf w.key.cls).isSome ∧ s.packet w.key = none
      (s.slot n = .free → ∃ u, EndsWithRelief u (exec (.fenceSlot l tag [b]) s) ∧ u.actions = []
          ∧ Answers l tag .ok 0x24#8 [] s u ∧ OnlyChanges [.link l, .slots, .actions] s u
          ∧ ∀ m, u.slot m = if m = n then .fenced else s.slot m)
      ∧ (∀ h m k, s.slot n = .occupied h m k → ∃ t, exec (.fenceSlot l tag [b]) s = .next t ∧ t.actions = []
          ∧ Answers l tag .ok 0x24#8 [] s t ∧ OnlyChanges [.link l, .slots, .actions] s t
          ∧ ∀ j, t.slot j = if j = n then .occupied h true k else s.slot j)
      ∧ (s.slot n = .fenced → ∃ t, exec (.fenceSlot l tag [b]) s = .next t ∧ TurnedAway l tag .state 0x24#8 s t)
      ∧ (s.slot n = .fenced → s.unplaced = [] → ∃ t, exec (.unfenceSlot l tag [b]) s = .next t ∧ t.actions = []
          ∧ Answers l tag .ok 0x25#8 [] s t ∧ OnlyChanges [.link l, .slots, .actions] s t
          ∧ ∀ m, t.slot m = if m = n then .free else s.slot m)
      ∧ (∀ w rest, s.slot n = .fenced → s.unplaced = w :: rest → mayWait w →
          ∃ u, EndsWithRelief u (exec (.unfenceSlot l tag [b]) s) ∧ given u w rest)
      ∧ (∀ h k, s.slot n = .occupied h true k → ∃ t, exec (.unfenceSlot l tag [b]) s = .next t ∧ t.actions = []
          ∧ Answers l tag .ok 0x25#8 [] s t ∧ OnlyChanges [.link l, .slots, .actions] s t
          ∧ ∀ j, t.slot j = if j = n then .occupied h false k else s.slot j)
      ∧ (s.slot n = .free ∨ (∃ h k, s.slot n = .occupied h false k) →
          ∃ t, exec (.unfenceSlot l tag [b]) s = .next t ∧ TurnedAway l tag .state 0x25#8 s t)
      ∧ (s.unplaced = [] ∨ s.slot n ≠ .free →
          ∃ t, exec (.slotGift n) s = .next t ∧ t.actions = [] ∧ OnlyChanges [.actions] s t)
      ∧ ∀ w rest, s.slot n = .free → s.unplaced = w :: rest → mayWait w →
          ∃ u, EndsWithRelief u (exec (.slotGift n) s) ∧ given u w rest

/-! ## Relief -/

/-- R85 and R87: where a key waits, no slot is FREE, both queues are empty, no transfer is awaited and a packet is held, the packet
held longest becomes RELIEVED and QUEUED, its rank RELIEVED, at the end of its class's queue, with ORDER_RELIEF raised and no cursor
moved; where one of the five fails, nothing changes. -/
def Obligations.ReliefSendsThePacketHeldLongest : Prop :=
  ∀ s : State, TowerKept s → ClassesKept s →
    let five := s.unplaced ≠ [] ∧ (∀ n, s.slot n ≠ .free) ∧ s.queued = []
      ∧ (∀ c, s.fin.current = some c → s.slotOf c.key = none) ∧ s.held ≠ []
    (¬five → tryRelief s = s)
    ∧ ∀ k rest, five → s.held = k :: rest → ∃ p n m, s.packet k = some p ∧ p.slot = some n
        ∧ s.slot n = .occupied .held m k
        ∧ (tryRelief s).packet k = some { p with flags := { p.flags with relieved := true }, state := .queued }
        ∧ (∀ j, j ≠ k → (tryRelief s).packet j = s.packet j)
        ∧ (∀ j, (tryRelief s).slot j = if j = n then .occupied .queued m k else s.slot j)
        ∧ (∀ j, (tryRelief s).rankAt j = if j = k then some .relieved else s.rankAt j)
        ∧ (∀ c, ((tryRelief s).classRec c).cursor = (s.classRec c).cursor)
        ∧ (tryRelief s).held = rest
        ∧ (tryRelief s).queued = [{ queue := if (s.classRec k.cls).priority then .express else .normal, key := k }]
        ∧ (tryRelief s).flags = s.flags ||| BitVec.twoPow 12 7
        ∧ OnlyChanges [.classes, .slots, .packets, .held, .queued, .flags] s (tryRelief s)

/-! ## Budget, selection and the take -/

/-- R98, R99, R101 and R102: a packet bound for the tray needs no staples and no units; any other needs the staples of its pattern,
or none and is OVERCAP where its height is over the stapler capacity; its loft follows the staples, and its units are height times
loft divided by 2 to the power 4 + scale, rounded up. -/
def Obligations.BudgetFollowsHeightPatternAndSettings : Prop :=
  ∀ (t : Settings) (p : Packet),
    let b := budgetOf t p
    let byPattern := match p.snapshot.pattern with
      | .none => 0
      | .corner => 1
      | .side2 => 2
    ((p.flags.stale = true ∨ p.flags.disordered = true) → b.staplesNeeded = 0 ∧ b.units = 0 ∧ b.overcap = false)
    ∧ (p.flags.stale = false → p.flags.disordered = false →
        (p.height ≤ t.staplerCapacity → b.staplesNeeded = byPattern ∧ b.overcap = false)
        ∧ (t.staplerCapacity < p.height → b.staplesNeeded = 0 ∧ (b.overcap = true ↔ p.snapshot.pattern ≠ .none))
        ∧ ∃ loft, b.loft = some loft ∧ (1 ≤ b.staplesNeeded → loft = t.loftStapled)
          ∧ (b.staplesNeeded = 0 → loft = t.loftPlain)
          ∧ p.height * loft ≤ b.units * 2 ^ (4 + t.scale) ∧ b.units * 2 ^ (4 + t.scale) < p.height * loft + 2 ^ (4 + t.scale))

/-- R110, R111, R112 and R103: one queued packet at a pass: passed over where an older entry of its class stands in either queue,
unless it is bound for the tray; then its destination, the tray by its room, or its class's bin, else bin 16, each READY with room
for its units, else blocked with EXCEPTION_TRAY_FULL or BIN_BLOCKED; then its staples against the supply, else STAPLES_OUT. -/
def Obligations.ExaminationTestsOrderDestinationAndStaples : Prop :=
  ∀ (s : State) (q : Queued) (p : Packet), s.packet q.key = some p → q ∈ s.queued →
    let b := budgetOf s.settings p
    let forTray := p.flags.stale = true ∨ p.flags.disordered = true
    let older := ∃ before after x, s.queued = before ++ q :: after ∧ q ∉ before ∧ x ∈ before ∧ x.key.cls = q.key.cls
    let takes := fun (n : Fin 17) => (s.bin n).state = .ready ∧ (s.bin n).fill + (s.bin n).reserved + b.units ≤ (s.bin n).capacity
    let own := ∃ n, s.returnBin p.key.cls = some n ∧ takes n
    let room := s.tray + p.sheetsHeld ≤ s.settings.exceptionCapacity
    let staples := b.staplesNeeded ≤ s.fin.supply
    (forTray → room → examine q s = .eligible .tray b)
    ∧ (forTray → ¬room → examine q s = .blocked .exceptionTrayFull)
    ∧ (¬forTray → older → examine q s = .passedOver)
    ∧ (¬forTray → ¬older → ¬own → ¬takes 16 → examine q s = .blocked .binBlocked)
    ∧ (¬forTray → ¬older → (own ∨ takes 16) → ¬staples → examine q s = .blocked .staplesOut)
    ∧ (∀ n, ¬forTray → ¬older → s.returnBin p.key.cls = some n → takes n → staples → examine q s = .eligible (.bin n) b)
    ∧ (¬forTray → ¬older → ¬own → takes 16 → staples → examine q s = .eligible (.bin 16) b)

/-- R109 and R113: a pass in IDLE examines the express queue and then the normal queue, each oldest first, raises the cause of every
blocked packet before the first eligible one, and takes that one: current, with target, units and staples fixed; its units reserved
in a target bin; out of its queue, FINISHING, OVERCAP and OVERFLOWED as found; TRANSFER started from its slot with its limit. In
any other state there is no pass. The command TAKE is the pass by itself (log entry 3). -/
def Obligations.TakeStartsTheFirstEligiblePacket : Prop :=
  ∀ s : State,
    let line := s.queued.filter (fun q => q.queue = .express) ++ s.queued.filter (fun q => q.queue = .normal)
    (s.fin.unit ≠ .idle → ∃ t, exec .take s = .next t ∧ t.actions = [] ∧ OnlyChanges [.actions] s t)
    ∧ (s.fin.unit = .idle → (∀ x ∈ line, ∀ g b, examine x s ≠ .eligible g b) →
        ∃ t, exec .take s = .next t ∧ t.actions = [] ∧ OnlyChanges [.flags, .actions] s t
          ∧ ∀ c, t.isPending c = true ↔ s.isPending c = true ∨ ∃ x ∈ line, examine x s = .blocked c)
    ∧ ∀ before after q target b p n, TowerKept s → s.fin.unit = .idle → line = before ++ q :: after →
        (∀ x ∈ before, ∀ g d, examine x s ≠ .eligible g d) → examine q s = .eligible target b → s.packet q.key = some p →
        p.slot = some n →
        ∃ t, exec .take s = .next t ∧ t.actions = [.transfer n]
          ∧ t.fin = { s.fin with
              unit := .stage .transfer, timer := some (s.settings.transferLimit * 100),
              current := some { key := q.key, target := target, units := b.units, staplesNeeded := b.staplesNeeded,
                                staplesPlaced := 0, loft := b.loft } }
          ∧ t.packet q.key = some { p with state := .finishing, flags := { p.flags with
              overcap := p.flags.overcap || b.overcap, overflowed := p.flags.overflowed || decide (target = .bin 16) } }
          ∧ (∀ k, k ≠ q.key → t.packet k = s.packet k) ∧ t.queued = s.queued.filter (fun x => x.key ≠ q.key)
          ∧ (∀ m, t.bin m = if target = .bin m then { s.bin m with reserved := (s.bin m).reserved + b.units } else s.bin m)
          ∧ (∀ c, t.isPending c = true ↔ s.isPending c = true ∨ ∃ x ∈ before, examine x s = .blocked c)
          ∧ OnlyChanges [.fin, .packets, .queued, .bins, .flags, .actions] s t

/-! ## The stages -/

/-- R115, R73 and R114: the transfer done of the current packet empties its slot field, frees the slot, FENCED where a fence was
pending, and starts JOG with its limit; outside a Purge with no key waiting nothing else changes. The freed slot goes to the first waiting
key, and after that relief is tried (R59, R86). In any other stage or state it is ignored. -/
def Obligations.TransferDoneFreesTheSlot : Prop :=
  ∀ s : State,
    (s.fin.unit.running ≠ some .transfer → ∃ t, exec .transferDone s = .next t ∧ t.actions = [] ∧ OnlyChanges [.actions] s t)
    ∧ ∀ c p n m, TowerKept s → s.fin.unit.running = some .transfer → s.fin.current = some c → s.packet c.key = some p →
        p.slot = some n → s.slot n = .occupied .queued m p.key →
        ∃ t, exec .transferDone s = .next t ∧ t.actions = [.jog]
          ∧ t.fin = { s.fin with timer := some (s.settings.jogLimit * 100), unit := match s.fin.unit with
              | .suspendPending _ => .suspendPending .jog
              | _ => .stage .jog }
          ∧ t.packet c.key = some { p with slot := none } ∧ (m = true → t.slot n = .fenced)
          ∧ (m = false → s.unplaced = [] → t.slot n = .free)
          ∧ (∀ w rest, m = false → s.unplaced = w :: rest → t.slot n = .occupied .collecting false w.key
              ∧ t.rankAt w.key = some .opened ∧ t.unplaced = rest)
          ∧ (s.purge = .idle → s.unplaced = [] → OnlyChanges [.slots, .packets, .fin, .actions] s t
              ∧ (∀ j, j ≠ n → t.slot j = s.slot j) ∧ ∀ k, k ≠ c.key → t.packet k = s.packet k)
          ∧ (s.purge = .idle → ClassesKept s → ∃ u, EndsWithRelief u (.next t) ∧ u.fin = t.fin ∧ u.actions = [.jog]
              ∧ u.held = s.held ∧ u.queued = s.queued ∧ u.flags = s.flags
              ∧ u.unplaced = (if m then s.unplaced else s.unplaced.tail)
              ∧ (∀ j, u.slot j = if j = n then (if m then .fenced else match s.unplaced with
                  | [] => .free
                  | w :: _ => .occupied .collecting false w.key) else s.slot j)
              ∧ ∀ k, s.rankAt k = some .held → u.rankAt k = some .held ∧ u.packet k = s.packet k)

/-- R116, R117, R118 and R114: jog done fires the first staple where one is still to be placed and starts EJECT otherwise; a staple
done takes one from the supply and counts one placed, then starts EJECT at the staples needed and fires the next staple otherwise;
each start begins its limit; the eject goes to the target, centred for the tray, RELIEVED and LATE, and at the bin's jog side
otherwise. In any other stage or state both are ignored. -/
def Obligations.JogAndStapleDoneStartTheNextStage : Prop :=
  ∀ s : State,
    let unit := fun (g : Stage) => match s.fin.unit with
      | .suspendPending _ => UnitState.suspendPending g
      | _ => UnitState.stage g
    let fires := fun (p : Packet) (c : Current) (supply : Nat) (t : State) =>
      t.actions = [.staple p.snapshot.pattern] ∧ OnlyChanges [.fin, .actions] s t
        ∧ t.fin = { unit := unit .staple, timer := some (s.settings.stapleLimit * 100), current := some c, supply := supply }
    let ejects := fun (p : Packet) (c : Current) (supply : Nat) (t : State) =>
      t.actions = [.eject c.target (match c.target with
          | .tray => .centred
          | .bin b =>
            if p.flags.relieved = true ∨ p.flags.late = true then .centred
            else if (s.bin b).jogSide = .left then .left
            else .right)]
        ∧ OnlyChanges [.fin, .actions] s t
        ∧ t.fin = { unit := unit .eject, timer := some (s.settings.ejectLimit * 100), current := some c, supply := supply }
    (s.fin.unit.running ≠ some .jog → ∃ t, exec .jogDone s = .next t ∧ t.actions = [] ∧ OnlyChanges [.actions] s t)
    ∧ (s.fin.unit.running ≠ some .staple →
        ∃ t, exec .stapleDone s = .next t ∧ t.actions = [] ∧ OnlyChanges [.actions] s t)
    ∧ ∀ c p, s.fin.current = some c → s.packet c.key = some p →
      (s.fin.unit.running = some .jog → ∃ t, exec .jogDone s = .next t
          ∧ (c.staplesPlaced < c.staplesNeeded → fires p c s.fin.supply t)
          ∧ (c.staplesNeeded ≤ c.staplesPlaced → ejects p c s.fin.supply t))
      ∧ (s.fin.unit.running = some .staple → ∃ t, exec .stapleDone s = .next t
          ∧ (c.staplesPlaced + 1 = c.staplesNeeded →
              ejects p { c with staplesPlaced := c.staplesPlaced + 1 } (s.fin.supply - 1) t)
          ∧ (c.staplesPlaced + 1 ≠ c.staplesNeeded →
              fires p { c with staplesPlaced := c.staplesPlaced + 1 } (s.fin.supply - 1) t))

/-- R119, R91, R126, R131 and R136: the eject done of the current packet moves its units from reserved to fill and flips the jog side of
an offset delivery, or counts its sheets into the tray, where R138 raises EXCEPTION_TRAY_FULL and holds the lanes at its threshold; its
Disposition, with its bin or 17 for the tray, goes on the report lane; a RELEASED rank becomes DELIVERED; the packet leaves the map, and
the class, where nothing of it is left, becomes DONE with its report; the unit enters IDLE with a pass, or SUSPENDED. In any other stage
or state it is ignored. -/
def Obligations.EjectDoneDeliversThePacket : Prop :=
  ∀ s : State,
    (s.fin.unit.running ≠ some .eject → ∃ t, exec .ejectDone s = .next t ∧ t.actions = [] ∧ OnlyChanges [.actions] s t)
    ∧ ∀ c p, TowerKept s → ClassesKept s → s.fin.unit.running = some .eject → s.fin.current = some c →
        s.packet c.key = some p →
        let r := s.classRec c.key.cls
        let complete := r.cursor = r.size ∧ r.countOf .waiting = 0 ∧ ∀ k, k ≠ c.key → k.cls = c.key.cls → s.packet k = none
        let report := s.settings.reportLane
        let threshold := s.settings.exceptionCapacity - 12
        let full := c.target = .tray ∧ threshold ≤ s.tray + p.sheetsHeld
        let holds := fun (m : Lane) => full ∧ s.tray < threshold ∧ (s.lane m).state = .running
        let flags := if full then s.flags ||| BitVec.twoPow 12 3 else s.flags
        let link := fun (m : Lane) => if holds m then sentLink (s.link m) true .hold [] else s.link m
        let sent := sentLink (link report) (flags != 0#12) .disposition
          ([BitVec.ofNat 8 c.key.cls, p.generation, BitVec.ofNat 8 c.key.rank] ++ be16 p.jobTag.toNat
            ++ [match c.target with | .bin b => BitVec.ofNat 8 b.val | .tray => 17#8, BitVec.ofNat 8 p.flags.code,
                BitVec.ofNat 8 c.staplesPlaced, BitVec.ofNat 8 p.sheetsHeld] ++ be16 c.units ++ be32 s.stamp)
        ∃ u, exec .ejectDone s = .next (selectionPass u) ∧ u.actions = []
          ∧ u.fin = { unit := (match s.fin.unit with | .suspendPending _ => .suspended | _ => .idle), timer := none,
                      current := none, supply := s.fin.supply }
          ∧ (∀ k, u.packet k = if k = c.key then none else s.packet k)
          ∧ (∀ k, u.rankAt k = if k = c.key ∧ s.rankAt k = some .released then some .delivered else s.rankAt k)
          ∧ (∀ d, (d ≠ c.key.cls ∨ ¬complete) → (u.classRec d).state = (s.classRec d).state)
          ∧ (complete → (u.classRec c.key.cls).state = .done)
          ∧ (∀ m, u.bin m = if c.target = .bin m then
              { s.bin m with
                  reserved := (s.bin m).reserved - c.units, fill := (s.bin m).fill + c.units,
                  jogSide := if p.flags.relieved = true ∨ p.flags.late = true then (s.bin m).jogSide
                    else match (s.bin m).jogSide with | .left => .right | .right => .left }
              else s.bin m)
          ∧ u.tray = (if c.target = .tray then s.tray + p.sheetsHeld else s.tray)
          ∧ OnlyChanges [.classes, .packets, .fin, .bins, .tray, .flags, .laneA, .laneB, .linkA, .linkB, .actions] s u
          ∧ (∀ b, c.target = .bin b →
              OnlyChanges [.classes, .packets, .fin, .bins, .flags, Part.link s.settings.reportLane, .actions] s u)
          ∧ (∀ m, u.lane m = { s.lane m with state := if holds m then .held else (s.lane m).state })
          ∧ u.link (otherLane report) = link (otherLane report)
          ∧ (¬complete → u.link report = sent ∧ u.flags = flags)
          ∧ (complete → u.flags = flags ||| BitVec.twoPow 12 11
              ∧ u.link report = sentLink sent (flags != 0#12) .classDone
                  ([BitVec.ofNat 8 c.key.cls, r.generation, BitVec.ofNat 8 r.size]
                    ++ [RankState.delivered, .relieved, .missed, .excused].map
                        (fun x => BitVec.ofNat 8 ((u.classRec c.key.cls).countOf x)) ++ be32 s.stamp))

/-- R120: a finisher jam puts the unit in FAULT with JAM from every state; a misfire acts in STAPLE only, and the expiry of a running
stage timer in a stage only: timer stopped, suspend mark 1 from SUSPEND_PENDING and SUSPENDED and kept in FAULT, FINISHER_FAULT raised,
the current packet and its reservation kept. A stopped timer cannot expire, and nothing happens (log entry 2). -/
def Obligations.FaultsStopTheUnit : Prop :=
  ∀ s : State,
    let faulted := fun (cause : UnitCause) (t : State) =>
      t.actions = [] ∧ t.flags = s.flags ||| BitVec.twoPow 12 2 ∧ OnlyChanges [.fin, .flags, .actions] s t
        ∧ t.fin = { s.fin with timer := none, unit := .fault cause (match s.fin.unit with
            | .suspendPending _ => true
            | .suspended => true
            | .fault _ m => m
            | .idle => false
            | .stage _ => false) }
    (∃ t, exec .finisherJam s = .next t ∧ faulted .jam t)
    ∧ (s.fin.unit.running = some .staple → ∃ t, exec .stapleMisfire s = .next t ∧ faulted .misfire t)
    ∧ (s.fin.unit.running ≠ some .staple →
        ∃ t, exec .stapleMisfire s = .next t ∧ t.actions = [] ∧ OnlyChanges [.actions] s t)
    ∧ (s.fin.unit.running ≠ none → s.fin.timer ≠ none → ∃ t, exec .stageLimitExpiry s = .next t ∧ faulted .timeout t)
    ∧ (s.fin.unit.running = none ∨ s.fin.timer = none →
        ∃ t, exec .stageLimitExpiry s = .next t ∧ t.actions = [] ∧ OnlyChanges [.actions] s t)

/-- R121: Finisher Clear with an outcome that names neither is refused FIELD (reached by UNKNOWN_KIND_FRAME in the model: log entry 5),
and outside FAULT STATE; with no current packet either outcome goes to SUSPENDED by the mark, or to IDLE with a pass; RETRY with one
restarts TRANSFER from its slot, or JOG where its transfer done has been received, in SUSPEND_PENDING where the mark is 1, and keeps the
packet's values. -/
def Obligations.FinisherClearRestartsThePacket : Prop :=
  ∀ (l : Lane) (tag b : Byte) (s : State),
    (2 ≤ b.toNat → ∃ t, exec (.unknownKindFrame l 0x21#8 tag [b]) s = .next t ∧ TurnedAway l tag .field 0x21#8 s t)
    ∧ ((∀ c m, s.fin.unit ≠ .fault c m) → (∃ t, exec (.finisherClearRetry l tag []) s = .next t
          ∧ TurnedAway l tag .state 0x21#8 s t)
        ∧ ∃ t, exec (.finisherClearRemoved l tag []) s = .next t ∧ TurnedAway l tag .state 0x21#8 s t)
    ∧ ∀ cause mark, s.fin.unit = .fault cause mark →
      (s.fin.current = none → ∃ u, exec (.finisherClearRetry l tag []) s = .next (selectionPass u)
          ∧ exec (.finisherClearRemoved l tag []) s = .next (selectionPass u) ∧ Answers l tag .ok 0x21#8 [] s u
          ∧ u.fin = { s.fin with unit := if mark then .suspended else .idle } ∧ u.actions = []
          ∧ OnlyChanges [.link l, .fin, .actions] s u)
      ∧ ∀ c, s.fin.current = some c → ∃ t, exec (.finisherClearRetry l tag []) s = .next t
          ∧ Answers l tag .ok 0x21#8 [] s t ∧ OnlyChanges [.link l, .fin, .actions] s t
          ∧ (∀ n, s.slotOf c.key = some n → t.actions = [.transfer n] ∧ t.fin = { s.fin with
              unit := if mark then .suspendPending .transfer else .stage .transfer,
              timer := some (s.settings.transferLimit * 100) })
          ∧ (s.slotOf c.key = none → t.actions = [.jog] ∧ t.fin = { s.fin with
              unit := if mark then .suspendPending .jog else .stage .jog, timer := some (s.settings.jogLimit * 100) })

/-- R122, R126 and R91, outside a Purge, where no key waits or the packet has left its slot: Finisher Clear REMOVED returns the current
packet's units to its target bin, frees the slot it may still have, reports it with destination 18, REMOVED and the staples placed, makes
a RELEASED rank MISSED, takes the packet out of the map, completes the class where nothing of it is left, and frees the unit: IDLE, with
relief tried (R86) and a pass, or SUSPENDED by the mark. The Disposition comes before the Reply on a link that both go on (log entry
6). -/
def Obligations.FinisherClearRemovesThePacket : Prop :=
  ∀ (l : Lane) (tag : Byte) (c : Current) (p : Packet) (cause : UnitCause) (mark : Bool) (s : State), TowerKept s →
    ClassesKept s → s.fin.unit = .fault cause mark → s.fin.current = some c → s.packet c.key = some p → s.purge = .idle →
    s.unplaced = [] ∨ s.slotOf c.key = none →
    let r := s.classRec c.key.cls
    let complete := r.cursor = r.size ∧ r.countOf .waiting = 0 ∧ ∀ k, k ≠ c.key → k.cls = c.key.cls → s.packet k = none
    let lane := s.settings.reportLane
    let sent := sentLink (s.link lane) s.attention .disposition
      ([BitVec.ofNat 8 c.key.cls, p.generation, BitVec.ofNat 8 c.key.rank] ++ be16 p.jobTag.toNat
        ++ [18#8, BitVec.ofNat 8 ({ p.flags with removed := true }).code, BitVec.ofNat 8 c.staplesPlaced,
            BitVec.ofNat 8 p.sheetsHeld] ++ [0#8, 0#8] ++ be32 s.stamp)
    ∃ u, exec (.finisherClearRemoved l tag []) s = .next (selectionPass (tryRelief u)) ∧ u.actions = []
      ∧ u.fin = { s.fin with unit := if mark then .suspended else .idle, current := none }
      ∧ (∀ k, u.packet k = if k = c.key then none else s.packet k)
      ∧ (∀ k, u.rankAt k = if k = c.key ∧ s.rankAt k = some .released then some .missed else s.rankAt k)
      ∧ (∀ m, u.bin m = if c.target = .bin m then { s.bin m with reserved := (s.bin m).reserved - c.units } else s.bin m)
      ∧ (∀ j, u.slot j = match s.slot j with
          | .occupied h m k => if k = c.key then (if m then .fenced else .free) else .occupied h m k
          | x => x)
      ∧ (∀ d, (d ≠ c.key.cls ∨ ¬complete) → (u.classRec d).state = (s.classRec d).state)
      ∧ (complete → (u.classRec c.key.cls).state = .done)
      ∧ (¬complete → u.flags = s.flags
          ∧ (l ≠ lane → u.link lane = sent ∧ Answers l tag .ok 0x21#8 [] s u)
          ∧ (l = lane → u.link lane = answeredLink sent s.attention tag .ok 0x21#8 []))
      ∧ (complete → u.flags = s.flags ||| BitVec.twoPow 12 11)
      ∧ OnlyChanges [.classes, .slots, .packets, .fin, .bins, .flags, .linkA, .linkB, .actions] s u

/-- R123, R124 and R125: Suspend Finishing and Resume Finishing are taken in every unit state with OK and have the effect of their
tables, Resume leaving SUSPENDED with a pass; a cartridge inserted sets the supply to the full count, with a pass in IDLE. -/
def Obligations.SuspendResumeAndCartridgeActInEveryState : Prop :=
  ∀ (l : Lane) (tag : Byte) (s : State),
    (∃ t, exec (.suspendFinishing l tag []) s = .next t ∧ Answers l tag .ok 0x22#8 [] s t ∧ t.actions = []
      ∧ OnlyChanges [.link l, .fin, .actions] s t ∧ t.fin = { s.fin with unit := match s.fin.unit with
          | .idle => .suspended
          | .stage g => .suspendPending g
          | .suspendPending g => .suspendPending g
          | .suspended => .suspended
          | .fault c _ => .fault c true })
    ∧ (∃ u, exec (.resumeFinishing l tag []) s = .next (if s.fin.unit = .suspended then selectionPass u else u)
      ∧ Answers l tag .ok 0x23#8 [] s u ∧ u.actions = [] ∧ OnlyChanges [.link l, .fin, .actions] s u
      ∧ u.fin = { s.fin with unit := match s.fin.unit with
          | .suspended => .idle
          | .suspendPending g => .stage g
          | .fault c _ => .fault c false
          | .idle => .idle
          | .stage g => .stage g })
    ∧ ∃ u, exec .cartridgeInserted s = .next (selectionPass u) ∧ u.actions = []
      ∧ u.fin = { s.fin with supply := s.settings.cartridgeFull } ∧ OnlyChanges [.fin, .actions] s u

/-! ## Bins and the exception tray -/

/-- R130 and R133 to R135: Load Bin refuses a number above 16 FIELD and a clamped capacity below fill plus reserved STATE, and else
loads the capacity, an UNLOADED bin becoming READY; bin full, bin removed and bin replaced act by the bin's state; each other field and
bin is kept. A changed capacity, an UNLOADED bin loaded and the replacement of a bin that has been loaded lead to a pass (R109, R131). -/
def Obligations.BinCommandsFollowTheBinState : Prop :=
  ∀ (l : Lane) (tag n hi lo : Byte) (s : State),
    let v := hi.toNat * 256 + lo.toNat
    let cap := max 1 (min v 4095)
    (17 ≤ n.toNat → ∃ t, exec (.loadBin l tag [n, hi, lo]) s = .next t ∧ TurnedAway l tag .field 0x17#8 s t)
    ∧ ∀ b : Fin 17,
      let r := s.bin b
      let becomes := fun (x : Bin) (t : State) => ∀ m, t.bin m = if m = b then x else s.bin m
      (b.val = n.toNat → cap < r.fill + r.reserved →
        ∃ t, exec (.loadBin l tag [n, hi, lo]) s = .next t ∧ TurnedAway l tag .state 0x17#8 s t)
      ∧ (b.val = n.toNat → r.fill + r.reserved ≤ cap → ∃ u, exec (.loadBin l tag [n, hi, lo]) s
            = .next (if cap ≠ r.capacity ∨ r.state = .unloaded then selectionPass u else u)
          ∧ Answers l tag (if 1 ≤ v ∧ v ≤ 4095 then .ok else .okClamped) 0x17#8 [] s u ∧ u.actions = []
          ∧ OnlyChanges [.link l, .bins, .actions] s u
          ∧ becomes { r with capacity := cap, state := if r.state = .unloaded then .ready else r.state } u)
      ∧ (∃ t, exec (.binFull b) s = .next t ∧ t.actions = [] ∧ OnlyChanges [.bins, .actions] s t
          ∧ becomes (if r.state = .ready ∨ r.state = .full then { r with state := .full, fill := r.capacity - r.reserved }
              else r) t)
      ∧ (∃ t, exec (.binRemoved b) s = .next t ∧ t.actions = [] ∧ OnlyChanges [.bins, .actions] s t
          ∧ becomes { r with state := if r.state = .unloaded then .unloaded else .out } t)
      ∧ ∃ u, exec (.binReplaced b) s
            = .next (if r.state = .unloaded then u else selectionPass u)
          ∧ u.actions = [] ∧ OnlyChanges [.bins, .actions] s u
          ∧ becomes (if r.state = .unloaded then r else { r with state := .ready, fill := 0 }) u

/-- R139 and R44: exception tray emptied makes the count 0, releases a HELD lane that only the count held, where it stood at the
threshold or above, leaves every other lane and its link as they were (one that a Purge, six entries or an UNPLACED entry still holds
too), and leads to a pass in IDLE; nothing else changes. -/
def Obligations.EmptyingTheTrayReleasesTheLanes : Prop :=
  ∀ s : State, HoldsSettled s → SettingsInRange s.settings →
    ∃ u, exec .exceptionTrayEmptied s = .next (selectionPass u) ∧ u.tray = 0 ∧ u.actions = []
    ∧ OnlyChanges [.tray, .laneA, .laneB, .linkA, .linkB, .actions] s u
    ∧ ∀ l, (s.settings.exceptionCapacity - 12 ≤ s.tray → s.purge = .idle → (s.lane l).state = .held →
        (s.lane l).queue.length < 6 → (∀ e ∈ (s.lane l).queue, e.verdict ≠ .unplaced) →
          u.lane l = { s.lane l with state := .running } ∧ u.link l = sentLink (s.link l) s.attention .release [])
      ∧ (s.tray < s.settings.exceptionCapacity - 12 ∨ (s.lane l).state ≠ .held → u.lane l = s.lane l ∧ u.link l = s.link l)
      ∧ (s.settings.exceptionCapacity - 12 ≤ s.tray → (s.lane l).state = .held →
          s.purge ≠ .idle ∨ 6 ≤ (s.lane l).queue.length ∨ (∃ e ∈ (s.lane l).queue, e.verdict = .unplaced) →
          u.lane l = s.lane l ∧ u.link l = s.link l)

/-! ## Purge -/

/-- R162, R47, R74 and R92: a Purge in progress refuses another STATE; a taken one turns every entry to DIVERT PURGING, or discards the
entries of a lane in FAULT, empties the unplaced list, the held list and both queues, dumps every packet but the current one out of the
map with its rank MISSED and its sheets counted into the tray, and frees the dumped slots. Where the links have room for the Purge's
frames, at most 51 on one: each dumped packet has one Disposition on the report lane, in slot order, with destination 17, PURGED, 0
staples and 0 units; and the Reply is made at once where both parts are met, and not otherwise (R163). -/
def Obligations.PurgeEmptiesTheTower : Prop :=
  ∀ (l : Lane) (tag : Byte) (s : State),
    let dumped := fun (n : Fin 24) => match s.packetIn n with
      | some p => if p.state = .finishing then none else some p
      | none => none
    (s.purge ≠ .idle → ∃ t, exec (.purge l tag []) s = .next t ∧ TurnedAway l tag .state 0x26#8 s t)
    ∧ (s.purge = .idle → TowerKept s → ∃ t, exec (.purge l tag []) s = .next t
        ∧ t.unplaced = [] ∧ t.held = [] ∧ t.queued = [] ∧ t.fin = s.fin ∧ t.bins = s.bins ∧ t.stamp = s.stamp
        ∧ t.tables = s.tables ∧ t.now = s.now ∧ t.pending = s.pending
        ∧ t.packets = s.packets.filter (fun p => p.state = .finishing)
        ∧ t.tray = s.tray + ((s.packets.filter (fun p => p.state ≠ .finishing)).map Packet.sheetsHeld).sum
        ∧ (∀ p ∈ s.packets, p.state ≠ .finishing → t.rankAt p.key = some .missed)
        ∧ (∀ n, t.slot n = match s.slot n with
            | .occupied h m k => if (∃ p ∈ s.packets, p.key = k ∧ p.state = .finishing) then .occupied h m k
                else if m then .fenced else .free
            | x => x)
        ∧ (∀ m, (t.lane m).queue = if (s.lane m).inFault then [] else
            (s.lane m).queue.map (fun e => { e with verdict := .divert .purging }))
        ∧ t.actions = ((List.finRange 24).filter (fun n => (dumped n).isSome)).map Action.dumpGate
        ∧ (t.purge = .idle ∨ t.purge = .inProgress l tag)
        ∧ (t.purge = .idle ↔ (∀ m, (t.lane m).queue = []) ∧ ∀ n, t.slot n = .free ∨ t.slot n = .fenced)
        ∧ ((∀ m, (s.link m).tx.length + 51 ≤ 128) →
            (∀ m, ((t.link m).tx.filter (fun f => f.kind = .disposition)).map Frame.body
              = ((s.link m).tx.filter (fun f => f.kind = .disposition)).map Frame.body
                ++ (if m = s.settings.reportLane then ((List.finRange 24).filterMap dumped).map (fun p =>
                    [BitVec.ofNat 8 p.key.cls, p.generation, BitVec.ofNat 8 p.key.rank] ++ be16 p.jobTag.toNat
                      ++ [17#8, BitVec.ofNat 8 ({ p.flags with purged := true }).code, 0#8, BitVec.ofNat 8 p.sheetsHeld,
                          0#8, 0#8] ++ be32 s.stamp) else []))
            ∧ ∀ m, (t.link m).tx.filter (fun f => f.kind = .reply) = (s.link m).tx.filter (fun f => f.kind = .reply)
                ++ (if m = l ∧ t.purge = .idle then
                    [{ kind := .reply, attention := t.attention, tag := tag, body := [0#8, 0x26#8] }] else [])))

/-- R163 and R48: the completion test ends a Purge exactly where both queues are empty and every slot is FREE or FENCED: IDLE, any
sequence expected on both lanes, a lane that only the Purge held RUNNING with its Release, then the Reply OK with the request's tag on
its lane. The command PURGE_COMPLETION is the test by itself (log entry 3). -/
def Obligations.PurgeCompletesWhenBothPartsAreMet : Prop :=
  ∀ s : State,
    let met := (∀ m, (s.lane m).queue = []) ∧ ∀ n, s.slot n = .free ∨ s.slot n = .fenced
    let full := s.settings.exceptionCapacity - 12 ≤ s.tray
    (s.purge = .idle ∨ ¬met → ∃ t, exec .purgeCompletion s = .next t ∧ t.actions = [] ∧ OnlyChanges [.actions] s t)
    ∧ ∀ l tag, s.purge = .inProgress l tag → met → (∀ m, (s.lane m).state ≠ .running) →
      let after := fun (m : Lane) => if (s.lane m).state = .held ∧ ¬full then sentLink (s.link m) s.attention .release []
        else s.link m
      ∃ t, exec .purgeCompletion s = .next t ∧ t.purge = .idle ∧ t.actions = []
        ∧ (∀ m, t.lane m = { s.lane m with
            expected := none, state := if (s.lane m).state = .held ∧ ¬full then .running else (s.lane m).state })
        ∧ t.link (otherLane l) = after (otherLane l)
        ∧ t.link l = { after l with tx := joinTx { kind := .reply, attention := s.attention, tag := tag,
                                                   body := [0#8, 0x26#8] } (after l).tx }
        ∧ OnlyChanges [.laneA, .laneB, .linkA, .linkB, .purge, .actions] s t

end Statements
end

