-- ==== Sys2Proof/Laws/Checks.lean ====
section
/-! SUPPORT. The laws of Safety.lean as checks that evaluate on a written-out state, each with the proof that a passed check gives
the law. -/

namespace Sys2Proof.Safety

open Sys2Proof.Machine

/-! ## Classes -/

/-- A class number that is not below 48 names no record. -/
theorem classRec_of_le {s : State} {c : Nat} (h : 48 ≤ c) : s.classRec c = .emptyWith 0#8 := by
  simp [State.classRec, finOf, Nat.not_lt.mpr h]

/-- A rank that is not below the length of the roster has no state. -/
theorem rankAt_of_le {r : ClassRec} {k : Nat} (h : ∀ b, r.body = some b → b.roster.length ≤ k) : r.rankAt k = none := by
  unfold ClassRec.rankAt
  split
  · rename_i b hb
    simpa using h b hb
  · rfl

/-- `ClassKept` as a check. -/
def classCheck (r : ClassRec) : Bool :=
  match r.body with
  | none => decide (r.state = .empty) && decide (r.cursor = 0) && !r.locked && !r.priority
  | some b =>
    decide (r.state ≠ .empty) && decide (r.cursor ≤ b.size) && decide (b.roster.length = b.size) && decide (1 ≤ b.size)
      && decide (b.size ≤ 40)
      && (b.roster.drop r.cursor).all (fun x => decide (x ≠ .released) && decide (x ≠ .delivered))
      && (decide (r.cursor = b.size) || decide (b.roster[r.cursor]? = some .waiting)
        || decide (b.roster[r.cursor]? = some .opened))

theorem classKept_of_check {r : ClassRec} (h : classCheck r = true) : ClassKept r := by
  unfold classCheck at h
  unfold ClassKept
  split at h
  · rename_i hb
    simp only [Bool.and_eq_true, decide_eq_true_eq, Bool.not_eq_true'] at h
    simp [hb, h, ClassRec.size, ClassRec.rankAt]
  · rename_i b hb
    simp only [Bool.and_eq_true, Bool.or_eq_true, decide_eq_true_eq, List.all_eq_true] at h
    obtain ⟨⟨⟨⟨⟨⟨h1, h2⟩, h3⟩, h4⟩, h5⟩, h6⟩, h7⟩ := h
    refine ⟨by simp [h1, hb], by simpa [ClassRec.size, hb], fun he => absurd he h1, ?_, ?_, ?_⟩
    · intro b' hb'
      cases hb.symm.trans hb'
      exact ⟨h3, h4, h5⟩
    · intro k hk
      simp only [ClassRec.rankAt, hb]
      have hin : ∀ x, b.roster[k]? = some x → x ∈ b.roster.drop r.cursor := by
        intro x hx
        apply List.mem_of_getElem? (i := k - r.cursor)
        rw [List.getElem?_drop, Nat.add_sub_cancel' hk, hx]
      exact ⟨fun e => (h6 _ (hin _ e)).1 rfl, fun e => (h6 _ (hin _ e)).2 rfl⟩
    · intro hc
      simp only [ClassRec.size, hb] at hc
      simp only [ClassRec.rankAt, hb]
      rcases h7 with (h7 | h7) | h7
      · omega
      · exact .inl h7
      · exact .inr h7

/-- `ClassesKept` as a check. -/
def classesCheck (s : State) : Bool := (List.range 48).all (fun c => classCheck (s.classRec c))

theorem classesKept_of_check {s : State} (h : classesCheck s = true) : ClassesKept s := by
  intro c
  by_cases hc : c < 48
  · exact classKept_of_check (List.all_eq_true.mp h c (List.mem_range.mpr hc))
  · rw [classRec_of_le (Nat.not_lt.mp hc)]
    exact classKept_of_check (by decide)

/-! ## The tower -/

/-- `PacketState.fitsRank` as a check. -/
def rankFits : PacketState → Option RankState → Bool
  | .collecting, r => decide (r = some .opened)
  | .held, r => decide (r = some .held)
  | .queued, r => decide (r = some .released) || decide (r = some .relieved) || decide (r = some .missed)
  | .finishing, r => decide (r = some .released) || decide (r = some .relieved) || decide (r = some .missed)

theorem fitsRank_of_check {x : PacketState} {r : Option RankState} (h : rankFits x r = true) : PacketState.fitsRank x r := by
  cases x <;> simpa [rankFits, PacketState.fitsRank, or_assoc] using h

/-- `PacketState.fitsSlot` as a check. -/
def slotFits : PacketState → SlotHold → Bool
  | .collecting, h => decide (h = .collecting)
  | .held, h => decide (h = .held)
  | .queued, h => decide (h = .queued)
  | .finishing, h => decide (h = .queued)

theorem fitsSlot_of_check {x : PacketState} {k : SlotHold} (h : slotFits x k = true) : PacketState.fitsSlot x k := by
  cases x <;> simpa [slotFits, PacketState.fitsSlot] using h

/-- `PacketKept` as a check. -/
def packetCheck (s : State) (p : Packet) : Bool :=
  decide ((s.classRec p.key.cls).state = .active) && rankFits p.state (s.rankAt p.key)
    && (decide (p.timer = .stopped) || decide (p.state = .collecting))
    && (decide (p.state ≠ .held) || s.held.contains p.key)
    && (decide (p.state ≠ .queued) || s.queued.any (fun q => q.key = p.key))
    && (decide (p.state ≠ .finishing) || decide (s.fin.current.map Current.key = some p.key))
    && (match p.slot with
      | none => decide (p.state = .finishing)
      | some n =>
        match s.slot n with
        | .occupied h _ k => decide (k = p.key) && slotFits p.state h
        | .free => false
        | .fenced => false)

theorem packetKept_of_check {s : State} {p : Packet} (h : packetCheck s p = true) : PacketKept s p := by
  simp only [packetCheck, Bool.and_eq_true, Bool.or_eq_true, decide_eq_true_eq, List.any_eq_true, List.contains_iff_mem] at h
  obtain ⟨⟨⟨⟨⟨⟨h1, h2⟩, h3⟩, h4⟩, h5⟩, h6⟩, h7⟩ := h
  refine ⟨h1, fitsRank_of_check h2, fun e => h3.resolve_left e, fun e => h4.resolve_left (absurd e), fun e => h5.resolve_left (absurd e),
    fun e => ?_, fun e => ?_, fun n e => ?_⟩
  · have h6 := h6.resolve_left (absurd e)
    cases hc : s.fin.current with
    | none => simp [hc] at h6
    | some c => exact ⟨c, rfl, by simpa [hc] using h6⟩
  · simpa [e] using h7
  · simp only [e] at h7
    split at h7
    · rename_i hold m k hs
      simp only [Bool.and_eq_true, decide_eq_true_eq] at h7
      exact ⟨hold, m, by rw [hs, h7.1], fitsSlot_of_check h7.2⟩
    · cases h7
    · cases h7

/-- A packet of a key in a state stands in the map. -/
def stands (s : State) (k : Key) (x : PacketState) : Bool := s.packets.any (fun p => decide (p.key = k) && decide (p.state = x))

theorem of_stands {s : State} {k : Key} {x : PacketState} (h : stands s k x = true) :
    ∃ p ∈ s.packets, p.key = k ∧ p.state = x := by
  simpa [stands] using h

/-- The ranks of a class that are OPEN or HELD have their packets. -/
def ranksCheck (s : State) (c : Nat) : Bool :=
  match (s.classRec c).body with
  | none => true
  | some b => (List.range b.roster.length).all (fun k =>
      (decide (b.roster[k]? ≠ some .opened) || stands s { cls := c, rank := k } .collecting)
        && (decide (b.roster[k]? ≠ some .held) || stands s { cls := c, rank := k } .held))

theorem of_ranksCheck {s : State} {k : Key} (h : ranksCheck s k.cls = true) :
    (s.rankAt k = some .opened → stands s k .collecting = true) ∧ (s.rankAt k = some .held → stands s k .held = true) := by
  unfold ranksCheck at h
  unfold State.rankAt ClassRec.rankAt
  split at h
  · rename_i hb
    simp [hb]
  · rename_i b hb
    simp only [hb]
    simp only [List.all_eq_true, List.mem_range, Bool.and_eq_true, Bool.or_eq_true, decide_eq_true_eq] at h
    have lt : ∀ {x}, b.roster[k.rank]? = some x → k.rank < b.roster.length := by
      intro x hx
      exact (List.getElem?_eq_some_iff.mp hx).1
    exact ⟨fun e => (h _ (lt e)).1.resolve_left (absurd e), fun e => (h _ (lt e)).2.resolve_left (absurd e)⟩

/-- `CurrentFits` as a check. -/
def currentCheck (f : Finisher) : Bool :=
  (decide (f.current = none) || (decide (f.unit ≠ .idle) && decide (f.unit ≠ .suspended)))
    && (decide (f.unit.running = none) || decide (f.current ≠ none))

theorem currentFits_of_check {f : Finisher} (h : currentCheck f = true) : CurrentFits f := by
  simp only [currentCheck, Bool.and_eq_true, Bool.or_eq_true, decide_eq_true_eq] at h
  refine ⟨fun e => h.1.resolve_right (fun n => ?_), fun e => h.2.resolve_left e⟩
  rcases e with e | e
  · exact n.1 e
  · exact n.2 e

/-- `TowerKept` as a check. -/
def towerCheck (s : State) : Bool :=
  decide (s.packets.Pairwise (fun p q => p.key.below q.key = true)) && s.packets.all (packetCheck s)
    && s.unplaced.all (fun u => decide ((s.classRec u.key.cls).state = .active) && decide (s.rankAt u.key = some .waiting)
      && (s.assignmentOf u.key.cls).isSome)
    && decide (s.unplaced.map Waiting.key).Nodup && (s.unplaced.isEmpty || decide (s.lowestFree = none))
    && decide s.held.Nodup && s.held.all (fun k => stands s k .held)
    && decide (s.queued.map Queued.key).Nodup && s.queued.all (fun q => stands s q.key .queued)
    && (match s.fin.current with
      | none => true
      | some c => stands s c.key .finishing
          && (decide (s.fin.unit.running = none) || decide (s.fin.unit.running = some .transfer) || decide (s.slotOf c.key = none)))
    && currentCheck s.fin
    && (List.finRange 24).all (fun n =>
      match s.slot n with
      | .occupied _ _ k => s.packets.any (fun p => decide (p.key = k) && decide (p.slot = some n))
      | .free => true
      | .fenced => true)
    && (List.range 48).all (fun c => ranksCheck s c && (decide ((s.classRec c).state ≠ .done)
      || (decide ((s.classRec c).cursor = (s.classRec c).size) && decide ((s.classRec c).countOf .waiting = 0))))

theorem towerKept_of_check {s : State} (h : towerCheck s = true) : TowerKept s := by
  simp only [towerCheck, Bool.and_eq_true, Bool.or_eq_true, decide_eq_true_eq, List.all_eq_true, List.mem_range,
    List.isEmpty_iff, Option.isSome_iff_exists] at h
  obtain ⟨⟨⟨⟨⟨⟨⟨⟨⟨⟨⟨⟨h1, h2⟩, h3⟩, h4⟩, h5⟩, h6⟩, h7⟩, h8⟩, h9⟩, h10⟩, h11⟩, h12⟩, h13⟩ := h
  have ranks : ∀ k : Key, ranksCheck s k.cls = true := by
    intro k
    by_cases hk : k.cls < 48
    · exact (h13 _ hk).1
    · simp [ranksCheck, classRec_of_le (Nat.not_lt.mp hk), ClassRec.emptyWith]
  refine
    { keysRise := h1, packets := fun p hp => packetKept_of_check (h2 p hp),
      waiting := fun u hu => ⟨(h3 u hu).1.1, (h3 u hu).1.2, by simpa [Option.isSome_iff_exists] using (h3 u hu).2⟩,
      waitingOnce := h4, noIdleSlot := fun e => h5.resolve_left e, heldOnce := h6,
      heldPackets := fun k hk => of_stands (h7 k hk), queuedOnce := h8, queuedPackets := fun q hq => of_stands (h9 q hq),
      currentPacket := fun c hc => ?_, currentFits := currentFits_of_check h11, transferred := fun c hc h => ?_,
      occupied := fun n hold m k hs => ?_, openRanks := fun k hk => of_stands ((of_ranksCheck (ranks k)).1 hk),
      heldRanks := fun k hk => of_stands ((of_ranksCheck (ranks k)).2 hk), doneClasses := fun c hc => ?_ }
  · rw [hc] at h10
    simp only [Bool.and_eq_true] at h10
    exact of_stands h10.1
  · rw [hc] at h10
    simp only [Bool.and_eq_true, Bool.or_eq_true, decide_eq_true_eq] at h10
    intro h'
    rcases h10.2 with (e | e) | e
    · exact absurd e h
    · exact absurd e h'
    · exact e
  · have := h12 n (List.mem_finRange n)
    rw [hs] at this
    simpa using this
  · by_cases hlt : c < 48
    · exact (h13 c hlt).2.resolve_left (absurd hc)
    · rw [classRec_of_le (Nat.not_lt.mp hlt)] at hc
      cases hc

/-! ## Bins, lanes, timers -/

/-- `BinsKept` as a check. -/
def binsCheck (s : State) : Bool :=
  currentCheck s.fin && (List.finRange 17).all (fun b => decide ((s.bin b).fill + (s.bin b).reserved ≤ (s.bin b).capacity)
    && decide ((s.bin b).reserved = reservedBy s.fin.current b))

theorem binsKept_of_check {s : State} (h : binsCheck s = true) : BinsKept s := by
  simp only [binsCheck, Bool.and_eq_true, List.all_eq_true, decide_eq_true_eq] at h
  exact ⟨currentFits_of_check h.1, fun b => h.2 b (List.mem_finRange b)⟩

/-- `HoldsSettled`, `TransitWatchesHead`, `UnplacedEntriesListed` and `QueuesBounded` of one lane as a check. -/
def laneCheck (s : State) (l : Lane) : Bool :=
  (decide ((s.lane l).state ≠ .running) || !s.holdCondition l) && (decide ((s.lane l).state ≠ .held) || s.holdCondition l)
    && decide ((s.lane l).transit = if (s.lane l).inFault then none else (s.lane l).queue.head?.map Entry.deadline)
    && (s.lane l).queue.all (fun e => decide (e.verdict ≠ .unplaced) || s.isUnplaced e.key)
    && decide ((s.lane l).queue.length ≤ Config.queueRoom) && decide ((s.link l).tx.length ≤ Config.txRoom)

theorem lanesKept_of_check {s : State} (h : (laneCheck s .a && laneCheck s .b) = true) :
    HoldsSettled s ∧ TransitWatchesHead s ∧ UnplacedEntriesListed s ∧ QueuesBounded s := by
  have each : ∀ l, laneCheck s l = true := by
    intro l
    rw [Bool.and_eq_true] at h
    cases l
    · exact h.1
    · exact h.2
  have each : ∀ l, (((((s.lane l).state ≠ .running ∨ s.holdCondition l = false)
      ∧ ((s.lane l).state ≠ .held ∨ s.holdCondition l = true))
      ∧ (s.lane l).transit = if (s.lane l).inFault then none else (s.lane l).queue.head?.map Entry.deadline)
      ∧ (∀ e ∈ (s.lane l).queue, e.verdict ≠ .unplaced ∨ s.isUnplaced e.key = true))
      ∧ (s.lane l).queue.length ≤ Config.queueRoom ∧ (s.link l).tx.length ≤ Config.txRoom := by
    intro l
    simpa only [laneCheck, Bool.and_eq_true, Bool.or_eq_true, Bool.not_eq_true', decide_eq_true_eq, List.all_eq_true,
      and_assoc] using each l
  exact ⟨fun l => ⟨fun e => (each l).1.1.1.1.resolve_left (absurd e), fun e => (each l).1.1.1.2.resolve_left (absurd e)⟩,
    fun l => (each l).1.1.2, fun l e he hv => ((each l).1.2 e he).resolve_left (absurd hv), fun l => (each l).2⟩

/-- `KeysWaitInQueues` as a check. -/
def keysCheck (s : State) : Bool :=
  decide (s.unplaced.map Waiting.key).Nodup && (decide (s.purge = .idle) || s.unplaced.isEmpty)
    && s.unplaced.all (fun u => (s.lane .a).queue.any (Entry.waitsFor u.key) || (s.lane .b).queue.any (Entry.waitsFor u.key))

theorem keysWait_of_check {s : State} (h : keysCheck s = true) : KeysWaitInQueues s := by
  simp only [keysCheck, Bool.and_eq_true, Bool.or_eq_true, decide_eq_true_eq, List.all_eq_true, List.any_eq_true,
    List.isEmpty_iff, Entry.waitsFor] at h
  refine ⟨h.1.1, fun e => h.1.2.resolve_left e, fun u hu => ?_⟩
  rcases h.2 u hu with ⟨e, he, hk⟩ | ⟨e, he, hk⟩
  · exact ⟨.a, e, he, hk⟩
  · exact ⟨.b, e, he, hk⟩

/-- `TimersFrozenInFault` as a check. -/
def timersCheck (s : State) : Bool :=
  s.packets.all (fun p =>
    match p.timer with
    | .running _ => !s.anyFault
    | .frozen _ => s.anyFault
    | .stopped => true)

theorem timersFrozen_of_check {s : State} (h : timersCheck s = true) : TimersFrozenInFault s := by
  intro p hp
  have := List.all_eq_true.mp h p hp
  cases ht : p.timer <;> simp_all [CollectTimer.isRunning]

/-! ## Tables -/

/-- `TablesInRange` as a check. -/
def tablesCheck (s : State) : Bool :=
  decide (s.settings.clamped = s.settings) && decide (s.fin.supply ≤ s.settings.cartridgeFull)
    && (List.finRange 16).all (fun i =>
      match s.tables.media[i.val] with
      | some t => decide (40 ≤ t) && decide (t ≤ 400)
      | none => true)
    && (List.finRange 32).all (fun i =>
      match s.tables.assignments[i.val] with
      | some a => decide (1 ≤ a.sheetCount) && decide (a.sheetCount ≤ 40)
      | none => true)

/-- A clamped value lies between the limits. -/
theorem clamp_between {lo hi v : Nat} (e : clamp lo hi v = v) : lo ≤ v ∧ v ≤ hi := by
  unfold clamp at e
  split at e
  · omega
  · split at e <;> omega

theorem tablesInRange_of_check {s : State} (h : tablesCheck s = true) : TablesInRange s := by
  simp only [tablesCheck, Bool.and_eq_true, decide_eq_true_eq, List.all_eq_true] at h
  obtain ⟨⟨⟨h1, h2⟩, h3⟩, h4⟩ := h
  refine ⟨?_, fun i t e => ?_, fun i a e => ?_, h2⟩
  · have e := h1
    simp only [Settings.clamped] at e
    have f := congrArg (fun t : Settings => [t.transitWindow, t.collectionWindow, t.loftPlain, t.loftStapled, t.scale,
      t.staplerCapacity, t.cartridgeFull, t.transferLimit, t.jogLimit, t.stapleLimit, t.ejectLimit, t.exceptionCapacity]) e
    simp only [List.cons.injEq, and_true] at f
    obtain ⟨f1, f2, f3, f4, f5, f6, f7, f8, f9, f10, f11, f12⟩ := f
    exact ⟨clamp_between f1, clamp_between f2, clamp_between f3,
      clamp_between f4, clamp_between f5, clamp_between f6,
      clamp_between f7, clamp_between f8, clamp_between f9,
      clamp_between f10, clamp_between f11, clamp_between f12⟩
  · have := h3 i (List.mem_finRange i)
    rw [e] at this
    simpa using this
  · have := h4 i (List.mem_finRange i)
    rw [e] at this
    simpa using this

/-- `HeightsKept` as a check. -/
def heightsCheck (s : State) : Bool :=
  s.packets.all (fun p => decide (1 ≤ p.snapshot.sheetCount) && decide (p.snapshot.sheetCount ≤ 40)
    && decide (p.nextBody ≤ p.snapshot.sheetCount + 1)
    && decide (p.sheetsHeld + (if p.snapshot.cover then 2 else 1) ≤ p.nextBody + (if p.coverReceived then 1 else 0))
    && (!p.coverReceived || p.snapshot.cover) && decide (p.height ≤ 400 * p.sheetsHeld))

theorem heightsKept_of_check {s : State} (h : heightsCheck s = true) : HeightsKept s := by
  intro p hp
  have h := List.all_eq_true.mp h p hp
  simp only [Bool.and_eq_true, Bool.or_eq_true, Bool.not_eq_true', decide_eq_true_eq] at h
  obtain ⟨⟨⟨⟨⟨h1, h2⟩, h3⟩, h4⟩, h5⟩, h6⟩ := h
  exact ⟨⟨h1, h2, h3, h4, fun e => h5.resolve_left (by simp [e])⟩, h6⟩

end Sys2Proof.Safety
end

