-- ==== Sys2Proof/Laws/State.lean ====
section
/-! SUPPORT. One lemma for each field and each setter, so that no proof unfolds a record update. -/

namespace Sys2Proof.Machine

@[simp] theorem State.setNow_now (s : State) (v : Nat) : (s.setNow v).now = v := rfl
@[simp] theorem State.setNow_laneA (s : State) (v : Nat) : (s.setNow v).laneA = s.laneA := rfl
@[simp] theorem State.setNow_laneB (s : State) (v : Nat) : (s.setNow v).laneB = s.laneB := rfl
@[simp] theorem State.setNow_linkA (s : State) (v : Nat) : (s.setNow v).linkA = s.linkA := rfl
@[simp] theorem State.setNow_linkB (s : State) (v : Nat) : (s.setNow v).linkB = s.linkB := rfl
@[simp] theorem State.setNow_stamp (s : State) (v : Nat) : (s.setNow v).stamp = s.stamp := rfl
@[simp] theorem State.setNow_classes (s : State) (v : Nat) : (s.setNow v).classes = s.classes := rfl
@[simp] theorem State.setNow_tables (s : State) (v : Nat) : (s.setNow v).tables = s.tables := rfl
@[simp] theorem State.setNow_slots (s : State) (v : Nat) : (s.setNow v).slots = s.slots := rfl
@[simp] theorem State.setNow_packets (s : State) (v : Nat) : (s.setNow v).packets = s.packets := rfl
@[simp] theorem State.setNow_unplaced (s : State) (v : Nat) : (s.setNow v).unplaced = s.unplaced := rfl
@[simp] theorem State.setNow_held (s : State) (v : Nat) : (s.setNow v).held = s.held := rfl
@[simp] theorem State.setNow_queued (s : State) (v : Nat) : (s.setNow v).queued = s.queued := rfl
@[simp] theorem State.setNow_fin (s : State) (v : Nat) : (s.setNow v).fin = s.fin := rfl
@[simp] theorem State.setNow_bins (s : State) (v : Nat) : (s.setNow v).bins = s.bins := rfl
@[simp] theorem State.setNow_tray (s : State) (v : Nat) : (s.setNow v).tray = s.tray := rfl
@[simp] theorem State.setNow_flags (s : State) (v : Nat) : (s.setNow v).flags = s.flags := rfl
@[simp] theorem State.setNow_purge (s : State) (v : Nat) : (s.setNow v).purge = s.purge := rfl
@[simp] theorem State.setNow_actions (s : State) (v : Nat) : (s.setNow v).actions = s.actions := rfl
@[simp] theorem State.setNow_pending (s : State) (v : Nat) : (s.setNow v).pending = s.pending := rfl
@[simp] theorem State.setNow_lane (s : State) (v : Nat) (l : Lane) : (s.setNow v).lane l = s.lane l := by cases l <;> rfl
@[simp] theorem State.setNow_link (s : State) (v : Nat) (l : Lane) : (s.setNow v).link l = s.link l := by cases l <;> rfl

@[simp] theorem State.setStamp_now (s : State) (v : BitVec 32) : (s.setStamp v).now = s.now := rfl
@[simp] theorem State.setStamp_laneA (s : State) (v : BitVec 32) : (s.setStamp v).laneA = s.laneA := rfl
@[simp] theorem State.setStamp_laneB (s : State) (v : BitVec 32) : (s.setStamp v).laneB = s.laneB := rfl
@[simp] theorem State.setStamp_linkA (s : State) (v : BitVec 32) : (s.setStamp v).linkA = s.linkA := rfl
@[simp] theorem State.setStamp_linkB (s : State) (v : BitVec 32) : (s.setStamp v).linkB = s.linkB := rfl
@[simp] theorem State.setStamp_stamp (s : State) (v : BitVec 32) : (s.setStamp v).stamp = v := rfl
@[simp] theorem State.setStamp_classes (s : State) (v : BitVec 32) : (s.setStamp v).classes = s.classes := rfl
@[simp] theorem State.setStamp_tables (s : State) (v : BitVec 32) : (s.setStamp v).tables = s.tables := rfl
@[simp] theorem State.setStamp_slots (s : State) (v : BitVec 32) : (s.setStamp v).slots = s.slots := rfl
@[simp] theorem State.setStamp_packets (s : State) (v : BitVec 32) : (s.setStamp v).packets = s.packets := rfl
@[simp] theorem State.setStamp_unplaced (s : State) (v : BitVec 32) : (s.setStamp v).unplaced = s.unplaced := rfl
@[simp] theorem State.setStamp_held (s : State) (v : BitVec 32) : (s.setStamp v).held = s.held := rfl
@[simp] theorem State.setStamp_queued (s : State) (v : BitVec 32) : (s.setStamp v).queued = s.queued := rfl
@[simp] theorem State.setStamp_fin (s : State) (v : BitVec 32) : (s.setStamp v).fin = s.fin := rfl
@[simp] theorem State.setStamp_bins (s : State) (v : BitVec 32) : (s.setStamp v).bins = s.bins := rfl
@[simp] theorem State.setStamp_tray (s : State) (v : BitVec 32) : (s.setStamp v).tray = s.tray := rfl
@[simp] theorem State.setStamp_flags (s : State) (v : BitVec 32) : (s.setStamp v).flags = s.flags := rfl
@[simp] theorem State.setStamp_purge (s : State) (v : BitVec 32) : (s.setStamp v).purge = s.purge := rfl
@[simp] theorem State.setStamp_actions (s : State) (v : BitVec 32) : (s.setStamp v).actions = s.actions := rfl
@[simp] theorem State.setStamp_pending (s : State) (v : BitVec 32) : (s.setStamp v).pending = s.pending := rfl
@[simp] theorem State.setStamp_lane (s : State) (v : BitVec 32) (l : Lane) : (s.setStamp v).lane l = s.lane l := by cases l <;> rfl
@[simp] theorem State.setStamp_link (s : State) (v : BitVec 32) (l : Lane) : (s.setStamp v).link l = s.link l := by cases l <;> rfl

@[simp] theorem State.setClasses_now (s : State) (v : Vector ClassRec 48) : (s.setClasses v).now = s.now := rfl
@[simp] theorem State.setClasses_laneA (s : State) (v : Vector ClassRec 48) : (s.setClasses v).laneA = s.laneA := rfl
@[simp] theorem State.setClasses_laneB (s : State) (v : Vector ClassRec 48) : (s.setClasses v).laneB = s.laneB := rfl
@[simp] theorem State.setClasses_linkA (s : State) (v : Vector ClassRec 48) : (s.setClasses v).linkA = s.linkA := rfl
@[simp] theorem State.setClasses_linkB (s : State) (v : Vector ClassRec 48) : (s.setClasses v).linkB = s.linkB := rfl
@[simp] theorem State.setClasses_stamp (s : State) (v : Vector ClassRec 48) : (s.setClasses v).stamp = s.stamp := rfl
@[simp] theorem State.setClasses_classes (s : State) (v : Vector ClassRec 48) : (s.setClasses v).classes = v := rfl
@[simp] theorem State.setClasses_tables (s : State) (v : Vector ClassRec 48) : (s.setClasses v).tables = s.tables := rfl
@[simp] theorem State.setClasses_slots (s : State) (v : Vector ClassRec 48) : (s.setClasses v).slots = s.slots := rfl
@[simp] theorem State.setClasses_packets (s : State) (v : Vector ClassRec 48) : (s.setClasses v).packets = s.packets := rfl
@[simp] theorem State.setClasses_unplaced (s : State) (v : Vector ClassRec 48) : (s.setClasses v).unplaced = s.unplaced := rfl
@[simp] theorem State.setClasses_held (s : State) (v : Vector ClassRec 48) : (s.setClasses v).held = s.held := rfl
@[simp] theorem State.setClasses_queued (s : State) (v : Vector ClassRec 48) : (s.setClasses v).queued = s.queued := rfl
@[simp] theorem State.setClasses_fin (s : State) (v : Vector ClassRec 48) : (s.setClasses v).fin = s.fin := rfl
@[simp] theorem State.setClasses_bins (s : State) (v : Vector ClassRec 48) : (s.setClasses v).bins = s.bins := rfl
@[simp] theorem State.setClasses_tray (s : State) (v : Vector ClassRec 48) : (s.setClasses v).tray = s.tray := rfl
@[simp] theorem State.setClasses_flags (s : State) (v : Vector ClassRec 48) : (s.setClasses v).flags = s.flags := rfl
@[simp] theorem State.setClasses_purge (s : State) (v : Vector ClassRec 48) : (s.setClasses v).purge = s.purge := rfl
@[simp] theorem State.setClasses_actions (s : State) (v : Vector ClassRec 48) : (s.setClasses v).actions = s.actions := rfl
@[simp] theorem State.setClasses_pending (s : State) (v : Vector ClassRec 48) : (s.setClasses v).pending = s.pending := rfl
@[simp] theorem State.setClasses_lane (s : State) (v : Vector ClassRec 48) (l : Lane) : (s.setClasses v).lane l = s.lane l := by cases l <;> rfl
@[simp] theorem State.setClasses_link (s : State) (v : Vector ClassRec 48) (l : Lane) : (s.setClasses v).link l = s.link l := by cases l <;> rfl

@[simp] theorem State.setTables_now (s : State) (v : Tables) : (s.setTables v).now = s.now := rfl
@[simp] theorem State.setTables_laneA (s : State) (v : Tables) : (s.setTables v).laneA = s.laneA := rfl
@[simp] theorem State.setTables_laneB (s : State) (v : Tables) : (s.setTables v).laneB = s.laneB := rfl
@[simp] theorem State.setTables_linkA (s : State) (v : Tables) : (s.setTables v).linkA = s.linkA := rfl
@[simp] theorem State.setTables_linkB (s : State) (v : Tables) : (s.setTables v).linkB = s.linkB := rfl
@[simp] theorem State.setTables_stamp (s : State) (v : Tables) : (s.setTables v).stamp = s.stamp := rfl
@[simp] theorem State.setTables_classes (s : State) (v : Tables) : (s.setTables v).classes = s.classes := rfl
@[simp] theorem State.setTables_tables (s : State) (v : Tables) : (s.setTables v).tables = v := rfl
@[simp] theorem State.setTables_slots (s : State) (v : Tables) : (s.setTables v).slots = s.slots := rfl
@[simp] theorem State.setTables_packets (s : State) (v : Tables) : (s.setTables v).packets = s.packets := rfl
@[simp] theorem State.setTables_unplaced (s : State) (v : Tables) : (s.setTables v).unplaced = s.unplaced := rfl
@[simp] theorem State.setTables_held (s : State) (v : Tables) : (s.setTables v).held = s.held := rfl
@[simp] theorem State.setTables_queued (s : State) (v : Tables) : (s.setTables v).queued = s.queued := rfl
@[simp] theorem State.setTables_fin (s : State) (v : Tables) : (s.setTables v).fin = s.fin := rfl
@[simp] theorem State.setTables_bins (s : State) (v : Tables) : (s.setTables v).bins = s.bins := rfl
@[simp] theorem State.setTables_tray (s : State) (v : Tables) : (s.setTables v).tray = s.tray := rfl
@[simp] theorem State.setTables_flags (s : State) (v : Tables) : (s.setTables v).flags = s.flags := rfl
@[simp] theorem State.setTables_purge (s : State) (v : Tables) : (s.setTables v).purge = s.purge := rfl
@[simp] theorem State.setTables_actions (s : State) (v : Tables) : (s.setTables v).actions = s.actions := rfl
@[simp] theorem State.setTables_pending (s : State) (v : Tables) : (s.setTables v).pending = s.pending := rfl
@[simp] theorem State.setTables_lane (s : State) (v : Tables) (l : Lane) : (s.setTables v).lane l = s.lane l := by cases l <;> rfl
@[simp] theorem State.setTables_link (s : State) (v : Tables) (l : Lane) : (s.setTables v).link l = s.link l := by cases l <;> rfl

@[simp] theorem State.setSlots_now (s : State) (v : Vector Slot 24) : (s.setSlots v).now = s.now := rfl
@[simp] theorem State.setSlots_laneA (s : State) (v : Vector Slot 24) : (s.setSlots v).laneA = s.laneA := rfl
@[simp] theorem State.setSlots_laneB (s : State) (v : Vector Slot 24) : (s.setSlots v).laneB = s.laneB := rfl
@[simp] theorem State.setSlots_linkA (s : State) (v : Vector Slot 24) : (s.setSlots v).linkA = s.linkA := rfl
@[simp] theorem State.setSlots_linkB (s : State) (v : Vector Slot 24) : (s.setSlots v).linkB = s.linkB := rfl
@[simp] theorem State.setSlots_stamp (s : State) (v : Vector Slot 24) : (s.setSlots v).stamp = s.stamp := rfl
@[simp] theorem State.setSlots_classes (s : State) (v : Vector Slot 24) : (s.setSlots v).classes = s.classes := rfl
@[simp] theorem State.setSlots_tables (s : State) (v : Vector Slot 24) : (s.setSlots v).tables = s.tables := rfl
@[simp] theorem State.setSlots_slots (s : State) (v : Vector Slot 24) : (s.setSlots v).slots = v := rfl
@[simp] theorem State.setSlots_packets (s : State) (v : Vector Slot 24) : (s.setSlots v).packets = s.packets := rfl
@[simp] theorem State.setSlots_unplaced (s : State) (v : Vector Slot 24) : (s.setSlots v).unplaced = s.unplaced := rfl
@[simp] theorem State.setSlots_held (s : State) (v : Vector Slot 24) : (s.setSlots v).held = s.held := rfl
@[simp] theorem State.setSlots_queued (s : State) (v : Vector Slot 24) : (s.setSlots v).queued = s.queued := rfl
@[simp] theorem State.setSlots_fin (s : State) (v : Vector Slot 24) : (s.setSlots v).fin = s.fin := rfl
@[simp] theorem State.setSlots_bins (s : State) (v : Vector Slot 24) : (s.setSlots v).bins = s.bins := rfl
@[simp] theorem State.setSlots_tray (s : State) (v : Vector Slot 24) : (s.setSlots v).tray = s.tray := rfl
@[simp] theorem State.setSlots_flags (s : State) (v : Vector Slot 24) : (s.setSlots v).flags = s.flags := rfl
@[simp] theorem State.setSlots_purge (s : State) (v : Vector Slot 24) : (s.setSlots v).purge = s.purge := rfl
@[simp] theorem State.setSlots_actions (s : State) (v : Vector Slot 24) : (s.setSlots v).actions = s.actions := rfl
@[simp] theorem State.setSlots_pending (s : State) (v : Vector Slot 24) : (s.setSlots v).pending = s.pending := rfl
@[simp] theorem State.setSlots_lane (s : State) (v : Vector Slot 24) (l : Lane) : (s.setSlots v).lane l = s.lane l := by cases l <;> rfl
@[simp] theorem State.setSlots_link (s : State) (v : Vector Slot 24) (l : Lane) : (s.setSlots v).link l = s.link l := by cases l <;> rfl

@[simp] theorem State.setPackets_now (s : State) (v : List Packet) : (s.setPackets v).now = s.now := rfl
@[simp] theorem State.setPackets_laneA (s : State) (v : List Packet) : (s.setPackets v).laneA = s.laneA := rfl
@[simp] theorem State.setPackets_laneB (s : State) (v : List Packet) : (s.setPackets v).laneB = s.laneB := rfl
@[simp] theorem State.setPackets_linkA (s : State) (v : List Packet) : (s.setPackets v).linkA = s.linkA := rfl
@[simp] theorem State.setPackets_linkB (s : State) (v : List Packet) : (s.setPackets v).linkB = s.linkB := rfl
@[simp] theorem State.setPackets_stamp (s : State) (v : List Packet) : (s.setPackets v).stamp = s.stamp := rfl
@[simp] theorem State.setPackets_classes (s : State) (v : List Packet) : (s.setPackets v).classes = s.classes := rfl
@[simp] theorem State.setPackets_tables (s : State) (v : List Packet) : (s.setPackets v).tables = s.tables := rfl
@[simp] theorem State.setPackets_slots (s : State) (v : List Packet) : (s.setPackets v).slots = s.slots := rfl
@[simp] theorem State.setPackets_packets (s : State) (v : List Packet) : (s.setPackets v).packets = v := rfl
@[simp] theorem State.setPackets_unplaced (s : State) (v : List Packet) : (s.setPackets v).unplaced = s.unplaced := rfl
@[simp] theorem State.setPackets_held (s : State) (v : List Packet) : (s.setPackets v).held = s.held := rfl
@[simp] theorem State.setPackets_queued (s : State) (v : List Packet) : (s.setPackets v).queued = s.queued := rfl
@[simp] theorem State.setPackets_fin (s : State) (v : List Packet) : (s.setPackets v).fin = s.fin := rfl
@[simp] theorem State.setPackets_bins (s : State) (v : List Packet) : (s.setPackets v).bins = s.bins := rfl
@[simp] theorem State.setPackets_tray (s : State) (v : List Packet) : (s.setPackets v).tray = s.tray := rfl
@[simp] theorem State.setPackets_flags (s : State) (v : List Packet) : (s.setPackets v).flags = s.flags := rfl
@[simp] theorem State.setPackets_purge (s : State) (v : List Packet) : (s.setPackets v).purge = s.purge := rfl
@[simp] theorem State.setPackets_actions (s : State) (v : List Packet) : (s.setPackets v).actions = s.actions := rfl
@[simp] theorem State.setPackets_pending (s : State) (v : List Packet) : (s.setPackets v).pending = s.pending := rfl
@[simp] theorem State.setPackets_lane (s : State) (v : List Packet) (l : Lane) : (s.setPackets v).lane l = s.lane l := by cases l <;> rfl
@[simp] theorem State.setPackets_link (s : State) (v : List Packet) (l : Lane) : (s.setPackets v).link l = s.link l := by cases l <;> rfl

@[simp] theorem State.setUnplaced_now (s : State) (v : List Waiting) : (s.setUnplaced v).now = s.now := rfl
@[simp] theorem State.setUnplaced_laneA (s : State) (v : List Waiting) : (s.setUnplaced v).laneA = s.laneA := rfl
@[simp] theorem State.setUnplaced_laneB (s : State) (v : List Waiting) : (s.setUnplaced v).laneB = s.laneB := rfl
@[simp] theorem State.setUnplaced_linkA (s : State) (v : List Waiting) : (s.setUnplaced v).linkA = s.linkA := rfl
@[simp] theorem State.setUnplaced_linkB (s : State) (v : List Waiting) : (s.setUnplaced v).linkB = s.linkB := rfl
@[simp] theorem State.setUnplaced_stamp (s : State) (v : List Waiting) : (s.setUnplaced v).stamp = s.stamp := rfl
@[simp] theorem State.setUnplaced_classes (s : State) (v : List Waiting) : (s.setUnplaced v).classes = s.classes := rfl
@[simp] theorem State.setUnplaced_tables (s : State) (v : List Waiting) : (s.setUnplaced v).tables = s.tables := rfl
@[simp] theorem State.setUnplaced_slots (s : State) (v : List Waiting) : (s.setUnplaced v).slots = s.slots := rfl
@[simp] theorem State.setUnplaced_packets (s : State) (v : List Waiting) : (s.setUnplaced v).packets = s.packets := rfl
@[simp] theorem State.setUnplaced_unplaced (s : State) (v : List Waiting) : (s.setUnplaced v).unplaced = v := rfl
@[simp] theorem State.setUnplaced_held (s : State) (v : List Waiting) : (s.setUnplaced v).held = s.held := rfl
@[simp] theorem State.setUnplaced_queued (s : State) (v : List Waiting) : (s.setUnplaced v).queued = s.queued := rfl
@[simp] theorem State.setUnplaced_fin (s : State) (v : List Waiting) : (s.setUnplaced v).fin = s.fin := rfl
@[simp] theorem State.setUnplaced_bins (s : State) (v : List Waiting) : (s.setUnplaced v).bins = s.bins := rfl
@[simp] theorem State.setUnplaced_tray (s : State) (v : List Waiting) : (s.setUnplaced v).tray = s.tray := rfl
@[simp] theorem State.setUnplaced_flags (s : State) (v : List Waiting) : (s.setUnplaced v).flags = s.flags := rfl
@[simp] theorem State.setUnplaced_purge (s : State) (v : List Waiting) : (s.setUnplaced v).purge = s.purge := rfl
@[simp] theorem State.setUnplaced_actions (s : State) (v : List Waiting) : (s.setUnplaced v).actions = s.actions := rfl
@[simp] theorem State.setUnplaced_pending (s : State) (v : List Waiting) : (s.setUnplaced v).pending = s.pending := rfl
@[simp] theorem State.setUnplaced_lane (s : State) (v : List Waiting) (l : Lane) : (s.setUnplaced v).lane l = s.lane l := by cases l <;> rfl
@[simp] theorem State.setUnplaced_link (s : State) (v : List Waiting) (l : Lane) : (s.setUnplaced v).link l = s.link l := by cases l <;> rfl

@[simp] theorem State.setHeld_now (s : State) (v : List Key) : (s.setHeld v).now = s.now := rfl
@[simp] theorem State.setHeld_laneA (s : State) (v : List Key) : (s.setHeld v).laneA = s.laneA := rfl
@[simp] theorem State.setHeld_laneB (s : State) (v : List Key) : (s.setHeld v).laneB = s.laneB := rfl
@[simp] theorem State.setHeld_linkA (s : State) (v : List Key) : (s.setHeld v).linkA = s.linkA := rfl
@[simp] theorem State.setHeld_linkB (s : State) (v : List Key) : (s.setHeld v).linkB = s.linkB := rfl
@[simp] theorem State.setHeld_stamp (s : State) (v : List Key) : (s.setHeld v).stamp = s.stamp := rfl
@[simp] theorem State.setHeld_classes (s : State) (v : List Key) : (s.setHeld v).classes = s.classes := rfl
@[simp] theorem State.setHeld_tables (s : State) (v : List Key) : (s.setHeld v).tables = s.tables := rfl
@[simp] theorem State.setHeld_slots (s : State) (v : List Key) : (s.setHeld v).slots = s.slots := rfl
@[simp] theorem State.setHeld_packets (s : State) (v : List Key) : (s.setHeld v).packets = s.packets := rfl
@[simp] theorem State.setHeld_unplaced (s : State) (v : List Key) : (s.setHeld v).unplaced = s.unplaced := rfl
@[simp] theorem State.setHeld_held (s : State) (v : List Key) : (s.setHeld v).held = v := rfl
@[simp] theorem State.setHeld_queued (s : State) (v : List Key) : (s.setHeld v).queued = s.queued := rfl
@[simp] theorem State.setHeld_fin (s : State) (v : List Key) : (s.setHeld v).fin = s.fin := rfl
@[simp] theorem State.setHeld_bins (s : State) (v : List Key) : (s.setHeld v).bins = s.bins := rfl
@[simp] theorem State.setHeld_tray (s : State) (v : List Key) : (s.setHeld v).tray = s.tray := rfl
@[simp] theorem State.setHeld_flags (s : State) (v : List Key) : (s.setHeld v).flags = s.flags := rfl
@[simp] theorem State.setHeld_purge (s : State) (v : List Key) : (s.setHeld v).purge = s.purge := rfl
@[simp] theorem State.setHeld_actions (s : State) (v : List Key) : (s.setHeld v).actions = s.actions := rfl
@[simp] theorem State.setHeld_pending (s : State) (v : List Key) : (s.setHeld v).pending = s.pending := rfl
@[simp] theorem State.setHeld_lane (s : State) (v : List Key) (l : Lane) : (s.setHeld v).lane l = s.lane l := by cases l <;> rfl
@[simp] theorem State.setHeld_link (s : State) (v : List Key) (l : Lane) : (s.setHeld v).link l = s.link l := by cases l <;> rfl

@[simp] theorem State.setQueued_now (s : State) (v : List Queued) : (s.setQueued v).now = s.now := rfl
@[simp] theorem State.setQueued_laneA (s : State) (v : List Queued) : (s.setQueued v).laneA = s.laneA := rfl
@[simp] theorem State.setQueued_laneB (s : State) (v : List Queued) : (s.setQueued v).laneB = s.laneB := rfl
@[simp] theorem State.setQueued_linkA (s : State) (v : List Queued) : (s.setQueued v).linkA = s.linkA := rfl
@[simp] theorem State.setQueued_linkB (s : State) (v : List Queued) : (s.setQueued v).linkB = s.linkB := rfl
@[simp] theorem State.setQueued_stamp (s : State) (v : List Queued) : (s.setQueued v).stamp = s.stamp := rfl
@[simp] theorem State.setQueued_classes (s : State) (v : List Queued) : (s.setQueued v).classes = s.classes := rfl
@[simp] theorem State.setQueued_tables (s : State) (v : List Queued) : (s.setQueued v).tables = s.tables := rfl
@[simp] theorem State.setQueued_slots (s : State) (v : List Queued) : (s.setQueued v).slots = s.slots := rfl
@[simp] theorem State.setQueued_packets (s : State) (v : List Queued) : (s.setQueued v).packets = s.packets := rfl
@[simp] theorem State.setQueued_unplaced (s : State) (v : List Queued) : (s.setQueued v).unplaced = s.unplaced := rfl
@[simp] theorem State.setQueued_held (s : State) (v : List Queued) : (s.setQueued v).held = s.held := rfl
@[simp] theorem State.setQueued_queued (s : State) (v : List Queued) : (s.setQueued v).queued = v := rfl
@[simp] theorem State.setQueued_fin (s : State) (v : List Queued) : (s.setQueued v).fin = s.fin := rfl
@[simp] theorem State.setQueued_bins (s : State) (v : List Queued) : (s.setQueued v).bins = s.bins := rfl
@[simp] theorem State.setQueued_tray (s : State) (v : List Queued) : (s.setQueued v).tray = s.tray := rfl
@[simp] theorem State.setQueued_flags (s : State) (v : List Queued) : (s.setQueued v).flags = s.flags := rfl
@[simp] theorem State.setQueued_purge (s : State) (v : List Queued) : (s.setQueued v).purge = s.purge := rfl
@[simp] theorem State.setQueued_actions (s : State) (v : List Queued) : (s.setQueued v).actions = s.actions := rfl
@[simp] theorem State.setQueued_pending (s : State) (v : List Queued) : (s.setQueued v).pending = s.pending := rfl
@[simp] theorem State.setQueued_lane (s : State) (v : List Queued) (l : Lane) : (s.setQueued v).lane l = s.lane l := by cases l <;> rfl
@[simp] theorem State.setQueued_link (s : State) (v : List Queued) (l : Lane) : (s.setQueued v).link l = s.link l := by cases l <;> rfl

@[simp] theorem State.setFin_now (s : State) (v : Finisher) : (s.setFin v).now = s.now := rfl
@[simp] theorem State.setFin_laneA (s : State) (v : Finisher) : (s.setFin v).laneA = s.laneA := rfl
@[simp] theorem State.setFin_laneB (s : State) (v : Finisher) : (s.setFin v).laneB = s.laneB := rfl
@[simp] theorem State.setFin_linkA (s : State) (v : Finisher) : (s.setFin v).linkA = s.linkA := rfl
@[simp] theorem State.setFin_linkB (s : State) (v : Finisher) : (s.setFin v).linkB = s.linkB := rfl
@[simp] theorem State.setFin_stamp (s : State) (v : Finisher) : (s.setFin v).stamp = s.stamp := rfl
@[simp] theorem State.setFin_classes (s : State) (v : Finisher) : (s.setFin v).classes = s.classes := rfl
@[simp] theorem State.setFin_tables (s : State) (v : Finisher) : (s.setFin v).tables = s.tables := rfl
@[simp] theorem State.setFin_slots (s : State) (v : Finisher) : (s.setFin v).slots = s.slots := rfl
@[simp] theorem State.setFin_packets (s : State) (v : Finisher) : (s.setFin v).packets = s.packets := rfl
@[simp] theorem State.setFin_unplaced (s : State) (v : Finisher) : (s.setFin v).unplaced = s.unplaced := rfl
@[simp] theorem State.setFin_held (s : State) (v : Finisher) : (s.setFin v).held = s.held := rfl
@[simp] theorem State.setFin_queued (s : State) (v : Finisher) : (s.setFin v).queued = s.queued := rfl
@[simp] theorem State.setFin_fin (s : State) (v : Finisher) : (s.setFin v).fin = v := rfl
@[simp] theorem State.setFin_bins (s : State) (v : Finisher) : (s.setFin v).bins = s.bins := rfl
@[simp] theorem State.setFin_tray (s : State) (v : Finisher) : (s.setFin v).tray = s.tray := rfl
@[simp] theorem State.setFin_flags (s : State) (v : Finisher) : (s.setFin v).flags = s.flags := rfl
@[simp] theorem State.setFin_purge (s : State) (v : Finisher) : (s.setFin v).purge = s.purge := rfl
@[simp] theorem State.setFin_actions (s : State) (v : Finisher) : (s.setFin v).actions = s.actions := rfl
@[simp] theorem State.setFin_pending (s : State) (v : Finisher) : (s.setFin v).pending = s.pending := rfl
@[simp] theorem State.setFin_lane (s : State) (v : Finisher) (l : Lane) : (s.setFin v).lane l = s.lane l := by cases l <;> rfl
@[simp] theorem State.setFin_link (s : State) (v : Finisher) (l : Lane) : (s.setFin v).link l = s.link l := by cases l <;> rfl

@[simp] theorem State.setBins_now (s : State) (v : Vector Bin 17) : (s.setBins v).now = s.now := rfl
@[simp] theorem State.setBins_laneA (s : State) (v : Vector Bin 17) : (s.setBins v).laneA = s.laneA := rfl
@[simp] theorem State.setBins_laneB (s : State) (v : Vector Bin 17) : (s.setBins v).laneB = s.laneB := rfl
@[simp] theorem State.setBins_linkA (s : State) (v : Vector Bin 17) : (s.setBins v).linkA = s.linkA := rfl
@[simp] theorem State.setBins_linkB (s : State) (v : Vector Bin 17) : (s.setBins v).linkB = s.linkB := rfl
@[simp] theorem State.setBins_stamp (s : State) (v : Vector Bin 17) : (s.setBins v).stamp = s.stamp := rfl
@[simp] theorem State.setBins_classes (s : State) (v : Vector Bin 17) : (s.setBins v).classes = s.classes := rfl
@[simp] theorem State.setBins_tables (s : State) (v : Vector Bin 17) : (s.setBins v).tables = s.tables := rfl
@[simp] theorem State.setBins_slots (s : State) (v : Vector Bin 17) : (s.setBins v).slots = s.slots := rfl
@[simp] theorem State.setBins_packets (s : State) (v : Vector Bin 17) : (s.setBins v).packets = s.packets := rfl
@[simp] theorem State.setBins_unplaced (s : State) (v : Vector Bin 17) : (s.setBins v).unplaced = s.unplaced := rfl
@[simp] theorem State.setBins_held (s : State) (v : Vector Bin 17) : (s.setBins v).held = s.held := rfl
@[simp] theorem State.setBins_queued (s : State) (v : Vector Bin 17) : (s.setBins v).queued = s.queued := rfl
@[simp] theorem State.setBins_fin (s : State) (v : Vector Bin 17) : (s.setBins v).fin = s.fin := rfl
@[simp] theorem State.setBins_bins (s : State) (v : Vector Bin 17) : (s.setBins v).bins = v := rfl
@[simp] theorem State.setBins_tray (s : State) (v : Vector Bin 17) : (s.setBins v).tray = s.tray := rfl
@[simp] theorem State.setBins_flags (s : State) (v : Vector Bin 17) : (s.setBins v).flags = s.flags := rfl
@[simp] theorem State.setBins_purge (s : State) (v : Vector Bin 17) : (s.setBins v).purge = s.purge := rfl
@[simp] theorem State.setBins_actions (s : State) (v : Vector Bin 17) : (s.setBins v).actions = s.actions := rfl
@[simp] theorem State.setBins_pending (s : State) (v : Vector Bin 17) : (s.setBins v).pending = s.pending := rfl
@[simp] theorem State.setBins_lane (s : State) (v : Vector Bin 17) (l : Lane) : (s.setBins v).lane l = s.lane l := by cases l <;> rfl
@[simp] theorem State.setBins_link (s : State) (v : Vector Bin 17) (l : Lane) : (s.setBins v).link l = s.link l := by cases l <;> rfl

@[simp] theorem State.setTray_now (s : State) (v : Nat) : (s.setTray v).now = s.now := rfl
@[simp] theorem State.setTray_laneA (s : State) (v : Nat) : (s.setTray v).laneA = s.laneA := rfl
@[simp] theorem State.setTray_laneB (s : State) (v : Nat) : (s.setTray v).laneB = s.laneB := rfl
@[simp] theorem State.setTray_linkA (s : State) (v : Nat) : (s.setTray v).linkA = s.linkA := rfl
@[simp] theorem State.setTray_linkB (s : State) (v : Nat) : (s.setTray v).linkB = s.linkB := rfl
@[simp] theorem State.setTray_stamp (s : State) (v : Nat) : (s.setTray v).stamp = s.stamp := rfl
@[simp] theorem State.setTray_classes (s : State) (v : Nat) : (s.setTray v).classes = s.classes := rfl
@[simp] theorem State.setTray_tables (s : State) (v : Nat) : (s.setTray v).tables = s.tables := rfl
@[simp] theorem State.setTray_slots (s : State) (v : Nat) : (s.setTray v).slots = s.slots := rfl
@[simp] theorem State.setTray_packets (s : State) (v : Nat) : (s.setTray v).packets = s.packets := rfl
@[simp] theorem State.setTray_unplaced (s : State) (v : Nat) : (s.setTray v).unplaced = s.unplaced := rfl
@[simp] theorem State.setTray_held (s : State) (v : Nat) : (s.setTray v).held = s.held := rfl
@[simp] theorem State.setTray_queued (s : State) (v : Nat) : (s.setTray v).queued = s.queued := rfl
@[simp] theorem State.setTray_fin (s : State) (v : Nat) : (s.setTray v).fin = s.fin := rfl
@[simp] theorem State.setTray_bins (s : State) (v : Nat) : (s.setTray v).bins = s.bins := rfl
@[simp] theorem State.setTray_tray (s : State) (v : Nat) : (s.setTray v).tray = v := rfl
@[simp] theorem State.setTray_flags (s : State) (v : Nat) : (s.setTray v).flags = s.flags := rfl
@[simp] theorem State.setTray_purge (s : State) (v : Nat) : (s.setTray v).purge = s.purge := rfl
@[simp] theorem State.setTray_actions (s : State) (v : Nat) : (s.setTray v).actions = s.actions := rfl
@[simp] theorem State.setTray_pending (s : State) (v : Nat) : (s.setTray v).pending = s.pending := rfl
@[simp] theorem State.setTray_lane (s : State) (v : Nat) (l : Lane) : (s.setTray v).lane l = s.lane l := by cases l <;> rfl
@[simp] theorem State.setTray_link (s : State) (v : Nat) (l : Lane) : (s.setTray v).link l = s.link l := by cases l <;> rfl

@[simp] theorem State.setFlags_now (s : State) (v : BitVec 12) : (s.setFlags v).now = s.now := rfl
@[simp] theorem State.setFlags_laneA (s : State) (v : BitVec 12) : (s.setFlags v).laneA = s.laneA := rfl
@[simp] theorem State.setFlags_laneB (s : State) (v : BitVec 12) : (s.setFlags v).laneB = s.laneB := rfl
@[simp] theorem State.setFlags_linkA (s : State) (v : BitVec 12) : (s.setFlags v).linkA = s.linkA := rfl
@[simp] theorem State.setFlags_linkB (s : State) (v : BitVec 12) : (s.setFlags v).linkB = s.linkB := rfl
@[simp] theorem State.setFlags_stamp (s : State) (v : BitVec 12) : (s.setFlags v).stamp = s.stamp := rfl
@[simp] theorem State.setFlags_classes (s : State) (v : BitVec 12) : (s.setFlags v).classes = s.classes := rfl
@[simp] theorem State.setFlags_tables (s : State) (v : BitVec 12) : (s.setFlags v).tables = s.tables := rfl
@[simp] theorem State.setFlags_slots (s : State) (v : BitVec 12) : (s.setFlags v).slots = s.slots := rfl
@[simp] theorem State.setFlags_packets (s : State) (v : BitVec 12) : (s.setFlags v).packets = s.packets := rfl
@[simp] theorem State.setFlags_unplaced (s : State) (v : BitVec 12) : (s.setFlags v).unplaced = s.unplaced := rfl
@[simp] theorem State.setFlags_held (s : State) (v : BitVec 12) : (s.setFlags v).held = s.held := rfl
@[simp] theorem State.setFlags_queued (s : State) (v : BitVec 12) : (s.setFlags v).queued = s.queued := rfl
@[simp] theorem State.setFlags_fin (s : State) (v : BitVec 12) : (s.setFlags v).fin = s.fin := rfl
@[simp] theorem State.setFlags_bins (s : State) (v : BitVec 12) : (s.setFlags v).bins = s.bins := rfl
@[simp] theorem State.setFlags_tray (s : State) (v : BitVec 12) : (s.setFlags v).tray = s.tray := rfl
@[simp] theorem State.setFlags_flags (s : State) (v : BitVec 12) : (s.setFlags v).flags = v := rfl
@[simp] theorem State.setFlags_purge (s : State) (v : BitVec 12) : (s.setFlags v).purge = s.purge := rfl
@[simp] theorem State.setFlags_actions (s : State) (v : BitVec 12) : (s.setFlags v).actions = s.actions := rfl
@[simp] theorem State.setFlags_pending (s : State) (v : BitVec 12) : (s.setFlags v).pending = s.pending := rfl
@[simp] theorem State.setFlags_lane (s : State) (v : BitVec 12) (l : Lane) : (s.setFlags v).lane l = s.lane l := by cases l <;> rfl
@[simp] theorem State.setFlags_link (s : State) (v : BitVec 12) (l : Lane) : (s.setFlags v).link l = s.link l := by cases l <;> rfl

@[simp] theorem State.setPurge_now (s : State) (v : PurgeState) : (s.setPurge v).now = s.now := rfl
@[simp] theorem State.setPurge_laneA (s : State) (v : PurgeState) : (s.setPurge v).laneA = s.laneA := rfl
@[simp] theorem State.setPurge_laneB (s : State) (v : PurgeState) : (s.setPurge v).laneB = s.laneB := rfl
@[simp] theorem State.setPurge_linkA (s : State) (v : PurgeState) : (s.setPurge v).linkA = s.linkA := rfl
@[simp] theorem State.setPurge_linkB (s : State) (v : PurgeState) : (s.setPurge v).linkB = s.linkB := rfl
@[simp] theorem State.setPurge_stamp (s : State) (v : PurgeState) : (s.setPurge v).stamp = s.stamp := rfl
@[simp] theorem State.setPurge_classes (s : State) (v : PurgeState) : (s.setPurge v).classes = s.classes := rfl
@[simp] theorem State.setPurge_tables (s : State) (v : PurgeState) : (s.setPurge v).tables = s.tables := rfl
@[simp] theorem State.setPurge_slots (s : State) (v : PurgeState) : (s.setPurge v).slots = s.slots := rfl
@[simp] theorem State.setPurge_packets (s : State) (v : PurgeState) : (s.setPurge v).packets = s.packets := rfl
@[simp] theorem State.setPurge_unplaced (s : State) (v : PurgeState) : (s.setPurge v).unplaced = s.unplaced := rfl
@[simp] theorem State.setPurge_held (s : State) (v : PurgeState) : (s.setPurge v).held = s.held := rfl
@[simp] theorem State.setPurge_queued (s : State) (v : PurgeState) : (s.setPurge v).queued = s.queued := rfl
@[simp] theorem State.setPurge_fin (s : State) (v : PurgeState) : (s.setPurge v).fin = s.fin := rfl
@[simp] theorem State.setPurge_bins (s : State) (v : PurgeState) : (s.setPurge v).bins = s.bins := rfl
@[simp] theorem State.setPurge_tray (s : State) (v : PurgeState) : (s.setPurge v).tray = s.tray := rfl
@[simp] theorem State.setPurge_flags (s : State) (v : PurgeState) : (s.setPurge v).flags = s.flags := rfl
@[simp] theorem State.setPurge_purge (s : State) (v : PurgeState) : (s.setPurge v).purge = v := rfl
@[simp] theorem State.setPurge_actions (s : State) (v : PurgeState) : (s.setPurge v).actions = s.actions := rfl
@[simp] theorem State.setPurge_pending (s : State) (v : PurgeState) : (s.setPurge v).pending = s.pending := rfl
@[simp] theorem State.setPurge_lane (s : State) (v : PurgeState) (l : Lane) : (s.setPurge v).lane l = s.lane l := by cases l <;> rfl
@[simp] theorem State.setPurge_link (s : State) (v : PurgeState) (l : Lane) : (s.setPurge v).link l = s.link l := by cases l <;> rfl

@[simp] theorem State.setActions_now (s : State) (v : List Action) : (s.setActions v).now = s.now := rfl
@[simp] theorem State.setActions_laneA (s : State) (v : List Action) : (s.setActions v).laneA = s.laneA := rfl
@[simp] theorem State.setActions_laneB (s : State) (v : List Action) : (s.setActions v).laneB = s.laneB := rfl
@[simp] theorem State.setActions_linkA (s : State) (v : List Action) : (s.setActions v).linkA = s.linkA := rfl
@[simp] theorem State.setActions_linkB (s : State) (v : List Action) : (s.setActions v).linkB = s.linkB := rfl
@[simp] theorem State.setActions_stamp (s : State) (v : List Action) : (s.setActions v).stamp = s.stamp := rfl
@[simp] theorem State.setActions_classes (s : State) (v : List Action) : (s.setActions v).classes = s.classes := rfl
@[simp] theorem State.setActions_tables (s : State) (v : List Action) : (s.setActions v).tables = s.tables := rfl
@[simp] theorem State.setActions_slots (s : State) (v : List Action) : (s.setActions v).slots = s.slots := rfl
@[simp] theorem State.setActions_packets (s : State) (v : List Action) : (s.setActions v).packets = s.packets := rfl
@[simp] theorem State.setActions_unplaced (s : State) (v : List Action) : (s.setActions v).unplaced = s.unplaced := rfl
@[simp] theorem State.setActions_held (s : State) (v : List Action) : (s.setActions v).held = s.held := rfl
@[simp] theorem State.setActions_queued (s : State) (v : List Action) : (s.setActions v).queued = s.queued := rfl
@[simp] theorem State.setActions_fin (s : State) (v : List Action) : (s.setActions v).fin = s.fin := rfl
@[simp] theorem State.setActions_bins (s : State) (v : List Action) : (s.setActions v).bins = s.bins := rfl
@[simp] theorem State.setActions_tray (s : State) (v : List Action) : (s.setActions v).tray = s.tray := rfl
@[simp] theorem State.setActions_flags (s : State) (v : List Action) : (s.setActions v).flags = s.flags := rfl
@[simp] theorem State.setActions_purge (s : State) (v : List Action) : (s.setActions v).purge = s.purge := rfl
@[simp] theorem State.setActions_actions (s : State) (v : List Action) : (s.setActions v).actions = v := rfl
@[simp] theorem State.setActions_pending (s : State) (v : List Action) : (s.setActions v).pending = s.pending := rfl
@[simp] theorem State.setActions_lane (s : State) (v : List Action) (l : Lane) : (s.setActions v).lane l = s.lane l := by cases l <;> rfl
@[simp] theorem State.setActions_link (s : State) (v : List Action) (l : Lane) : (s.setActions v).link l = s.link l := by cases l <;> rfl

@[simp] theorem State.setPending_now (s : State) (v : List Instr) : (s.setPending v).now = s.now := rfl
@[simp] theorem State.setPending_laneA (s : State) (v : List Instr) : (s.setPending v).laneA = s.laneA := rfl
@[simp] theorem State.setPending_laneB (s : State) (v : List Instr) : (s.setPending v).laneB = s.laneB := rfl
@[simp] theorem State.setPending_linkA (s : State) (v : List Instr) : (s.setPending v).linkA = s.linkA := rfl
@[simp] theorem State.setPending_linkB (s : State) (v : List Instr) : (s.setPending v).linkB = s.linkB := rfl
@[simp] theorem State.setPending_stamp (s : State) (v : List Instr) : (s.setPending v).stamp = s.stamp := rfl
@[simp] theorem State.setPending_classes (s : State) (v : List Instr) : (s.setPending v).classes = s.classes := rfl
@[simp] theorem State.setPending_tables (s : State) (v : List Instr) : (s.setPending v).tables = s.tables := rfl
@[simp] theorem State.setPending_slots (s : State) (v : List Instr) : (s.setPending v).slots = s.slots := rfl
@[simp] theorem State.setPending_packets (s : State) (v : List Instr) : (s.setPending v).packets = s.packets := rfl
@[simp] theorem State.setPending_unplaced (s : State) (v : List Instr) : (s.setPending v).unplaced = s.unplaced := rfl
@[simp] theorem State.setPending_held (s : State) (v : List Instr) : (s.setPending v).held = s.held := rfl
@[simp] theorem State.setPending_queued (s : State) (v : List Instr) : (s.setPending v).queued = s.queued := rfl
@[simp] theorem State.setPending_fin (s : State) (v : List Instr) : (s.setPending v).fin = s.fin := rfl
@[simp] theorem State.setPending_bins (s : State) (v : List Instr) : (s.setPending v).bins = s.bins := rfl
@[simp] theorem State.setPending_tray (s : State) (v : List Instr) : (s.setPending v).tray = s.tray := rfl
@[simp] theorem State.setPending_flags (s : State) (v : List Instr) : (s.setPending v).flags = s.flags := rfl
@[simp] theorem State.setPending_purge (s : State) (v : List Instr) : (s.setPending v).purge = s.purge := rfl
@[simp] theorem State.setPending_actions (s : State) (v : List Instr) : (s.setPending v).actions = s.actions := rfl
@[simp] theorem State.setPending_pending (s : State) (v : List Instr) : (s.setPending v).pending = v := rfl
@[simp] theorem State.setPending_lane (s : State) (v : List Instr) (l : Lane) : (s.setPending v).lane l = s.lane l := by cases l <;> rfl
@[simp] theorem State.setPending_link (s : State) (v : List Instr) (l : Lane) : (s.setPending v).link l = s.link l := by cases l <;> rfl

@[simp] theorem State.setLane_now (s : State) (l : Lane) (v : LaneUnit) : (s.setLane l v).now = s.now := by cases l <;> rfl
@[simp] theorem State.setLane_linkA (s : State) (l : Lane) (v : LaneUnit) : (s.setLane l v).linkA = s.linkA := by cases l <;> rfl
@[simp] theorem State.setLane_linkB (s : State) (l : Lane) (v : LaneUnit) : (s.setLane l v).linkB = s.linkB := by cases l <;> rfl
@[simp] theorem State.setLane_stamp (s : State) (l : Lane) (v : LaneUnit) : (s.setLane l v).stamp = s.stamp := by cases l <;> rfl
@[simp] theorem State.setLane_classes (s : State) (l : Lane) (v : LaneUnit) : (s.setLane l v).classes = s.classes := by cases l <;> rfl
@[simp] theorem State.setLane_tables (s : State) (l : Lane) (v : LaneUnit) : (s.setLane l v).tables = s.tables := by cases l <;> rfl
@[simp] theorem State.setLane_slots (s : State) (l : Lane) (v : LaneUnit) : (s.setLane l v).slots = s.slots := by cases l <;> rfl
@[simp] theorem State.setLane_packets (s : State) (l : Lane) (v : LaneUnit) : (s.setLane l v).packets = s.packets := by cases l <;> rfl
@[simp] theorem State.setLane_unplaced (s : State) (l : Lane) (v : LaneUnit) : (s.setLane l v).unplaced = s.unplaced := by cases l <;> rfl
@[simp] theorem State.setLane_held (s : State) (l : Lane) (v : LaneUnit) : (s.setLane l v).held = s.held := by cases l <;> rfl
@[simp] theorem State.setLane_queued (s : State) (l : Lane) (v : LaneUnit) : (s.setLane l v).queued = s.queued := by cases l <;> rfl
@[simp] theorem State.setLane_fin (s : State) (l : Lane) (v : LaneUnit) : (s.setLane l v).fin = s.fin := by cases l <;> rfl
@[simp] theorem State.setLane_bins (s : State) (l : Lane) (v : LaneUnit) : (s.setLane l v).bins = s.bins := by cases l <;> rfl
@[simp] theorem State.setLane_tray (s : State) (l : Lane) (v : LaneUnit) : (s.setLane l v).tray = s.tray := by cases l <;> rfl
@[simp] theorem State.setLane_flags (s : State) (l : Lane) (v : LaneUnit) : (s.setLane l v).flags = s.flags := by cases l <;> rfl
@[simp] theorem State.setLane_purge (s : State) (l : Lane) (v : LaneUnit) : (s.setLane l v).purge = s.purge := by cases l <;> rfl
@[simp] theorem State.setLane_actions (s : State) (l : Lane) (v : LaneUnit) : (s.setLane l v).actions = s.actions := by cases l <;> rfl
@[simp] theorem State.setLane_pending (s : State) (l : Lane) (v : LaneUnit) : (s.setLane l v).pending = s.pending := by cases l <;> rfl
@[simp] theorem State.setLane_link (s : State) (l m : Lane) (v : LaneUnit) : (s.setLane l v).link m = s.link m := by cases l <;> cases m <;> rfl
@[simp] theorem State.setLane_lane (s : State) (l : Lane) (v : LaneUnit) : (s.setLane l v).lane l = v := by cases l <;> rfl
theorem State.setLane_lane_of_ne (s : State) (l m : Lane) (v : LaneUnit) (h : m ≠ l) : (s.setLane l v).lane m = s.lane m := by
  cases l <;> cases m <;> first | rfl | exact absurd rfl h
@[simp] theorem State.setLane_lane_ite (s : State) (l m : Lane) (v : LaneUnit) : (s.setLane l v).lane m = if m = l then v else s.lane m := by
  cases l <;> cases m <;> rfl

@[simp] theorem State.setLink_now (s : State) (l : Lane) (v : Link) : (s.setLink l v).now = s.now := by cases l <;> rfl
@[simp] theorem State.setLink_laneA (s : State) (l : Lane) (v : Link) : (s.setLink l v).laneA = s.laneA := by cases l <;> rfl
@[simp] theorem State.setLink_laneB (s : State) (l : Lane) (v : Link) : (s.setLink l v).laneB = s.laneB := by cases l <;> rfl
@[simp] theorem State.setLink_stamp (s : State) (l : Lane) (v : Link) : (s.setLink l v).stamp = s.stamp := by cases l <;> rfl
@[simp] theorem State.setLink_classes (s : State) (l : Lane) (v : Link) : (s.setLink l v).classes = s.classes := by cases l <;> rfl
@[simp] theorem State.setLink_tables (s : State) (l : Lane) (v : Link) : (s.setLink l v).tables = s.tables := by cases l <;> rfl
@[simp] theorem State.setLink_slots (s : State) (l : Lane) (v : Link) : (s.setLink l v).slots = s.slots := by cases l <;> rfl
@[simp] theorem State.setLink_packets (s : State) (l : Lane) (v : Link) : (s.setLink l v).packets = s.packets := by cases l <;> rfl
@[simp] theorem State.setLink_unplaced (s : State) (l : Lane) (v : Link) : (s.setLink l v).unplaced = s.unplaced := by cases l <;> rfl
@[simp] theorem State.setLink_held (s : State) (l : Lane) (v : Link) : (s.setLink l v).held = s.held := by cases l <;> rfl
@[simp] theorem State.setLink_queued (s : State) (l : Lane) (v : Link) : (s.setLink l v).queued = s.queued := by cases l <;> rfl
@[simp] theorem State.setLink_fin (s : State) (l : Lane) (v : Link) : (s.setLink l v).fin = s.fin := by cases l <;> rfl
@[simp] theorem State.setLink_bins (s : State) (l : Lane) (v : Link) : (s.setLink l v).bins = s.bins := by cases l <;> rfl
@[simp] theorem State.setLink_tray (s : State) (l : Lane) (v : Link) : (s.setLink l v).tray = s.tray := by cases l <;> rfl
@[simp] theorem State.setLink_flags (s : State) (l : Lane) (v : Link) : (s.setLink l v).flags = s.flags := by cases l <;> rfl
@[simp] theorem State.setLink_purge (s : State) (l : Lane) (v : Link) : (s.setLink l v).purge = s.purge := by cases l <;> rfl
@[simp] theorem State.setLink_actions (s : State) (l : Lane) (v : Link) : (s.setLink l v).actions = s.actions := by cases l <;> rfl
@[simp] theorem State.setLink_pending (s : State) (l : Lane) (v : Link) : (s.setLink l v).pending = s.pending := by cases l <;> rfl
@[simp] theorem State.setLink_lane (s : State) (l m : Lane) (v : Link) : (s.setLink l v).lane m = s.lane m := by cases l <;> cases m <;> rfl
@[simp] theorem State.setLink_link (s : State) (l : Lane) (v : Link) : (s.setLink l v).link l = v := by cases l <;> rfl
theorem State.setLink_link_of_ne (s : State) (l m : Lane) (v : Link) (h : m ≠ l) : (s.setLink l v).link m = s.link m := by
  cases l <;> cases m <;> first | rfl | exact absurd rfl h
@[simp] theorem State.setLink_link_ite (s : State) (l m : Lane) (v : Link) : (s.setLink l v).link m = if m = l then v else s.link m := by
  cases l <;> cases m <;> rfl

/-! ## The settings record, and the lane units and links by name -/

@[simp] theorem State.setNow_settings (s : State) (v : Nat) : (s.setNow v).settings = s.settings := rfl
@[simp] theorem State.setStamp_settings (s : State) (v : BitVec 32) : (s.setStamp v).settings = s.settings := rfl
@[simp] theorem State.setClasses_settings (s : State) (v : Vector ClassRec 48) : (s.setClasses v).settings = s.settings := rfl
@[simp] theorem State.setTables_settings (s : State) (v : Tables) : (s.setTables v).settings = v.settings := rfl
@[simp] theorem State.setSlots_settings (s : State) (v : Vector Slot 24) : (s.setSlots v).settings = s.settings := rfl
@[simp] theorem State.setPackets_settings (s : State) (v : List Packet) : (s.setPackets v).settings = s.settings := rfl
@[simp] theorem State.setUnplaced_settings (s : State) (v : List Waiting) : (s.setUnplaced v).settings = s.settings := rfl
@[simp] theorem State.setHeld_settings (s : State) (v : List Key) : (s.setHeld v).settings = s.settings := rfl
@[simp] theorem State.setQueued_settings (s : State) (v : List Queued) : (s.setQueued v).settings = s.settings := rfl
@[simp] theorem State.setFin_settings (s : State) (v : Finisher) : (s.setFin v).settings = s.settings := rfl
@[simp] theorem State.setBins_settings (s : State) (v : Vector Bin 17) : (s.setBins v).settings = s.settings := rfl
@[simp] theorem State.setTray_settings (s : State) (v : Nat) : (s.setTray v).settings = s.settings := rfl
@[simp] theorem State.setFlags_settings (s : State) (v : BitVec 12) : (s.setFlags v).settings = s.settings := rfl
@[simp] theorem State.setPurge_settings (s : State) (v : PurgeState) : (s.setPurge v).settings = s.settings := rfl
@[simp] theorem State.setActions_settings (s : State) (v : List Action) : (s.setActions v).settings = s.settings := rfl
@[simp] theorem State.setPending_settings (s : State) (v : List Instr) : (s.setPending v).settings = s.settings := rfl
@[simp] theorem State.setLane_settings (s : State) (l : Lane) (v : LaneUnit) : (s.setLane l v).settings = s.settings := by
  cases l <;> rfl
@[simp] theorem State.setLink_settings (s : State) (l : Lane) (v : Link) : (s.setLink l v).settings = s.settings := by
  cases l <;> rfl
theorem State.laneA_eq (s : State) : s.laneA = s.lane .a := rfl
theorem State.laneB_eq (s : State) : s.laneB = s.lane .b := rfl
theorem State.linkA_eq (s : State) : s.linkA = s.link .a := rfl
theorem State.linkB_eq (s : State) : s.linkB = s.link .b := rfl

/-! ## Rows of a table -/

@[simp] theorem put_getElem {α : Type} {n : Nat} (v : Vector α n) (i : Fin n) (j : Nat) (x : α) (h : j < n) :
    (put v i x)[j] = if j = i.val then x else v[j] := by
  simp only [put, Vector.getElem_set, eq_comm]

theorem finOf_of_lt {n v : Nat} (h : v < n) : finOf n v = some ⟨v, h⟩ := by simp [finOf, h]

theorem finOf_of_le {n v : Nat} (h : n ≤ v) : finOf n v = none := by simp [finOf, Nat.not_lt.mpr h]

theorem finOf_eq_some {n v : Nat} {i : Fin n} : finOf n v = some i ↔ v = i.val := by
  simp only [finOf]
  constructor
  · intro h
    split at h
    · simpa using congrArg Fin.val (Option.some.inj h)
    · cases h
  · rintro rfl
    simp

/-- A class record after one has been replaced (R2). -/
theorem State.classRec_setClassRec (s : State) (c d : Nat) (r : ClassRec) :
    (s.setClassRec c r).classRec d = if d = c ∧ c < 48 then r else s.classRec d := by
  unfold State.setClassRec State.classRec
  by_cases hc : c < 48
  · rw [finOf_of_lt hc]
    by_cases hd : d < 48
    · rw [finOf_of_lt hd]
      simp [hc]
    · rw [finOf_of_le (Nat.not_lt.mp hd)]
      have : d ≠ c := by omega
      simp [this]
  · rw [finOf_of_le (Nat.not_lt.mp hc)]
    simp [hc]

@[simp] theorem State.setClassRec_frame (s : State) (c : Nat) (r : ClassRec) :
    (s.setClassRec c r).now = s.now ∧ (s.setClassRec c r).stamp = s.stamp ∧ (s.setClassRec c r).tables = s.tables
      ∧ (s.setClassRec c r).settings = s.settings
      ∧ (s.setClassRec c r).slots = s.slots ∧ (s.setClassRec c r).packets = s.packets
      ∧ (s.setClassRec c r).unplaced = s.unplaced ∧ (s.setClassRec c r).held = s.held
      ∧ (s.setClassRec c r).queued = s.queued ∧ (s.setClassRec c r).fin = s.fin ∧ (s.setClassRec c r).bins = s.bins
      ∧ (s.setClassRec c r).tray = s.tray ∧ (s.setClassRec c r).flags = s.flags ∧ (s.setClassRec c r).purge = s.purge
      ∧ (s.setClassRec c r).actions = s.actions ∧ (s.setClassRec c r).pending = s.pending
      ∧ (∀ l, (s.setClassRec c r).lane l = s.lane l) ∧ (∀ l, (s.setClassRec c r).link l = s.link l)
      ∧ (s.setClassRec c r).laneA = s.laneA ∧ (s.setClassRec c r).laneB = s.laneB
      ∧ (s.setClassRec c r).linkA = s.linkA ∧ (s.setClassRec c r).linkB = s.linkB := by
  unfold State.setClassRec
  split <;> simp

/-- A slot record after one has been replaced (R49). -/
@[simp] theorem slot_setSlot (s : State) (n m : Fin 24) (x : Slot) :
    (setSlot n x s).slot m = if m = n then x else s.slot m := by
  simp [setSlot, State.slot, Fin.ext_iff]

/-- A bin record after one has been replaced (R128). -/
@[simp] theorem bin_setBin (s : State) (b d : Fin 17) (x : Bin) :
    (setBin b x s).bin d = if d = b then x else s.bin d := by
  simp [setBin, State.bin, Fin.ext_iff]

end Sys2Proof.Machine
end

