-- ==== Sys2Proof/Laws/Frames.lean ====
section
/-! SUPPORT. One frame lemma for each shared operation: every part of the state that it leaves as it was. Each is a list of
equations that simp uses one by one. -/

namespace Sys2Proof.Machine

/-! ## The operations of Machine/Ops.lean, Flags.lean and Link.lean -/

@[simp] theorem act_frame (x : Action) (s : State) :
    (act x s).now = s.now ∧ (act x s).stamp = s.stamp ∧ (act x s).tables = s.tables
      ∧ (act x s).settings = s.settings ∧ (act x s).pending = s.pending ∧ (act x s).bins = s.bins
      ∧ (act x s).fin = s.fin ∧ (act x s).queued = s.queued ∧ (act x s).held = s.held
      ∧ (act x s).unplaced = s.unplaced ∧ (act x s).packets = s.packets ∧ (act x s).slots = s.slots
      ∧ (act x s).classes = s.classes ∧ (act x s).tray = s.tray ∧ (act x s).flags = s.flags
      ∧ (act x s).purge = s.purge ∧ (act x s).laneA = s.laneA ∧ (act x s).laneB = s.laneB
      ∧ (∀ m, (act x s).lane m = s.lane m) ∧ (∀ m, (act x s).link m = s.link m) := by
  simp [act]

@[simp] theorem beginEvent_frame (s : State) :
    (beginEvent s).now = s.now ∧ (beginEvent s).stamp = s.stamp ∧ (beginEvent s).tables = s.tables
      ∧ (beginEvent s).settings = s.settings ∧ (beginEvent s).pending = s.pending ∧ (beginEvent s).bins = s.bins
      ∧ (beginEvent s).fin = s.fin ∧ (beginEvent s).queued = s.queued ∧ (beginEvent s).held = s.held
      ∧ (beginEvent s).unplaced = s.unplaced ∧ (beginEvent s).packets = s.packets
      ∧ (beginEvent s).slots = s.slots ∧ (beginEvent s).classes = s.classes ∧ (beginEvent s).tray = s.tray
      ∧ (beginEvent s).flags = s.flags ∧ (beginEvent s).purge = s.purge ∧ (beginEvent s).laneA = s.laneA
      ∧ (beginEvent s).laneB = s.laneB ∧ (∀ m, (beginEvent s).lane m = s.lane m)
      ∧ (∀ m, (beginEvent s).link m = s.link m) := by
  simp [beginEvent]

@[simp] theorem setRank_frame (k : Key) (x : RankState) (s : State) :
    (setRank k x s).now = s.now ∧ (setRank k x s).stamp = s.stamp ∧ (setRank k x s).tables = s.tables
      ∧ (setRank k x s).settings = s.settings ∧ (setRank k x s).pending = s.pending
      ∧ (setRank k x s).actions = s.actions ∧ (setRank k x s).bins = s.bins ∧ (setRank k x s).fin = s.fin
      ∧ (setRank k x s).queued = s.queued ∧ (setRank k x s).held = s.held
      ∧ (setRank k x s).unplaced = s.unplaced ∧ (setRank k x s).packets = s.packets
      ∧ (setRank k x s).slots = s.slots ∧ (setRank k x s).tray = s.tray ∧ (setRank k x s).flags = s.flags
      ∧ (setRank k x s).purge = s.purge ∧ (setRank k x s).laneA = s.laneA ∧ (setRank k x s).laneB = s.laneB
      ∧ (∀ m, (setRank k x s).lane m = s.lane m) ∧ (∀ m, (setRank k x s).link m = s.link m) := by
  simp [setRank]

@[simp] theorem setClassState_frame (c : Nat) (x : ClassState) (s : State) :
    (setClassState c x s).now = s.now ∧ (setClassState c x s).stamp = s.stamp
      ∧ (setClassState c x s).tables = s.tables ∧ (setClassState c x s).settings = s.settings
      ∧ (setClassState c x s).pending = s.pending ∧ (setClassState c x s).actions = s.actions
      ∧ (setClassState c x s).bins = s.bins ∧ (setClassState c x s).fin = s.fin
      ∧ (setClassState c x s).queued = s.queued ∧ (setClassState c x s).held = s.held
      ∧ (setClassState c x s).unplaced = s.unplaced ∧ (setClassState c x s).packets = s.packets
      ∧ (setClassState c x s).slots = s.slots ∧ (setClassState c x s).tray = s.tray
      ∧ (setClassState c x s).flags = s.flags ∧ (setClassState c x s).purge = s.purge
      ∧ (setClassState c x s).laneA = s.laneA ∧ (setClassState c x s).laneB = s.laneB
      ∧ (∀ m, (setClassState c x s).lane m = s.lane m) ∧ (∀ m, (setClassState c x s).link m = s.link m) := by
  simp [setClassState]

@[simp] theorem activate_frame (c : Nat) (s : State) :
    (activate c s).now = s.now ∧ (activate c s).stamp = s.stamp ∧ (activate c s).tables = s.tables
      ∧ (activate c s).settings = s.settings ∧ (activate c s).pending = s.pending
      ∧ (activate c s).actions = s.actions ∧ (activate c s).bins = s.bins ∧ (activate c s).fin = s.fin
      ∧ (activate c s).queued = s.queued ∧ (activate c s).held = s.held ∧ (activate c s).unplaced = s.unplaced
      ∧ (activate c s).packets = s.packets ∧ (activate c s).slots = s.slots ∧ (activate c s).tray = s.tray
      ∧ (activate c s).flags = s.flags ∧ (activate c s).purge = s.purge ∧ (activate c s).laneA = s.laneA
      ∧ (activate c s).laneB = s.laneB ∧ (∀ m, (activate c s).lane m = s.lane m)
      ∧ (∀ m, (activate c s).link m = s.link m) := by
  unfold activate
  split <;> simp

@[simp] theorem addPacket_frame (p : Packet) (s : State) :
    (addPacket p s).now = s.now ∧ (addPacket p s).stamp = s.stamp ∧ (addPacket p s).tables = s.tables
      ∧ (addPacket p s).settings = s.settings ∧ (addPacket p s).pending = s.pending
      ∧ (addPacket p s).actions = s.actions ∧ (addPacket p s).bins = s.bins ∧ (addPacket p s).fin = s.fin
      ∧ (addPacket p s).queued = s.queued ∧ (addPacket p s).held = s.held
      ∧ (addPacket p s).unplaced = s.unplaced ∧ (addPacket p s).slots = s.slots
      ∧ (addPacket p s).classes = s.classes ∧ (addPacket p s).tray = s.tray ∧ (addPacket p s).flags = s.flags
      ∧ (addPacket p s).purge = s.purge ∧ (addPacket p s).laneA = s.laneA ∧ (addPacket p s).laneB = s.laneB
      ∧ (∀ m, (addPacket p s).lane m = s.lane m) ∧ (∀ m, (addPacket p s).link m = s.link m) := by
  simp [addPacket]

@[simp] theorem updatePacket_frame (k : Key) (f : Packet → Packet) (s : State) :
    (updatePacket k f s).now = s.now ∧ (updatePacket k f s).stamp = s.stamp
      ∧ (updatePacket k f s).tables = s.tables ∧ (updatePacket k f s).settings = s.settings
      ∧ (updatePacket k f s).pending = s.pending ∧ (updatePacket k f s).actions = s.actions
      ∧ (updatePacket k f s).bins = s.bins ∧ (updatePacket k f s).fin = s.fin
      ∧ (updatePacket k f s).queued = s.queued ∧ (updatePacket k f s).held = s.held
      ∧ (updatePacket k f s).unplaced = s.unplaced ∧ (updatePacket k f s).slots = s.slots
      ∧ (updatePacket k f s).classes = s.classes ∧ (updatePacket k f s).tray = s.tray
      ∧ (updatePacket k f s).flags = s.flags ∧ (updatePacket k f s).purge = s.purge
      ∧ (updatePacket k f s).laneA = s.laneA ∧ (updatePacket k f s).laneB = s.laneB
      ∧ (∀ m, (updatePacket k f s).lane m = s.lane m) ∧ (∀ m, (updatePacket k f s).link m = s.link m) := by
  simp [updatePacket]

@[simp] theorem removePacket_frame (k : Key) (s : State) :
    (removePacket k s).now = s.now ∧ (removePacket k s).stamp = s.stamp ∧ (removePacket k s).tables = s.tables
      ∧ (removePacket k s).settings = s.settings ∧ (removePacket k s).pending = s.pending
      ∧ (removePacket k s).actions = s.actions ∧ (removePacket k s).bins = s.bins
      ∧ (removePacket k s).fin = s.fin ∧ (removePacket k s).queued = s.queued ∧ (removePacket k s).held = s.held
      ∧ (removePacket k s).unplaced = s.unplaced ∧ (removePacket k s).slots = s.slots
      ∧ (removePacket k s).classes = s.classes ∧ (removePacket k s).tray = s.tray
      ∧ (removePacket k s).flags = s.flags ∧ (removePacket k s).purge = s.purge
      ∧ (removePacket k s).laneA = s.laneA ∧ (removePacket k s).laneB = s.laneB
      ∧ (∀ m, (removePacket k s).lane m = s.lane m) ∧ (∀ m, (removePacket k s).link m = s.link m) := by
  simp [removePacket]

@[simp] theorem updateFlags_frame (k : Key) (f : PacketFlags → PacketFlags) (s : State) :
    (updateFlags k f s).now = s.now ∧ (updateFlags k f s).stamp = s.stamp
      ∧ (updateFlags k f s).tables = s.tables ∧ (updateFlags k f s).settings = s.settings
      ∧ (updateFlags k f s).pending = s.pending ∧ (updateFlags k f s).actions = s.actions
      ∧ (updateFlags k f s).bins = s.bins ∧ (updateFlags k f s).fin = s.fin
      ∧ (updateFlags k f s).queued = s.queued ∧ (updateFlags k f s).held = s.held
      ∧ (updateFlags k f s).unplaced = s.unplaced ∧ (updateFlags k f s).slots = s.slots
      ∧ (updateFlags k f s).classes = s.classes ∧ (updateFlags k f s).tray = s.tray
      ∧ (updateFlags k f s).flags = s.flags ∧ (updateFlags k f s).purge = s.purge
      ∧ (updateFlags k f s).laneA = s.laneA ∧ (updateFlags k f s).laneB = s.laneB
      ∧ (∀ m, (updateFlags k f s).lane m = s.lane m) ∧ (∀ m, (updateFlags k f s).link m = s.link m) := by
  simp [updateFlags]

@[simp] theorem setSlot_frame (n : Fin 24) (x : Slot) (s : State) :
    (setSlot n x s).now = s.now ∧ (setSlot n x s).stamp = s.stamp ∧ (setSlot n x s).tables = s.tables
      ∧ (setSlot n x s).settings = s.settings ∧ (setSlot n x s).pending = s.pending
      ∧ (setSlot n x s).actions = s.actions ∧ (setSlot n x s).bins = s.bins ∧ (setSlot n x s).fin = s.fin
      ∧ (setSlot n x s).queued = s.queued ∧ (setSlot n x s).held = s.held
      ∧ (setSlot n x s).unplaced = s.unplaced ∧ (setSlot n x s).packets = s.packets
      ∧ (setSlot n x s).classes = s.classes ∧ (setSlot n x s).tray = s.tray ∧ (setSlot n x s).flags = s.flags
      ∧ (setSlot n x s).purge = s.purge ∧ (setSlot n x s).laneA = s.laneA ∧ (setSlot n x s).laneB = s.laneB
      ∧ (∀ m, (setSlot n x s).lane m = s.lane m) ∧ (∀ m, (setSlot n x s).link m = s.link m) := by
  simp [setSlot]

@[simp] theorem movePacket_frame (k : Key) (h : SlotHold) (s : State) :
    (movePacket k h s).now = s.now ∧ (movePacket k h s).stamp = s.stamp ∧ (movePacket k h s).tables = s.tables
      ∧ (movePacket k h s).settings = s.settings ∧ (movePacket k h s).pending = s.pending
      ∧ (movePacket k h s).actions = s.actions ∧ (movePacket k h s).bins = s.bins
      ∧ (movePacket k h s).fin = s.fin ∧ (movePacket k h s).queued = s.queued ∧ (movePacket k h s).held = s.held
      ∧ (movePacket k h s).unplaced = s.unplaced ∧ (movePacket k h s).classes = s.classes
      ∧ (movePacket k h s).tray = s.tray ∧ (movePacket k h s).flags = s.flags
      ∧ (movePacket k h s).purge = s.purge ∧ (movePacket k h s).laneA = s.laneA
      ∧ (movePacket k h s).laneB = s.laneB ∧ (∀ m, (movePacket k h s).lane m = s.lane m)
      ∧ (∀ m, (movePacket k h s).link m = s.link m) := by
  unfold movePacket
  split <;> simp

@[simp] theorem setBin_frame (b : Fin 17) (x : Bin) (s : State) :
    (setBin b x s).now = s.now ∧ (setBin b x s).stamp = s.stamp ∧ (setBin b x s).tables = s.tables
      ∧ (setBin b x s).settings = s.settings ∧ (setBin b x s).pending = s.pending
      ∧ (setBin b x s).actions = s.actions ∧ (setBin b x s).fin = s.fin ∧ (setBin b x s).queued = s.queued
      ∧ (setBin b x s).held = s.held ∧ (setBin b x s).unplaced = s.unplaced ∧ (setBin b x s).packets = s.packets
      ∧ (setBin b x s).slots = s.slots ∧ (setBin b x s).classes = s.classes ∧ (setBin b x s).tray = s.tray
      ∧ (setBin b x s).flags = s.flags ∧ (setBin b x s).purge = s.purge ∧ (setBin b x s).laneA = s.laneA
      ∧ (setBin b x s).laneB = s.laneB ∧ (∀ m, (setBin b x s).lane m = s.lane m)
      ∧ (∀ m, (setBin b x s).link m = s.link m) := by
  simp [setBin]

@[simp] theorem joinFinishing_frame (q : QueueName) (k : Key) (s : State) :
    (joinFinishing q k s).now = s.now ∧ (joinFinishing q k s).stamp = s.stamp
      ∧ (joinFinishing q k s).tables = s.tables ∧ (joinFinishing q k s).settings = s.settings
      ∧ (joinFinishing q k s).pending = s.pending ∧ (joinFinishing q k s).actions = s.actions
      ∧ (joinFinishing q k s).bins = s.bins ∧ (joinFinishing q k s).fin = s.fin
      ∧ (joinFinishing q k s).held = s.held ∧ (joinFinishing q k s).unplaced = s.unplaced
      ∧ (joinFinishing q k s).packets = s.packets ∧ (joinFinishing q k s).slots = s.slots
      ∧ (joinFinishing q k s).classes = s.classes ∧ (joinFinishing q k s).tray = s.tray
      ∧ (joinFinishing q k s).flags = s.flags ∧ (joinFinishing q k s).purge = s.purge
      ∧ (joinFinishing q k s).laneA = s.laneA ∧ (joinFinishing q k s).laneB = s.laneB
      ∧ (∀ m, (joinFinishing q k s).lane m = s.lane m) ∧ (∀ m, (joinFinishing q k s).link m = s.link m) := by
  simp [joinFinishing]

@[simp] theorem leaveFinishing_frame (k : Key) (s : State) :
    (leaveFinishing k s).now = s.now ∧ (leaveFinishing k s).stamp = s.stamp
      ∧ (leaveFinishing k s).tables = s.tables ∧ (leaveFinishing k s).settings = s.settings
      ∧ (leaveFinishing k s).pending = s.pending ∧ (leaveFinishing k s).actions = s.actions
      ∧ (leaveFinishing k s).bins = s.bins ∧ (leaveFinishing k s).fin = s.fin
      ∧ (leaveFinishing k s).held = s.held ∧ (leaveFinishing k s).unplaced = s.unplaced
      ∧ (leaveFinishing k s).packets = s.packets ∧ (leaveFinishing k s).slots = s.slots
      ∧ (leaveFinishing k s).classes = s.classes ∧ (leaveFinishing k s).tray = s.tray
      ∧ (leaveFinishing k s).flags = s.flags ∧ (leaveFinishing k s).purge = s.purge
      ∧ (leaveFinishing k s).laneA = s.laneA ∧ (leaveFinishing k s).laneB = s.laneB
      ∧ (∀ m, (leaveFinishing k s).lane m = s.lane m) ∧ (∀ m, (leaveFinishing k s).link m = s.link m) := by
  simp [leaveFinishing]

@[simp] theorem leaveHeld_frame (k : Key) (s : State) :
    (leaveHeld k s).now = s.now ∧ (leaveHeld k s).stamp = s.stamp ∧ (leaveHeld k s).tables = s.tables
      ∧ (leaveHeld k s).settings = s.settings ∧ (leaveHeld k s).pending = s.pending
      ∧ (leaveHeld k s).actions = s.actions ∧ (leaveHeld k s).bins = s.bins ∧ (leaveHeld k s).fin = s.fin
      ∧ (leaveHeld k s).queued = s.queued ∧ (leaveHeld k s).unplaced = s.unplaced
      ∧ (leaveHeld k s).packets = s.packets ∧ (leaveHeld k s).slots = s.slots
      ∧ (leaveHeld k s).classes = s.classes ∧ (leaveHeld k s).tray = s.tray ∧ (leaveHeld k s).flags = s.flags
      ∧ (leaveHeld k s).purge = s.purge ∧ (leaveHeld k s).laneA = s.laneA ∧ (leaveHeld k s).laneB = s.laneB
      ∧ (∀ m, (leaveHeld k s).lane m = s.lane m) ∧ (∀ m, (leaveHeld k s).link m = s.link m) := by
  simp [leaveHeld]

@[simp] theorem leaveUnplaced_frame (k : Key) (s : State) :
    (leaveUnplaced k s).now = s.now ∧ (leaveUnplaced k s).stamp = s.stamp
      ∧ (leaveUnplaced k s).tables = s.tables ∧ (leaveUnplaced k s).settings = s.settings
      ∧ (leaveUnplaced k s).pending = s.pending ∧ (leaveUnplaced k s).actions = s.actions
      ∧ (leaveUnplaced k s).bins = s.bins ∧ (leaveUnplaced k s).fin = s.fin
      ∧ (leaveUnplaced k s).queued = s.queued ∧ (leaveUnplaced k s).held = s.held
      ∧ (leaveUnplaced k s).packets = s.packets ∧ (leaveUnplaced k s).slots = s.slots
      ∧ (leaveUnplaced k s).classes = s.classes ∧ (leaveUnplaced k s).tray = s.tray
      ∧ (leaveUnplaced k s).flags = s.flags ∧ (leaveUnplaced k s).purge = s.purge
      ∧ (leaveUnplaced k s).laneA = s.laneA ∧ (leaveUnplaced k s).laneB = s.laneB
      ∧ (∀ m, (leaveUnplaced k s).lane m = s.lane m) ∧ (∀ m, (leaveUnplaced k s).link m = s.link m) := by
  simp [leaveUnplaced]

@[simp] theorem setQueue_frame (l : Lane) (q : List Entry) (s : State) :
    (setQueue l q s).now = s.now ∧ (setQueue l q s).stamp = s.stamp ∧ (setQueue l q s).tables = s.tables
      ∧ (setQueue l q s).settings = s.settings ∧ (setQueue l q s).pending = s.pending
      ∧ (setQueue l q s).actions = s.actions ∧ (setQueue l q s).bins = s.bins ∧ (setQueue l q s).fin = s.fin
      ∧ (setQueue l q s).queued = s.queued ∧ (setQueue l q s).held = s.held
      ∧ (setQueue l q s).unplaced = s.unplaced ∧ (setQueue l q s).packets = s.packets
      ∧ (setQueue l q s).slots = s.slots ∧ (setQueue l q s).classes = s.classes ∧ (setQueue l q s).tray = s.tray
      ∧ (setQueue l q s).flags = s.flags ∧ (setQueue l q s).purge = s.purge
      ∧ (∀ m, (setQueue l q s).link m = s.link m) := by
  simp [setQueue]

@[simp] theorem retime_frame (l : Lane) (s : State) :
    (retime l s).now = s.now ∧ (retime l s).stamp = s.stamp ∧ (retime l s).tables = s.tables
      ∧ (retime l s).settings = s.settings ∧ (retime l s).pending = s.pending ∧ (retime l s).actions = s.actions
      ∧ (retime l s).bins = s.bins ∧ (retime l s).fin = s.fin ∧ (retime l s).queued = s.queued
      ∧ (retime l s).held = s.held ∧ (retime l s).unplaced = s.unplaced ∧ (retime l s).packets = s.packets
      ∧ (retime l s).slots = s.slots ∧ (retime l s).classes = s.classes ∧ (retime l s).tray = s.tray
      ∧ (retime l s).flags = s.flags ∧ (retime l s).purge = s.purge ∧ (∀ m, (retime l s).link m = s.link m) := by
  simp [retime]

@[simp] theorem raise_frame (c : Cause) (s : State) :
    (raise c s).now = s.now ∧ (raise c s).stamp = s.stamp ∧ (raise c s).tables = s.tables
      ∧ (raise c s).settings = s.settings ∧ (raise c s).pending = s.pending ∧ (raise c s).actions = s.actions
      ∧ (raise c s).bins = s.bins ∧ (raise c s).fin = s.fin ∧ (raise c s).queued = s.queued
      ∧ (raise c s).held = s.held ∧ (raise c s).unplaced = s.unplaced ∧ (raise c s).packets = s.packets
      ∧ (raise c s).slots = s.slots ∧ (raise c s).classes = s.classes ∧ (raise c s).tray = s.tray
      ∧ (raise c s).purge = s.purge ∧ (raise c s).laneA = s.laneA ∧ (raise c s).laneB = s.laneB
      ∧ (∀ m, (raise c s).lane m = s.lane m) ∧ (∀ m, (raise c s).link m = s.link m) := by
  simp [raise]

@[simp] theorem reply_frame (l : Lane) (tag : Byte) (code : ReplyCode) (kind : Byte) (data : List Byte) (s : State) :
    (reply l tag code kind data s).now = s.now ∧ (reply l tag code kind data s).stamp = s.stamp
      ∧ (reply l tag code kind data s).tables = s.tables ∧ (reply l tag code kind data s).settings = s.settings
      ∧ (reply l tag code kind data s).pending = s.pending ∧ (reply l tag code kind data s).actions = s.actions
      ∧ (reply l tag code kind data s).bins = s.bins ∧ (reply l tag code kind data s).fin = s.fin
      ∧ (reply l tag code kind data s).queued = s.queued ∧ (reply l tag code kind data s).held = s.held
      ∧ (reply l tag code kind data s).unplaced = s.unplaced
      ∧ (reply l tag code kind data s).packets = s.packets ∧ (reply l tag code kind data s).slots = s.slots
      ∧ (reply l tag code kind data s).classes = s.classes ∧ (reply l tag code kind data s).tray = s.tray
      ∧ (reply l tag code kind data s).flags = s.flags ∧ (reply l tag code kind data s).purge = s.purge
      ∧ (reply l tag code kind data s).laneA = s.laneA ∧ (reply l tag code kind data s).laneB = s.laneB
      ∧ (∀ m, (reply l tag code kind data s).lane m = s.lane m) := by
  simp [reply]

@[simp] theorem sendUnsolicited_frame (l : Lane) (kind : UpKind) (body : List Byte) (s : State) :
    (sendUnsolicited l kind body s).now = s.now ∧ (sendUnsolicited l kind body s).stamp = s.stamp
      ∧ (sendUnsolicited l kind body s).tables = s.tables
      ∧ (sendUnsolicited l kind body s).settings = s.settings
      ∧ (sendUnsolicited l kind body s).pending = s.pending
      ∧ (sendUnsolicited l kind body s).actions = s.actions ∧ (sendUnsolicited l kind body s).bins = s.bins
      ∧ (sendUnsolicited l kind body s).fin = s.fin ∧ (sendUnsolicited l kind body s).queued = s.queued
      ∧ (sendUnsolicited l kind body s).held = s.held ∧ (sendUnsolicited l kind body s).unplaced = s.unplaced
      ∧ (sendUnsolicited l kind body s).packets = s.packets ∧ (sendUnsolicited l kind body s).slots = s.slots
      ∧ (sendUnsolicited l kind body s).classes = s.classes ∧ (sendUnsolicited l kind body s).tray = s.tray
      ∧ (sendUnsolicited l kind body s).flags = s.flags ∧ (sendUnsolicited l kind body s).purge = s.purge
      ∧ (sendUnsolicited l kind body s).laneA = s.laneA ∧ (sendUnsolicited l kind body s).laneB = s.laneB
      ∧ (∀ m, (sendUnsolicited l kind body s).lane m = s.lane m) := by
  simp [sendUnsolicited]

@[simp] theorem sendReport_frame (kind : UpKind) (body : List Byte) (s : State) :
    (sendReport kind body s).now = s.now ∧ (sendReport kind body s).stamp = s.stamp
      ∧ (sendReport kind body s).tables = s.tables ∧ (sendReport kind body s).settings = s.settings
      ∧ (sendReport kind body s).pending = s.pending ∧ (sendReport kind body s).actions = s.actions
      ∧ (sendReport kind body s).bins = s.bins ∧ (sendReport kind body s).fin = s.fin
      ∧ (sendReport kind body s).queued = s.queued ∧ (sendReport kind body s).held = s.held
      ∧ (sendReport kind body s).unplaced = s.unplaced ∧ (sendReport kind body s).packets = s.packets
      ∧ (sendReport kind body s).slots = s.slots ∧ (sendReport kind body s).classes = s.classes
      ∧ (sendReport kind body s).tray = s.tray ∧ (sendReport kind body s).flags = s.flags
      ∧ (sendReport kind body s).purge = s.purge ∧ (sendReport kind body s).laneA = s.laneA
      ∧ (sendReport kind body s).laneB = s.laneB ∧ (∀ m, (sendReport kind body s).lane m = s.lane m) := by
  simp [sendReport]

@[simp] theorem setRx_frame (l : Lane) (r : Receiver) (s : State) :
    (setRx l r s).now = s.now ∧ (setRx l r s).stamp = s.stamp ∧ (setRx l r s).tables = s.tables
      ∧ (setRx l r s).settings = s.settings ∧ (setRx l r s).pending = s.pending
      ∧ (setRx l r s).actions = s.actions ∧ (setRx l r s).bins = s.bins ∧ (setRx l r s).fin = s.fin
      ∧ (setRx l r s).queued = s.queued ∧ (setRx l r s).held = s.held ∧ (setRx l r s).unplaced = s.unplaced
      ∧ (setRx l r s).packets = s.packets ∧ (setRx l r s).slots = s.slots ∧ (setRx l r s).classes = s.classes
      ∧ (setRx l r s).tray = s.tray ∧ (setRx l r s).flags = s.flags ∧ (setRx l r s).purge = s.purge
      ∧ (setRx l r s).laneA = s.laneA ∧ (setRx l r s).laneB = s.laneB ∧ (∀ m, (setRx l r s).lane m = s.lane m) := by
  simp [setRx]

@[simp] theorem frameCompleted_frame (l : Lane) (s : State) :
    (frameCompleted l s).now = s.now ∧ (frameCompleted l s).stamp = s.stamp
      ∧ (frameCompleted l s).tables = s.tables ∧ (frameCompleted l s).settings = s.settings
      ∧ (frameCompleted l s).pending = s.pending ∧ (frameCompleted l s).bins = s.bins
      ∧ (frameCompleted l s).fin = s.fin ∧ (frameCompleted l s).queued = s.queued
      ∧ (frameCompleted l s).held = s.held ∧ (frameCompleted l s).unplaced = s.unplaced
      ∧ (frameCompleted l s).packets = s.packets ∧ (frameCompleted l s).slots = s.slots
      ∧ (frameCompleted l s).classes = s.classes ∧ (frameCompleted l s).tray = s.tray
      ∧ (frameCompleted l s).flags = s.flags ∧ (frameCompleted l s).purge = s.purge
      ∧ (frameCompleted l s).laneA = s.laneA ∧ (frameCompleted l s).laneB = s.laneB
      ∧ (∀ m, (frameCompleted l s).lane m = s.lane m) := by
  simp [frameCompleted]

@[simp] theorem sendDisposition_frame (p : Packet) (d n u : Nat) (s : State) :
    (sendDisposition p d n u s).now = s.now ∧ (sendDisposition p d n u s).stamp = s.stamp
      ∧ (sendDisposition p d n u s).tables = s.tables ∧ (sendDisposition p d n u s).settings = s.settings
      ∧ (sendDisposition p d n u s).pending = s.pending ∧ (sendDisposition p d n u s).actions = s.actions
      ∧ (sendDisposition p d n u s).bins = s.bins ∧ (sendDisposition p d n u s).fin = s.fin
      ∧ (sendDisposition p d n u s).queued = s.queued ∧ (sendDisposition p d n u s).held = s.held
      ∧ (sendDisposition p d n u s).unplaced = s.unplaced ∧ (sendDisposition p d n u s).packets = s.packets
      ∧ (sendDisposition p d n u s).slots = s.slots ∧ (sendDisposition p d n u s).classes = s.classes
      ∧ (sendDisposition p d n u s).tray = s.tray ∧ (sendDisposition p d n u s).flags = s.flags
      ∧ (sendDisposition p d n u s).purge = s.purge ∧ (sendDisposition p d n u s).laneA = s.laneA
      ∧ (sendDisposition p d n u s).laneB = s.laneB ∧ (∀ m, (sendDisposition p d n u s).lane m = s.lane m) := by
  simp [sendDisposition]

/-! ## Hold conditions, tray, faults -/

@[simp] theorem setLaneState_frame (l : Lane) (x : LaneState) (s : State) :
    (setLaneState l x s).now = s.now ∧ (setLaneState l x s).stamp = s.stamp
      ∧ (setLaneState l x s).tables = s.tables ∧ (setLaneState l x s).settings = s.settings
      ∧ (setLaneState l x s).pending = s.pending ∧ (setLaneState l x s).actions = s.actions
      ∧ (setLaneState l x s).bins = s.bins ∧ (setLaneState l x s).fin = s.fin
      ∧ (setLaneState l x s).queued = s.queued ∧ (setLaneState l x s).held = s.held
      ∧ (setLaneState l x s).unplaced = s.unplaced ∧ (setLaneState l x s).packets = s.packets
      ∧ (setLaneState l x s).slots = s.slots ∧ (setLaneState l x s).classes = s.classes
      ∧ (setLaneState l x s).tray = s.tray ∧ (setLaneState l x s).flags = s.flags
      ∧ (setLaneState l x s).purge = s.purge ∧ (∀ m, (setLaneState l x s).link m = s.link m) := by
  simp [setLaneState]

@[simp] theorem evalHold_frame (l : Lane) (s : State) :
    (evalHold l s).now = s.now ∧ (evalHold l s).stamp = s.stamp ∧ (evalHold l s).tables = s.tables
      ∧ (evalHold l s).settings = s.settings ∧ (evalHold l s).pending = s.pending
      ∧ (evalHold l s).actions = s.actions ∧ (evalHold l s).bins = s.bins ∧ (evalHold l s).fin = s.fin
      ∧ (evalHold l s).queued = s.queued ∧ (evalHold l s).held = s.held ∧ (evalHold l s).unplaced = s.unplaced
      ∧ (evalHold l s).packets = s.packets ∧ (evalHold l s).slots = s.slots ∧ (evalHold l s).classes = s.classes
      ∧ (evalHold l s).tray = s.tray ∧ (evalHold l s).flags = s.flags ∧ (evalHold l s).purge = s.purge := by
  unfold evalHold
  (repeat' split) <;> simp

@[simp] theorem evalHolds_frame (s : State) :
    (evalHolds s).now = s.now ∧ (evalHolds s).stamp = s.stamp ∧ (evalHolds s).tables = s.tables
      ∧ (evalHolds s).settings = s.settings ∧ (evalHolds s).pending = s.pending
      ∧ (evalHolds s).actions = s.actions ∧ (evalHolds s).bins = s.bins ∧ (evalHolds s).fin = s.fin
      ∧ (evalHolds s).queued = s.queued ∧ (evalHolds s).held = s.held ∧ (evalHolds s).unplaced = s.unplaced
      ∧ (evalHolds s).packets = s.packets ∧ (evalHolds s).slots = s.slots ∧ (evalHolds s).classes = s.classes
      ∧ (evalHolds s).tray = s.tray ∧ (evalHolds s).flags = s.flags ∧ (evalHolds s).purge = s.purge := by
  simp [evalHolds]

@[simp] theorem addTray_frame (n : Nat) (s : State) :
    (addTray n s).now = s.now ∧ (addTray n s).stamp = s.stamp ∧ (addTray n s).tables = s.tables
      ∧ (addTray n s).settings = s.settings ∧ (addTray n s).pending = s.pending
      ∧ (addTray n s).actions = s.actions ∧ (addTray n s).bins = s.bins ∧ (addTray n s).fin = s.fin
      ∧ (addTray n s).queued = s.queued ∧ (addTray n s).held = s.held ∧ (addTray n s).unplaced = s.unplaced
      ∧ (addTray n s).packets = s.packets ∧ (addTray n s).slots = s.slots ∧ (addTray n s).classes = s.classes
      ∧ (addTray n s).purge = s.purge := by
  unfold addTray
  dsimp only
  (repeat' split) <;> simp

@[simp] theorem mapTimers_frame (f : CollectTimer → CollectTimer) (s : State) :
    (mapTimers f s).now = s.now ∧ (mapTimers f s).stamp = s.stamp ∧ (mapTimers f s).tables = s.tables
      ∧ (mapTimers f s).settings = s.settings ∧ (mapTimers f s).pending = s.pending
      ∧ (mapTimers f s).actions = s.actions ∧ (mapTimers f s).bins = s.bins ∧ (mapTimers f s).fin = s.fin
      ∧ (mapTimers f s).queued = s.queued ∧ (mapTimers f s).held = s.held
      ∧ (mapTimers f s).unplaced = s.unplaced ∧ (mapTimers f s).slots = s.slots
      ∧ (mapTimers f s).classes = s.classes ∧ (mapTimers f s).tray = s.tray ∧ (mapTimers f s).flags = s.flags
      ∧ (mapTimers f s).purge = s.purge ∧ (mapTimers f s).laneA = s.laneA ∧ (mapTimers f s).laneB = s.laneB
      ∧ (∀ m, (mapTimers f s).lane m = s.lane m) ∧ (∀ m, (mapTimers f s).link m = s.link m) := by
  simp [mapTimers]

@[simp] theorem thawTimers_frame (s : State) :
    (thawTimers s).now = s.now ∧ (thawTimers s).stamp = s.stamp ∧ (thawTimers s).tables = s.tables
      ∧ (thawTimers s).settings = s.settings ∧ (thawTimers s).pending = s.pending
      ∧ (thawTimers s).actions = s.actions ∧ (thawTimers s).bins = s.bins ∧ (thawTimers s).fin = s.fin
      ∧ (thawTimers s).queued = s.queued ∧ (thawTimers s).held = s.held ∧ (thawTimers s).unplaced = s.unplaced
      ∧ (thawTimers s).slots = s.slots ∧ (thawTimers s).classes = s.classes ∧ (thawTimers s).tray = s.tray
      ∧ (thawTimers s).flags = s.flags ∧ (thawTimers s).purge = s.purge ∧ (thawTimers s).laneA = s.laneA
      ∧ (thawTimers s).laneB = s.laneB ∧ (∀ m, (thawTimers s).lane m = s.lane m)
      ∧ (∀ m, (thawTimers s).link m = s.link m) := by
  unfold thawTimers
  split <;> simp

@[simp] theorem enterFault_frame (l : Lane) (c : LaneCause) (s : State) :
    (enterFault l c s).now = s.now ∧ (enterFault l c s).stamp = s.stamp ∧ (enterFault l c s).tables = s.tables
      ∧ (enterFault l c s).settings = s.settings ∧ (enterFault l c s).pending = s.pending
      ∧ (enterFault l c s).actions = s.actions ∧ (enterFault l c s).bins = s.bins
      ∧ (enterFault l c s).fin = s.fin ∧ (enterFault l c s).queued = s.queued ∧ (enterFault l c s).held = s.held
      ∧ (enterFault l c s).unplaced = s.unplaced ∧ (enterFault l c s).slots = s.slots
      ∧ (enterFault l c s).classes = s.classes ∧ (enterFault l c s).tray = s.tray
      ∧ (enterFault l c s).purge = s.purge := by
  unfold enterFault
  dsimp only
  split <;> simp

/-! ## The Return Order Unit -/

@[simp] theorem bumpCursor_frame (c : Nat) (s : State) :
    (bumpCursor c s).now = s.now ∧ (bumpCursor c s).stamp = s.stamp ∧ (bumpCursor c s).tables = s.tables
      ∧ (bumpCursor c s).settings = s.settings ∧ (bumpCursor c s).pending = s.pending
      ∧ (bumpCursor c s).actions = s.actions ∧ (bumpCursor c s).bins = s.bins ∧ (bumpCursor c s).fin = s.fin
      ∧ (bumpCursor c s).queued = s.queued ∧ (bumpCursor c s).held = s.held
      ∧ (bumpCursor c s).unplaced = s.unplaced ∧ (bumpCursor c s).packets = s.packets
      ∧ (bumpCursor c s).slots = s.slots ∧ (bumpCursor c s).tray = s.tray ∧ (bumpCursor c s).flags = s.flags
      ∧ (bumpCursor c s).purge = s.purge ∧ (bumpCursor c s).laneA = s.laneA ∧ (bumpCursor c s).laneB = s.laneB
      ∧ (∀ m, (bumpCursor c s).lane m = s.lane m) ∧ (∀ m, (bumpCursor c s).link m = s.link m) := by
  simp [bumpCursor]

@[simp] theorem release_frame (k : Key) (s : State) :
    (release k s).now = s.now ∧ (release k s).stamp = s.stamp ∧ (release k s).tables = s.tables
      ∧ (release k s).settings = s.settings ∧ (release k s).pending = s.pending
      ∧ (release k s).actions = s.actions ∧ (release k s).bins = s.bins ∧ (release k s).fin = s.fin
      ∧ (release k s).unplaced = s.unplaced ∧ (release k s).tray = s.tray ∧ (release k s).flags = s.flags
      ∧ (release k s).purge = s.purge ∧ (release k s).laneA = s.laneA ∧ (release k s).laneB = s.laneB
      ∧ (∀ m, (release k s).lane m = s.lane m) ∧ (∀ m, (release k s).link m = s.link m) := by
  simp [release]

@[simp] theorem advance_frame (c fuel : Nat) (s : State) :
    (advance c fuel s).now = s.now ∧ (advance c fuel s).stamp = s.stamp ∧ (advance c fuel s).tables = s.tables
      ∧ (advance c fuel s).settings = s.settings ∧ (advance c fuel s).pending = s.pending
      ∧ (advance c fuel s).actions = s.actions ∧ (advance c fuel s).bins = s.bins
      ∧ (advance c fuel s).fin = s.fin ∧ (advance c fuel s).unplaced = s.unplaced
      ∧ (advance c fuel s).tray = s.tray ∧ (advance c fuel s).flags = s.flags
      ∧ (advance c fuel s).purge = s.purge ∧ (advance c fuel s).laneA = s.laneA
      ∧ (advance c fuel s).laneB = s.laneB ∧ (∀ m, (advance c fuel s).lane m = s.lane m)
      ∧ (∀ m, (advance c fuel s).link m = s.link m) := by
  induction fuel generalizing s with
  | zero => simp [advance]
  | succ fuel ih =>
    unfold advance
    dsimp only
    split <;> simp [ih]

@[simp] theorem cursorAdvance_frame (c : Nat) (s : State) :
    (cursorAdvance c s).now = s.now ∧ (cursorAdvance c s).stamp = s.stamp
      ∧ (cursorAdvance c s).tables = s.tables ∧ (cursorAdvance c s).settings = s.settings
      ∧ (cursorAdvance c s).pending = s.pending ∧ (cursorAdvance c s).actions = s.actions
      ∧ (cursorAdvance c s).bins = s.bins ∧ (cursorAdvance c s).fin = s.fin
      ∧ (cursorAdvance c s).unplaced = s.unplaced ∧ (cursorAdvance c s).tray = s.tray
      ∧ (cursorAdvance c s).flags = s.flags ∧ (cursorAdvance c s).purge = s.purge
      ∧ (cursorAdvance c s).laneA = s.laneA ∧ (cursorAdvance c s).laneB = s.laneB
      ∧ (∀ m, (cursorAdvance c s).lane m = s.lane m) ∧ (∀ m, (cursorAdvance c s).link m = s.link m) := by
  simp [cursorAdvance]

@[simp] theorem doneCheck_frame (c : Nat) (s : State) :
    (doneCheck c s).now = s.now ∧ (doneCheck c s).stamp = s.stamp ∧ (doneCheck c s).tables = s.tables
      ∧ (doneCheck c s).settings = s.settings ∧ (doneCheck c s).pending = s.pending
      ∧ (doneCheck c s).actions = s.actions ∧ (doneCheck c s).bins = s.bins ∧ (doneCheck c s).fin = s.fin
      ∧ (doneCheck c s).queued = s.queued ∧ (doneCheck c s).held = s.held
      ∧ (doneCheck c s).unplaced = s.unplaced ∧ (doneCheck c s).packets = s.packets
      ∧ (doneCheck c s).slots = s.slots ∧ (doneCheck c s).tray = s.tray ∧ (doneCheck c s).purge = s.purge
      ∧ (doneCheck c s).laneA = s.laneA ∧ (doneCheck c s).laneB = s.laneB
      ∧ (∀ m, (doneCheck c s).lane m = s.lane m) := by
  unfold doneCheck
  split <;> simp

@[simp] theorem orderStep_frame (c : Nat) (s : State) :
    (orderStep c s).now = s.now ∧ (orderStep c s).stamp = s.stamp ∧ (orderStep c s).tables = s.tables
      ∧ (orderStep c s).settings = s.settings ∧ (orderStep c s).pending = s.pending
      ∧ (orderStep c s).actions = s.actions ∧ (orderStep c s).bins = s.bins ∧ (orderStep c s).fin = s.fin
      ∧ (orderStep c s).unplaced = s.unplaced ∧ (orderStep c s).tray = s.tray ∧ (orderStep c s).purge = s.purge
      ∧ (orderStep c s).laneA = s.laneA ∧ (orderStep c s).laneB = s.laneB
      ∧ (∀ m, (orderStep c s).lane m = s.lane m) := by
  simp [orderStep]

@[simp] theorem handCompleted_frame (k : Key) (s : State) :
    (handCompleted k s).now = s.now ∧ (handCompleted k s).stamp = s.stamp
      ∧ (handCompleted k s).tables = s.tables ∧ (handCompleted k s).settings = s.settings
      ∧ (handCompleted k s).pending = s.pending ∧ (handCompleted k s).actions = s.actions
      ∧ (handCompleted k s).bins = s.bins ∧ (handCompleted k s).fin = s.fin
      ∧ (handCompleted k s).unplaced = s.unplaced ∧ (handCompleted k s).tray = s.tray
      ∧ (handCompleted k s).purge = s.purge ∧ (handCompleted k s).laneA = s.laneA
      ∧ (handCompleted k s).laneB = s.laneB ∧ (∀ m, (handCompleted k s).lane m = s.lane m) := by
  unfold handCompleted
  split <;> simp

@[simp] theorem queueForTray_frame (k : Key) (s : State) :
    (queueForTray k s).now = s.now ∧ (queueForTray k s).stamp = s.stamp ∧ (queueForTray k s).tables = s.tables
      ∧ (queueForTray k s).settings = s.settings ∧ (queueForTray k s).pending = s.pending
      ∧ (queueForTray k s).actions = s.actions ∧ (queueForTray k s).bins = s.bins
      ∧ (queueForTray k s).fin = s.fin ∧ (queueForTray k s).unplaced = s.unplaced
      ∧ (queueForTray k s).tray = s.tray ∧ (queueForTray k s).purge = s.purge
      ∧ (queueForTray k s).laneA = s.laneA ∧ (queueForTray k s).laneB = s.laneB
      ∧ (∀ m, (queueForTray k s).lane m = s.lane m) := by
  simp [queueForTray]

@[simp] theorem relieve_frame (k : Key) (s : State) :
    (relieve k s).now = s.now ∧ (relieve k s).stamp = s.stamp ∧ (relieve k s).tables = s.tables
      ∧ (relieve k s).settings = s.settings ∧ (relieve k s).pending = s.pending
      ∧ (relieve k s).actions = s.actions ∧ (relieve k s).bins = s.bins ∧ (relieve k s).fin = s.fin
      ∧ (relieve k s).unplaced = s.unplaced ∧ (relieve k s).tray = s.tray ∧ (relieve k s).purge = s.purge
      ∧ (relieve k s).laneA = s.laneA ∧ (relieve k s).laneB = s.laneB ∧ (∀ m, (relieve k s).lane m = s.lane m) := by
  simp [relieve]

@[simp] theorem tryRelief_frame (s : State) :
    (tryRelief s).now = s.now ∧ (tryRelief s).stamp = s.stamp ∧ (tryRelief s).tables = s.tables
      ∧ (tryRelief s).settings = s.settings ∧ (tryRelief s).pending = s.pending
      ∧ (tryRelief s).actions = s.actions ∧ (tryRelief s).bins = s.bins ∧ (tryRelief s).fin = s.fin
      ∧ (tryRelief s).unplaced = s.unplaced ∧ (tryRelief s).tray = s.tray ∧ (tryRelief s).purge = s.purge
      ∧ (tryRelief s).laneA = s.laneA ∧ (tryRelief s).laneB = s.laneB ∧ (∀ m, (tryRelief s).lane m = s.lane m) := by
  unfold tryRelief
  (repeat' split) <;> simp

/-! ## The Staging Tower -/

@[simp] theorem createPacket_frame (k : Key) (n : Fin 24) (a : Assignment) (j : BitVec 16) (s : State) :
    (createPacket k n a j s).now = s.now ∧ (createPacket k n a j s).stamp = s.stamp
      ∧ (createPacket k n a j s).tables = s.tables ∧ (createPacket k n a j s).settings = s.settings
      ∧ (createPacket k n a j s).pending = s.pending ∧ (createPacket k n a j s).actions = s.actions
      ∧ (createPacket k n a j s).bins = s.bins ∧ (createPacket k n a j s).fin = s.fin
      ∧ (createPacket k n a j s).unplaced = s.unplaced ∧ (createPacket k n a j s).tray = s.tray
      ∧ (createPacket k n a j s).purge = s.purge ∧ (createPacket k n a j s).laneA = s.laneA
      ∧ (createPacket k n a j s).laneB = s.laneB ∧ (∀ m, (createPacket k n a j s).lane m = s.lane m) := by
  simp [createPacket]

@[simp] theorem giveLane_frame (k : Key) (n : Fin 24) (l : Lane) (s : State) :
    (giveLane k n l s).now = s.now ∧ (giveLane k n l s).stamp = s.stamp ∧ (giveLane k n l s).tables = s.tables
      ∧ (giveLane k n l s).settings = s.settings ∧ (giveLane k n l s).pending = s.pending
      ∧ (giveLane k n l s).actions = s.actions ∧ (giveLane k n l s).bins = s.bins
      ∧ (giveLane k n l s).fin = s.fin ∧ (giveLane k n l s).queued = s.queued ∧ (giveLane k n l s).held = s.held
      ∧ (giveLane k n l s).unplaced = s.unplaced ∧ (giveLane k n l s).packets = s.packets
      ∧ (giveLane k n l s).slots = s.slots ∧ (giveLane k n l s).classes = s.classes
      ∧ (giveLane k n l s).tray = s.tray ∧ (giveLane k n l s).flags = s.flags
      ∧ (giveLane k n l s).purge = s.purge := by
  unfold giveLane
  split <;> simp

@[simp] theorem allocate_frame (n : Fin 24) (s : State) :
    (allocate n s).now = s.now ∧ (allocate n s).stamp = s.stamp ∧ (allocate n s).tables = s.tables
      ∧ (allocate n s).settings = s.settings ∧ (allocate n s).pending = s.pending
      ∧ (allocate n s).actions = s.actions ∧ (allocate n s).bins = s.bins ∧ (allocate n s).fin = s.fin
      ∧ (allocate n s).tray = s.tray ∧ (allocate n s).purge = s.purge := by
  unfold allocate
  (repeat' split) <;> simp

@[simp] theorem freeSlot_frame (n : Fin 24) (s : State) :
    (freeSlot n s).now = s.now ∧ (freeSlot n s).stamp = s.stamp ∧ (freeSlot n s).tables = s.tables
      ∧ (freeSlot n s).settings = s.settings ∧ (freeSlot n s).pending = s.pending
      ∧ (freeSlot n s).actions = s.actions ∧ (freeSlot n s).bins = s.bins ∧ (freeSlot n s).fin = s.fin
      ∧ (freeSlot n s).tray = s.tray ∧ (freeSlot n s).purge = s.purge := by
  unfold freeSlot
  (repeat' split) <;> simp

@[simp] theorem leaveSlot_frame (k : Key) (s : State) :
    (leaveSlot k s).now = s.now ∧ (leaveSlot k s).stamp = s.stamp ∧ (leaveSlot k s).tables = s.tables
      ∧ (leaveSlot k s).settings = s.settings ∧ (leaveSlot k s).pending = s.pending
      ∧ (leaveSlot k s).actions = s.actions ∧ (leaveSlot k s).bins = s.bins ∧ (leaveSlot k s).fin = s.fin
      ∧ (leaveSlot k s).tray = s.tray ∧ (leaveSlot k s).purge = s.purge := by
  unfold leaveSlot
  split <;> simp

@[simp] theorem dropPacket_frame (k : Key) (n : Fin 24) (s : State) :
    (dropPacket k n s).now = s.now ∧ (dropPacket k n s).stamp = s.stamp ∧ (dropPacket k n s).tables = s.tables
      ∧ (dropPacket k n s).settings = s.settings ∧ (dropPacket k n s).pending = s.pending
      ∧ (dropPacket k n s).actions = s.actions ∧ (dropPacket k n s).bins = s.bins
      ∧ (dropPacket k n s).fin = s.fin ∧ (dropPacket k n s).tray = s.tray ∧ (dropPacket k n s).purge = s.purge := by
  simp [dropPacket]

@[simp] theorem settlePlaced_frame (p : Packet) (s : State) :
    (settlePlaced p s).now = s.now ∧ (settlePlaced p s).stamp = s.stamp ∧ (settlePlaced p s).tables = s.tables
      ∧ (settlePlaced p s).settings = s.settings ∧ (settlePlaced p s).pending = s.pending
      ∧ (settlePlaced p s).actions = s.actions ∧ (settlePlaced p s).bins = s.bins
      ∧ (settlePlaced p s).fin = s.fin ∧ (settlePlaced p s).unplaced = s.unplaced
      ∧ (settlePlaced p s).tray = s.tray ∧ (settlePlaced p s).purge = s.purge
      ∧ (settlePlaced p s).laneA = s.laneA ∧ (settlePlaced p s).laneB = s.laneB
      ∧ (∀ m, (settlePlaced p s).lane m = s.lane m) := by
  unfold settlePlaced
  (repeat' split) <;> simp

@[simp] theorem becomeStale_frame (k : Key) (s : State) :
    (becomeStale k s).now = s.now ∧ (becomeStale k s).stamp = s.stamp ∧ (becomeStale k s).tables = s.tables
      ∧ (becomeStale k s).settings = s.settings ∧ (becomeStale k s).pending = s.pending
      ∧ (becomeStale k s).actions = s.actions ∧ (becomeStale k s).bins = s.bins ∧ (becomeStale k s).fin = s.fin
      ∧ (becomeStale k s).unplaced = s.unplaced ∧ (becomeStale k s).tray = s.tray
      ∧ (becomeStale k s).purge = s.purge ∧ (becomeStale k s).laneA = s.laneA
      ∧ (becomeStale k s).laneB = s.laneB ∧ (∀ m, (becomeStale k s).lane m = s.lane m) := by
  simp [becomeStale]

/-! ## The Finishing Unit's arbiter and stages -/

@[simp] theorem setUnit_frame (u : UnitState) (s : State) :
    (setUnit u s).now = s.now ∧ (setUnit u s).stamp = s.stamp ∧ (setUnit u s).tables = s.tables
      ∧ (setUnit u s).settings = s.settings ∧ (setUnit u s).pending = s.pending
      ∧ (setUnit u s).actions = s.actions ∧ (setUnit u s).bins = s.bins ∧ (setUnit u s).queued = s.queued
      ∧ (setUnit u s).held = s.held ∧ (setUnit u s).unplaced = s.unplaced ∧ (setUnit u s).packets = s.packets
      ∧ (setUnit u s).slots = s.slots ∧ (setUnit u s).classes = s.classes ∧ (setUnit u s).tray = s.tray
      ∧ (setUnit u s).flags = s.flags ∧ (setUnit u s).purge = s.purge ∧ (setUnit u s).laneA = s.laneA
      ∧ (setUnit u s).laneB = s.laneB ∧ (∀ m, (setUnit u s).lane m = s.lane m)
      ∧ (∀ m, (setUnit u s).link m = s.link m) := by
  simp [setUnit]

@[simp] theorem setCurrent_frame (c : Option Current) (s : State) :
    (setCurrent c s).now = s.now ∧ (setCurrent c s).stamp = s.stamp ∧ (setCurrent c s).tables = s.tables
      ∧ (setCurrent c s).settings = s.settings ∧ (setCurrent c s).pending = s.pending
      ∧ (setCurrent c s).actions = s.actions ∧ (setCurrent c s).bins = s.bins
      ∧ (setCurrent c s).queued = s.queued ∧ (setCurrent c s).held = s.held
      ∧ (setCurrent c s).unplaced = s.unplaced ∧ (setCurrent c s).packets = s.packets
      ∧ (setCurrent c s).slots = s.slots ∧ (setCurrent c s).classes = s.classes ∧ (setCurrent c s).tray = s.tray
      ∧ (setCurrent c s).flags = s.flags ∧ (setCurrent c s).purge = s.purge ∧ (setCurrent c s).laneA = s.laneA
      ∧ (setCurrent c s).laneB = s.laneB ∧ (∀ m, (setCurrent c s).lane m = s.lane m)
      ∧ (∀ m, (setCurrent c s).link m = s.link m) := by
  simp [setCurrent]

@[simp] theorem setSupply_frame (n : Nat) (s : State) :
    (setSupply n s).now = s.now ∧ (setSupply n s).stamp = s.stamp ∧ (setSupply n s).tables = s.tables
      ∧ (setSupply n s).settings = s.settings ∧ (setSupply n s).pending = s.pending
      ∧ (setSupply n s).actions = s.actions ∧ (setSupply n s).bins = s.bins ∧ (setSupply n s).queued = s.queued
      ∧ (setSupply n s).held = s.held ∧ (setSupply n s).unplaced = s.unplaced
      ∧ (setSupply n s).packets = s.packets ∧ (setSupply n s).slots = s.slots
      ∧ (setSupply n s).classes = s.classes ∧ (setSupply n s).tray = s.tray ∧ (setSupply n s).flags = s.flags
      ∧ (setSupply n s).purge = s.purge ∧ (setSupply n s).laneA = s.laneA ∧ (setSupply n s).laneB = s.laneB
      ∧ (∀ m, (setSupply n s).lane m = s.lane m) ∧ (∀ m, (setSupply n s).link m = s.link m) := by
  simp [setSupply]

@[simp] theorem stopStageTimer_frame (s : State) :
    (stopStageTimer s).now = s.now ∧ (stopStageTimer s).stamp = s.stamp ∧ (stopStageTimer s).tables = s.tables
      ∧ (stopStageTimer s).settings = s.settings ∧ (stopStageTimer s).pending = s.pending
      ∧ (stopStageTimer s).actions = s.actions ∧ (stopStageTimer s).bins = s.bins
      ∧ (stopStageTimer s).queued = s.queued ∧ (stopStageTimer s).held = s.held
      ∧ (stopStageTimer s).unplaced = s.unplaced ∧ (stopStageTimer s).packets = s.packets
      ∧ (stopStageTimer s).slots = s.slots ∧ (stopStageTimer s).classes = s.classes
      ∧ (stopStageTimer s).tray = s.tray ∧ (stopStageTimer s).flags = s.flags
      ∧ (stopStageTimer s).purge = s.purge ∧ (stopStageTimer s).laneA = s.laneA
      ∧ (stopStageTimer s).laneB = s.laneB ∧ (∀ m, (stopStageTimer s).lane m = s.lane m)
      ∧ (∀ m, (stopStageTimer s).link m = s.link m) := by
  simp [stopStageTimer]

@[simp] theorem startStage_frame (g : Stage) (s : State) :
    (startStage g s).now = s.now ∧ (startStage g s).stamp = s.stamp ∧ (startStage g s).tables = s.tables
      ∧ (startStage g s).settings = s.settings ∧ (startStage g s).pending = s.pending
      ∧ (startStage g s).actions = s.actions ∧ (startStage g s).bins = s.bins
      ∧ (startStage g s).queued = s.queued ∧ (startStage g s).held = s.held
      ∧ (startStage g s).unplaced = s.unplaced ∧ (startStage g s).packets = s.packets
      ∧ (startStage g s).slots = s.slots ∧ (startStage g s).classes = s.classes ∧ (startStage g s).tray = s.tray
      ∧ (startStage g s).flags = s.flags ∧ (startStage g s).purge = s.purge ∧ (startStage g s).laneA = s.laneA
      ∧ (startStage g s).laneB = s.laneB ∧ (∀ m, (startStage g s).lane m = s.lane m)
      ∧ (∀ m, (startStage g s).link m = s.link m) := by
  simp [startStage]

@[simp] theorem enterTransfer_frame (k : Key) (s : State) :
    (enterTransfer k s).now = s.now ∧ (enterTransfer k s).stamp = s.stamp
      ∧ (enterTransfer k s).tables = s.tables ∧ (enterTransfer k s).settings = s.settings
      ∧ (enterTransfer k s).pending = s.pending ∧ (enterTransfer k s).bins = s.bins
      ∧ (enterTransfer k s).queued = s.queued ∧ (enterTransfer k s).held = s.held
      ∧ (enterTransfer k s).unplaced = s.unplaced ∧ (enterTransfer k s).packets = s.packets
      ∧ (enterTransfer k s).slots = s.slots ∧ (enterTransfer k s).classes = s.classes
      ∧ (enterTransfer k s).tray = s.tray ∧ (enterTransfer k s).flags = s.flags
      ∧ (enterTransfer k s).purge = s.purge ∧ (enterTransfer k s).laneA = s.laneA
      ∧ (enterTransfer k s).laneB = s.laneB ∧ (∀ m, (enterTransfer k s).lane m = s.lane m)
      ∧ (∀ m, (enterTransfer k s).link m = s.link m) := by
  unfold enterTransfer
  split <;> simp

@[simp] theorem enterJog_frame (s : State) :
    (enterJog s).now = s.now ∧ (enterJog s).stamp = s.stamp ∧ (enterJog s).tables = s.tables
      ∧ (enterJog s).settings = s.settings ∧ (enterJog s).pending = s.pending ∧ (enterJog s).bins = s.bins
      ∧ (enterJog s).queued = s.queued ∧ (enterJog s).held = s.held ∧ (enterJog s).unplaced = s.unplaced
      ∧ (enterJog s).packets = s.packets ∧ (enterJog s).slots = s.slots ∧ (enterJog s).classes = s.classes
      ∧ (enterJog s).tray = s.tray ∧ (enterJog s).flags = s.flags ∧ (enterJog s).purge = s.purge
      ∧ (enterJog s).laneA = s.laneA ∧ (enterJog s).laneB = s.laneB ∧ (∀ m, (enterJog s).lane m = s.lane m)
      ∧ (∀ m, (enterJog s).link m = s.link m) := by
  simp [enterJog]

@[simp] theorem fireStaple_frame (c : Current) (s : State) :
    (fireStaple c s).now = s.now ∧ (fireStaple c s).stamp = s.stamp ∧ (fireStaple c s).tables = s.tables
      ∧ (fireStaple c s).settings = s.settings ∧ (fireStaple c s).pending = s.pending
      ∧ (fireStaple c s).bins = s.bins ∧ (fireStaple c s).queued = s.queued ∧ (fireStaple c s).held = s.held
      ∧ (fireStaple c s).unplaced = s.unplaced ∧ (fireStaple c s).packets = s.packets
      ∧ (fireStaple c s).slots = s.slots ∧ (fireStaple c s).classes = s.classes ∧ (fireStaple c s).tray = s.tray
      ∧ (fireStaple c s).flags = s.flags ∧ (fireStaple c s).purge = s.purge ∧ (fireStaple c s).laneA = s.laneA
      ∧ (fireStaple c s).laneB = s.laneB ∧ (∀ m, (fireStaple c s).lane m = s.lane m)
      ∧ (∀ m, (fireStaple c s).link m = s.link m) := by
  unfold fireStaple
  split <;> simp

@[simp] theorem enterEject_frame (c : Current) (s : State) :
    (enterEject c s).now = s.now ∧ (enterEject c s).stamp = s.stamp ∧ (enterEject c s).tables = s.tables
      ∧ (enterEject c s).settings = s.settings ∧ (enterEject c s).pending = s.pending
      ∧ (enterEject c s).bins = s.bins ∧ (enterEject c s).queued = s.queued ∧ (enterEject c s).held = s.held
      ∧ (enterEject c s).unplaced = s.unplaced ∧ (enterEject c s).packets = s.packets
      ∧ (enterEject c s).slots = s.slots ∧ (enterEject c s).classes = s.classes ∧ (enterEject c s).tray = s.tray
      ∧ (enterEject c s).flags = s.flags ∧ (enterEject c s).purge = s.purge ∧ (enterEject c s).laneA = s.laneA
      ∧ (enterEject c s).laneB = s.laneB ∧ (∀ m, (enterEject c s).lane m = s.lane m)
      ∧ (∀ m, (enterEject c s).link m = s.link m) := by
  simp [enterEject]

@[simp] theorem reserve_frame (t : Target) (u : Nat) (s : State) :
    (reserve t u s).now = s.now ∧ (reserve t u s).stamp = s.stamp ∧ (reserve t u s).tables = s.tables
      ∧ (reserve t u s).settings = s.settings ∧ (reserve t u s).pending = s.pending
      ∧ (reserve t u s).actions = s.actions ∧ (reserve t u s).fin = s.fin ∧ (reserve t u s).queued = s.queued
      ∧ (reserve t u s).held = s.held ∧ (reserve t u s).unplaced = s.unplaced
      ∧ (reserve t u s).packets = s.packets ∧ (reserve t u s).slots = s.slots
      ∧ (reserve t u s).classes = s.classes ∧ (reserve t u s).tray = s.tray ∧ (reserve t u s).flags = s.flags
      ∧ (reserve t u s).purge = s.purge ∧ (reserve t u s).laneA = s.laneA ∧ (reserve t u s).laneB = s.laneB
      ∧ (∀ m, (reserve t u s).lane m = s.lane m) ∧ (∀ m, (reserve t u s).link m = s.link m) := by
  unfold reserve
  split <;> simp

@[simp] theorem unreserve_frame (t : Target) (u : Nat) (s : State) :
    (unreserve t u s).now = s.now ∧ (unreserve t u s).stamp = s.stamp ∧ (unreserve t u s).tables = s.tables
      ∧ (unreserve t u s).settings = s.settings ∧ (unreserve t u s).pending = s.pending
      ∧ (unreserve t u s).actions = s.actions ∧ (unreserve t u s).fin = s.fin
      ∧ (unreserve t u s).queued = s.queued ∧ (unreserve t u s).held = s.held
      ∧ (unreserve t u s).unplaced = s.unplaced ∧ (unreserve t u s).packets = s.packets
      ∧ (unreserve t u s).slots = s.slots ∧ (unreserve t u s).classes = s.classes
      ∧ (unreserve t u s).tray = s.tray ∧ (unreserve t u s).flags = s.flags ∧ (unreserve t u s).purge = s.purge
      ∧ (unreserve t u s).laneA = s.laneA ∧ (unreserve t u s).laneB = s.laneB
      ∧ (∀ m, (unreserve t u s).lane m = s.lane m) ∧ (∀ m, (unreserve t u s).link m = s.link m) := by
  unfold unreserve
  split <;> simp

@[simp] theorem takePacket_frame (k : Key) (t : Target) (b : Budget) (s : State) :
    (takePacket k t b s).now = s.now ∧ (takePacket k t b s).stamp = s.stamp
      ∧ (takePacket k t b s).tables = s.tables ∧ (takePacket k t b s).settings = s.settings
      ∧ (takePacket k t b s).pending = s.pending ∧ (takePacket k t b s).unplaced = s.unplaced
      ∧ (takePacket k t b s).tray = s.tray ∧ (takePacket k t b s).purge = s.purge
      ∧ (takePacket k t b s).laneA = s.laneA ∧ (takePacket k t b s).laneB = s.laneB
      ∧ (∀ m, (takePacket k t b s).lane m = s.lane m) := by
  unfold takePacket
  dsimp only
  split <;> simp

@[simp] theorem selectFrom_frame (qs : List Queued) (s : State) :
    (selectFrom qs s).now = s.now ∧ (selectFrom qs s).stamp = s.stamp ∧ (selectFrom qs s).tables = s.tables
      ∧ (selectFrom qs s).settings = s.settings ∧ (selectFrom qs s).pending = s.pending
      ∧ (selectFrom qs s).unplaced = s.unplaced ∧ (selectFrom qs s).tray = s.tray
      ∧ (selectFrom qs s).purge = s.purge ∧ (selectFrom qs s).laneA = s.laneA
      ∧ (selectFrom qs s).laneB = s.laneB ∧ (∀ m, (selectFrom qs s).lane m = s.lane m) := by
  induction qs generalizing s with
  | nil => simp [selectFrom]
  | cons q rest ih =>
    unfold selectFrom
    split <;> simp [ih]

@[simp] theorem selectionPass_frame (s : State) :
    (selectionPass s).now = s.now ∧ (selectionPass s).stamp = s.stamp ∧ (selectionPass s).tables = s.tables
      ∧ (selectionPass s).settings = s.settings ∧ (selectionPass s).pending = s.pending
      ∧ (selectionPass s).unplaced = s.unplaced ∧ (selectionPass s).tray = s.tray
      ∧ (selectionPass s).purge = s.purge ∧ (selectionPass s).laneA = s.laneA
      ∧ (selectionPass s).laneB = s.laneB ∧ (∀ m, (selectionPass s).lane m = s.lane m) := by
  unfold selectionPass
  split <;> simp

/-! ## The end of an event -/

@[simp] theorem purgeLaneEnd_frame (l : Lane) (s : State) :
    (purgeLaneEnd l s).now = s.now ∧ (purgeLaneEnd l s).stamp = s.stamp ∧ (purgeLaneEnd l s).tables = s.tables
      ∧ (purgeLaneEnd l s).settings = s.settings ∧ (purgeLaneEnd l s).pending = s.pending
      ∧ (purgeLaneEnd l s).actions = s.actions ∧ (purgeLaneEnd l s).bins = s.bins
      ∧ (purgeLaneEnd l s).fin = s.fin ∧ (purgeLaneEnd l s).queued = s.queued ∧ (purgeLaneEnd l s).held = s.held
      ∧ (purgeLaneEnd l s).unplaced = s.unplaced ∧ (purgeLaneEnd l s).packets = s.packets
      ∧ (purgeLaneEnd l s).slots = s.slots ∧ (purgeLaneEnd l s).classes = s.classes
      ∧ (purgeLaneEnd l s).tray = s.tray ∧ (purgeLaneEnd l s).flags = s.flags
      ∧ (purgeLaneEnd l s).purge = s.purge := by
  simp [purgeLaneEnd]

@[simp] theorem purgeTest_frame (s : State) :
    (purgeTest s).now = s.now ∧ (purgeTest s).stamp = s.stamp ∧ (purgeTest s).tables = s.tables
      ∧ (purgeTest s).settings = s.settings ∧ (purgeTest s).pending = s.pending
      ∧ (purgeTest s).actions = s.actions ∧ (purgeTest s).bins = s.bins ∧ (purgeTest s).fin = s.fin
      ∧ (purgeTest s).queued = s.queued ∧ (purgeTest s).held = s.held ∧ (purgeTest s).unplaced = s.unplaced
      ∧ (purgeTest s).packets = s.packets ∧ (purgeTest s).slots = s.slots ∧ (purgeTest s).classes = s.classes
      ∧ (purgeTest s).tray = s.tray ∧ (purgeTest s).flags = s.flags := by
  unfold purgeTest
  (repeat' split) <;> simp

@[simp] theorem endEvent_frame (s0 : State) (o : Occasion) (s : State) :
    (endEvent s0 o s).now = s.now ∧ (endEvent s0 o s).stamp = s.stamp ∧ (endEvent s0 o s).tables = s.tables
      ∧ (endEvent s0 o s).settings = s.settings ∧ (endEvent s0 o s).pending = s.pending
      ∧ (endEvent s0 o s).unplaced = s.unplaced ∧ (endEvent s0 o s).tray = s.tray := by
  unfold endEvent
  dsimp only
  (repeat' split) <;> simp

/-! ## The Lane Units -/

@[simp] theorem divertSheet_frame (l : Lane) (r : Reason) (e : Option Entry) (s : State) :
    (divertSheet l r e s).now = s.now ∧ (divertSheet l r e s).stamp = s.stamp
      ∧ (divertSheet l r e s).tables = s.tables ∧ (divertSheet l r e s).settings = s.settings
      ∧ (divertSheet l r e s).pending = s.pending ∧ (divertSheet l r e s).bins = s.bins
      ∧ (divertSheet l r e s).fin = s.fin ∧ (divertSheet l r e s).queued = s.queued
      ∧ (divertSheet l r e s).held = s.held ∧ (divertSheet l r e s).unplaced = s.unplaced
      ∧ (divertSheet l r e s).packets = s.packets ∧ (divertSheet l r e s).slots = s.slots
      ∧ (divertSheet l r e s).classes = s.classes ∧ (divertSheet l r e s).purge = s.purge := by
  simp [divertSheet]

@[simp] theorem placeSheet_frame (l : Lane) (e : Entry) (n : Fin 24) (p : Packet) (s : State) :
    (placeSheet l e n p s).now = s.now ∧ (placeSheet l e n p s).stamp = s.stamp
      ∧ (placeSheet l e n p s).tables = s.tables ∧ (placeSheet l e n p s).settings = s.settings
      ∧ (placeSheet l e n p s).pending = s.pending ∧ (placeSheet l e n p s).bins = s.bins
      ∧ (placeSheet l e n p s).fin = s.fin ∧ (placeSheet l e n p s).purge = s.purge := by
  unfold placeSheet
  dsimp only
  (repeat' split) <;> simp

@[simp] theorem arrivePlaced_frame (l : Lane) (e : Entry) (n : Fin 24) (s : State) :
    (arrivePlaced l e n s).now = s.now ∧ (arrivePlaced l e n s).stamp = s.stamp
      ∧ (arrivePlaced l e n s).tables = s.tables ∧ (arrivePlaced l e n s).settings = s.settings
      ∧ (arrivePlaced l e n s).pending = s.pending ∧ (arrivePlaced l e n s).bins = s.bins
      ∧ (arrivePlaced l e n s).fin = s.fin ∧ (arrivePlaced l e n s).purge = s.purge := by
  unfold arrivePlaced
  (repeat' split) <;> simp

@[simp] theorem arrive_frame (l : Lane) (e : Entry) (s : State) :
    (arrive l e s).now = s.now ∧ (arrive l e s).stamp = s.stamp ∧ (arrive l e s).tables = s.tables
      ∧ (arrive l e s).settings = s.settings ∧ (arrive l e s).pending = s.pending ∧ (arrive l e s).bins = s.bins
      ∧ (arrive l e s).fin = s.fin ∧ (arrive l e s).purge = s.purge := by
  unfold arrive
  dsimp only
  (repeat' split) <;> simp

@[simp] theorem arriveHead_frame (l : Lane) (e : Entry) (rest : List Entry) (s : State) :
    (arriveHead l e rest s).now = s.now ∧ (arriveHead l e rest s).stamp = s.stamp
      ∧ (arriveHead l e rest s).tables = s.tables ∧ (arriveHead l e rest s).settings = s.settings
      ∧ (arriveHead l e rest s).pending = s.pending ∧ (arriveHead l e rest s).bins = s.bins
      ∧ (arriveHead l e rest s).fin = s.fin ∧ (arriveHead l e rest s).purge = s.purge := by
  unfold arriveHead
  dsimp only
  split <;> simp

@[simp] theorem appendEntry_frame (l : Lane) (x : Announcement) (v : Verdict) (s : State) :
    (appendEntry l x v s).now = s.now ∧ (appendEntry l x v s).stamp = s.stamp
      ∧ (appendEntry l x v s).tables = s.tables ∧ (appendEntry l x v s).settings = s.settings
      ∧ (appendEntry l x v s).pending = s.pending ∧ (appendEntry l x v s).actions = s.actions
      ∧ (appendEntry l x v s).bins = s.bins ∧ (appendEntry l x v s).fin = s.fin
      ∧ (appendEntry l x v s).queued = s.queued ∧ (appendEntry l x v s).held = s.held
      ∧ (appendEntry l x v s).unplaced = s.unplaced ∧ (appendEntry l x v s).packets = s.packets
      ∧ (appendEntry l x v s).slots = s.slots ∧ (appendEntry l x v s).classes = s.classes
      ∧ (appendEntry l x v s).tray = s.tray ∧ (appendEntry l x v s).flags = s.flags
      ∧ (appendEntry l x v s).purge = s.purge := by
  simp [appendEntry]

@[simp] theorem discardEffect_frame (l : Lane) (e : Entry) (s : State) :
    (discardEffect l e s).now = s.now ∧ (discardEffect l e s).stamp = s.stamp
      ∧ (discardEffect l e s).tables = s.tables ∧ (discardEffect l e s).settings = s.settings
      ∧ (discardEffect l e s).pending = s.pending ∧ (discardEffect l e s).actions = s.actions
      ∧ (discardEffect l e s).bins = s.bins ∧ (discardEffect l e s).fin = s.fin
      ∧ (discardEffect l e s).tray = s.tray ∧ (discardEffect l e s).purge = s.purge := by
  unfold discardEffect
  (repeat' split) <;> simp

@[simp] theorem discardEntries_frame (l : Lane) (fuel : Nat) (s : State) :
    (discardEntries l fuel s).now = s.now ∧ (discardEntries l fuel s).stamp = s.stamp
      ∧ (discardEntries l fuel s).tables = s.tables ∧ (discardEntries l fuel s).settings = s.settings
      ∧ (discardEntries l fuel s).pending = s.pending ∧ (discardEntries l fuel s).actions = s.actions
      ∧ (discardEntries l fuel s).bins = s.bins ∧ (discardEntries l fuel s).fin = s.fin
      ∧ (discardEntries l fuel s).tray = s.tray ∧ (discardEntries l fuel s).purge = s.purge := by
  induction fuel generalizing s with
  | zero => simp [discardEntries]
  | succ fuel ih =>
    unfold discardEntries
    split <;> simp [ih]

@[simp] theorem clearLane_frame (l : Lane) (s : State) :
    (clearLane l s).now = s.now ∧ (clearLane l s).stamp = s.stamp ∧ (clearLane l s).tables = s.tables
      ∧ (clearLane l s).settings = s.settings ∧ (clearLane l s).pending = s.pending
      ∧ (clearLane l s).actions = s.actions ∧ (clearLane l s).bins = s.bins ∧ (clearLane l s).fin = s.fin
      ∧ (clearLane l s).tray = s.tray ∧ (clearLane l s).purge = s.purge := by
  simp [clearLane]

/-! ## The remaining blocks -/

@[simp] theorem reopenDone_frame (mk : RosterMark) (c : Nat) (s : State) :
    (reopenDone mk c s).now = s.now ∧ (reopenDone mk c s).stamp = s.stamp
      ∧ (reopenDone mk c s).tables = s.tables ∧ (reopenDone mk c s).settings = s.settings
      ∧ (reopenDone mk c s).pending = s.pending ∧ (reopenDone mk c s).actions = s.actions
      ∧ (reopenDone mk c s).bins = s.bins ∧ (reopenDone mk c s).fin = s.fin
      ∧ (reopenDone mk c s).queued = s.queued ∧ (reopenDone mk c s).held = s.held
      ∧ (reopenDone mk c s).unplaced = s.unplaced ∧ (reopenDone mk c s).packets = s.packets
      ∧ (reopenDone mk c s).slots = s.slots ∧ (reopenDone mk c s).tray = s.tray
      ∧ (reopenDone mk c s).flags = s.flags ∧ (reopenDone mk c s).purge = s.purge
      ∧ (reopenDone mk c s).laneA = s.laneA ∧ (reopenDone mk c s).laneB = s.laneB
      ∧ (∀ m, (reopenDone mk c s).lane m = s.lane m) ∧ (∀ m, (reopenDone mk c s).link m = s.link m) := by
  unfold reopenDone
  split <;> simp

@[simp] theorem closeClass_frame (c : Nat) (s : State) :
    (closeClass c s).now = s.now ∧ (closeClass c s).stamp = s.stamp ∧ (closeClass c s).tables = s.tables
      ∧ (closeClass c s).settings = s.settings ∧ (closeClass c s).pending = s.pending
      ∧ (closeClass c s).actions = s.actions ∧ (closeClass c s).bins = s.bins ∧ (closeClass c s).fin = s.fin
      ∧ (closeClass c s).queued = s.queued ∧ (closeClass c s).held = s.held
      ∧ (closeClass c s).packets = s.packets ∧ (closeClass c s).slots = s.slots ∧ (closeClass c s).tray = s.tray
      ∧ (closeClass c s).flags = s.flags ∧ (closeClass c s).purge = s.purge := by
  simp [closeClass]

@[simp] theorem applySettings_frame (t : Settings) (s : State) :
    (applySettings t s).now = s.now ∧ (applySettings t s).stamp = s.stamp
      ∧ (applySettings t s).pending = s.pending ∧ (applySettings t s).actions = s.actions
      ∧ (applySettings t s).bins = s.bins ∧ (applySettings t s).queued = s.queued
      ∧ (applySettings t s).held = s.held ∧ (applySettings t s).unplaced = s.unplaced
      ∧ (applySettings t s).packets = s.packets ∧ (applySettings t s).slots = s.slots
      ∧ (applySettings t s).classes = s.classes ∧ (applySettings t s).tray = s.tray
      ∧ (applySettings t s).purge = s.purge := by
  unfold applySettings
  dsimp only
  (repeat' split) <;> simp

@[simp] theorem commit_frame (c : Current) (p : Packet) (s : State) :
    (commit c p s).now = s.now ∧ (commit c p s).stamp = s.stamp ∧ (commit c p s).tables = s.tables
      ∧ (commit c p s).settings = s.settings ∧ (commit c p s).pending = s.pending
      ∧ (commit c p s).actions = s.actions ∧ (commit c p s).fin = s.fin ∧ (commit c p s).queued = s.queued
      ∧ (commit c p s).held = s.held ∧ (commit c p s).unplaced = s.unplaced ∧ (commit c p s).packets = s.packets
      ∧ (commit c p s).slots = s.slots ∧ (commit c p s).classes = s.classes ∧ (commit c p s).purge = s.purge := by
  unfold commit
  split <;> simp

@[simp] theorem flipJogSide_frame (c : Current) (p : Packet) (s : State) :
    (flipJogSide c p s).now = s.now ∧ (flipJogSide c p s).stamp = s.stamp
      ∧ (flipJogSide c p s).tables = s.tables ∧ (flipJogSide c p s).settings = s.settings
      ∧ (flipJogSide c p s).pending = s.pending ∧ (flipJogSide c p s).actions = s.actions
      ∧ (flipJogSide c p s).fin = s.fin ∧ (flipJogSide c p s).queued = s.queued
      ∧ (flipJogSide c p s).held = s.held ∧ (flipJogSide c p s).unplaced = s.unplaced
      ∧ (flipJogSide c p s).packets = s.packets ∧ (flipJogSide c p s).slots = s.slots
      ∧ (flipJogSide c p s).classes = s.classes ∧ (flipJogSide c p s).tray = s.tray
      ∧ (flipJogSide c p s).flags = s.flags ∧ (flipJogSide c p s).purge = s.purge
      ∧ (flipJogSide c p s).laneA = s.laneA ∧ (flipJogSide c p s).laneB = s.laneB
      ∧ (∀ m, (flipJogSide c p s).lane m = s.lane m) ∧ (∀ m, (flipJogSide c p s).link m = s.link m) := by
  unfold flipJogSide
  (repeat' split) <;> simp

@[simp] theorem endRank_frame (k : Key) (x : RankState) (s : State) :
    (endRank k x s).now = s.now ∧ (endRank k x s).stamp = s.stamp ∧ (endRank k x s).tables = s.tables
      ∧ (endRank k x s).settings = s.settings ∧ (endRank k x s).pending = s.pending
      ∧ (endRank k x s).actions = s.actions ∧ (endRank k x s).bins = s.bins ∧ (endRank k x s).fin = s.fin
      ∧ (endRank k x s).queued = s.queued ∧ (endRank k x s).held = s.held
      ∧ (endRank k x s).unplaced = s.unplaced ∧ (endRank k x s).packets = s.packets
      ∧ (endRank k x s).slots = s.slots ∧ (endRank k x s).tray = s.tray ∧ (endRank k x s).flags = s.flags
      ∧ (endRank k x s).purge = s.purge ∧ (endRank k x s).laneA = s.laneA ∧ (endRank k x s).laneB = s.laneB
      ∧ (∀ m, (endRank k x s).lane m = s.lane m) ∧ (∀ m, (endRank k x s).link m = s.link m) := by
  unfold endRank
  split <;> simp

@[simp] theorem freeUnit_frame (b : Bool) (s : State) :
    (freeUnit b s).now = s.now ∧ (freeUnit b s).stamp = s.stamp ∧ (freeUnit b s).tables = s.tables
      ∧ (freeUnit b s).settings = s.settings ∧ (freeUnit b s).pending = s.pending
      ∧ (freeUnit b s).actions = s.actions ∧ (freeUnit b s).bins = s.bins ∧ (freeUnit b s).queued = s.queued
      ∧ (freeUnit b s).held = s.held ∧ (freeUnit b s).unplaced = s.unplaced ∧ (freeUnit b s).packets = s.packets
      ∧ (freeUnit b s).slots = s.slots ∧ (freeUnit b s).classes = s.classes ∧ (freeUnit b s).tray = s.tray
      ∧ (freeUnit b s).flags = s.flags ∧ (freeUnit b s).purge = s.purge ∧ (freeUnit b s).laneA = s.laneA
      ∧ (freeUnit b s).laneB = s.laneB ∧ (∀ m, (freeUnit b s).lane m = s.lane m)
      ∧ (∀ m, (freeUnit b s).link m = s.link m) := by
  simp [freeUnit]

@[simp] theorem enterUnitFault_frame (c : UnitCause) (s : State) :
    (enterUnitFault c s).now = s.now ∧ (enterUnitFault c s).stamp = s.stamp
      ∧ (enterUnitFault c s).tables = s.tables ∧ (enterUnitFault c s).settings = s.settings
      ∧ (enterUnitFault c s).pending = s.pending ∧ (enterUnitFault c s).actions = s.actions
      ∧ (enterUnitFault c s).bins = s.bins ∧ (enterUnitFault c s).queued = s.queued
      ∧ (enterUnitFault c s).held = s.held ∧ (enterUnitFault c s).unplaced = s.unplaced
      ∧ (enterUnitFault c s).packets = s.packets ∧ (enterUnitFault c s).slots = s.slots
      ∧ (enterUnitFault c s).classes = s.classes ∧ (enterUnitFault c s).tray = s.tray
      ∧ (enterUnitFault c s).purge = s.purge ∧ (enterUnitFault c s).laneA = s.laneA
      ∧ (enterUnitFault c s).laneB = s.laneB ∧ (∀ m, (enterUnitFault c s).lane m = s.lane m)
      ∧ (∀ m, (enterUnitFault c s).link m = s.link m) := by
  simp [enterUnitFault]

@[simp] theorem retryUnit_frame (b : Bool) (g : Stage) (s : State) :
    (retryUnit b g s).now = s.now ∧ (retryUnit b g s).stamp = s.stamp ∧ (retryUnit b g s).tables = s.tables
      ∧ (retryUnit b g s).settings = s.settings ∧ (retryUnit b g s).pending = s.pending
      ∧ (retryUnit b g s).actions = s.actions ∧ (retryUnit b g s).bins = s.bins
      ∧ (retryUnit b g s).queued = s.queued ∧ (retryUnit b g s).held = s.held
      ∧ (retryUnit b g s).unplaced = s.unplaced ∧ (retryUnit b g s).packets = s.packets
      ∧ (retryUnit b g s).slots = s.slots ∧ (retryUnit b g s).classes = s.classes
      ∧ (retryUnit b g s).tray = s.tray ∧ (retryUnit b g s).flags = s.flags ∧ (retryUnit b g s).purge = s.purge
      ∧ (retryUnit b g s).laneA = s.laneA ∧ (retryUnit b g s).laneB = s.laneB
      ∧ (∀ m, (retryUnit b g s).lane m = s.lane m) ∧ (∀ m, (retryUnit b g s).link m = s.link m) := by
  simp [retryUnit]

@[simp] theorem retryPacket_frame (b : Bool) (c : Current) (s : State) :
    (retryPacket b c s).now = s.now ∧ (retryPacket b c s).stamp = s.stamp
      ∧ (retryPacket b c s).tables = s.tables ∧ (retryPacket b c s).settings = s.settings
      ∧ (retryPacket b c s).pending = s.pending ∧ (retryPacket b c s).bins = s.bins
      ∧ (retryPacket b c s).queued = s.queued ∧ (retryPacket b c s).held = s.held
      ∧ (retryPacket b c s).unplaced = s.unplaced ∧ (retryPacket b c s).packets = s.packets
      ∧ (retryPacket b c s).slots = s.slots ∧ (retryPacket b c s).classes = s.classes
      ∧ (retryPacket b c s).tray = s.tray ∧ (retryPacket b c s).flags = s.flags
      ∧ (retryPacket b c s).purge = s.purge ∧ (retryPacket b c s).laneA = s.laneA
      ∧ (retryPacket b c s).laneB = s.laneB ∧ (∀ m, (retryPacket b c s).lane m = s.lane m)
      ∧ (∀ m, (retryPacket b c s).link m = s.link m) := by
  unfold retryPacket
  split <;> simp

@[simp] theorem removeCurrent_frame (b : Bool) (c : Current) (p : Packet) (s : State) :
    (removeCurrent b c p s).now = s.now ∧ (removeCurrent b c p s).stamp = s.stamp
      ∧ (removeCurrent b c p s).tables = s.tables ∧ (removeCurrent b c p s).settings = s.settings
      ∧ (removeCurrent b c p s).pending = s.pending ∧ (removeCurrent b c p s).actions = s.actions
      ∧ (removeCurrent b c p s).tray = s.tray ∧ (removeCurrent b c p s).purge = s.purge := by
  simp [removeCurrent]

@[simp] theorem purgeLaneStart_frame (l : Lane) (s : State) :
    (purgeLaneStart l s).now = s.now ∧ (purgeLaneStart l s).stamp = s.stamp
      ∧ (purgeLaneStart l s).tables = s.tables ∧ (purgeLaneStart l s).settings = s.settings
      ∧ (purgeLaneStart l s).pending = s.pending ∧ (purgeLaneStart l s).actions = s.actions
      ∧ (purgeLaneStart l s).bins = s.bins ∧ (purgeLaneStart l s).fin = s.fin
      ∧ (purgeLaneStart l s).queued = s.queued ∧ (purgeLaneStart l s).held = s.held
      ∧ (purgeLaneStart l s).unplaced = s.unplaced ∧ (purgeLaneStart l s).packets = s.packets
      ∧ (purgeLaneStart l s).slots = s.slots ∧ (purgeLaneStart l s).classes = s.classes
      ∧ (purgeLaneStart l s).tray = s.tray ∧ (purgeLaneStart l s).flags = s.flags
      ∧ (purgeLaneStart l s).purge = s.purge := by
  simp [purgeLaneStart]

@[simp] theorem dumpPacket_frame (n : Fin 24) (p : Packet) (s : State) :
    (dumpPacket n p s).now = s.now ∧ (dumpPacket n p s).stamp = s.stamp ∧ (dumpPacket n p s).tables = s.tables
      ∧ (dumpPacket n p s).settings = s.settings ∧ (dumpPacket n p s).pending = s.pending
      ∧ (dumpPacket n p s).bins = s.bins ∧ (dumpPacket n p s).fin = s.fin ∧ (dumpPacket n p s).purge = s.purge := by
  simp [dumpPacket]

@[simp] theorem dumpSlot_frame (n : Fin 24) (s : State) :
    (dumpSlot s n).now = s.now ∧ (dumpSlot s n).stamp = s.stamp ∧ (dumpSlot s n).tables = s.tables
      ∧ (dumpSlot s n).settings = s.settings ∧ (dumpSlot s n).pending = s.pending ∧ (dumpSlot s n).bins = s.bins
      ∧ (dumpSlot s n).fin = s.fin ∧ (dumpSlot s n).purge = s.purge := by
  unfold dumpSlot
  (repeat' split) <;> simp

@[simp] theorem purgeTower_frame (s : State) :
    (purgeTower s).now = s.now ∧ (purgeTower s).stamp = s.stamp ∧ (purgeTower s).tables = s.tables
      ∧ (purgeTower s).settings = s.settings ∧ (purgeTower s).pending = s.pending ∧ (purgeTower s).bins = s.bins
      ∧ (purgeTower s).fin = s.fin ∧ (purgeTower s).purge = s.purge := by
  unfold purgeTower
  have h : ∀ (ns : List (Fin 24)) (s : State), (
    (ns.foldl dumpSlot s).now = s.now ∧ (ns.foldl dumpSlot s).stamp = s.stamp
      ∧ (ns.foldl dumpSlot s).tables = s.tables ∧ (ns.foldl dumpSlot s).settings = s.settings
      ∧ (ns.foldl dumpSlot s).pending = s.pending ∧ (ns.foldl dumpSlot s).bins = s.bins
      ∧ (ns.foldl dumpSlot s).fin = s.fin ∧ (ns.foldl dumpSlot s).purge = s.purge) := by
    intro ns
    induction ns with
    | nil => intro s; simp
    | cons n ns ih => intro s; simp [ih]
  simp [h]

end Sys2Proof.Machine
end

