-- ==== Sys2Proof/Laws/Ops.lean ====
section
/-! SUPPORT. What the shared operations do, said once: a record read after it has been written, the packet map by key, a raised
cause, an evaluation of hold conditions, an exam of the packet in front. -/

namespace Sys2Proof.Machine

/-! ## Ranks (R5, R76) -/

/-- A rank read after one rank of a record has been given a state. -/
theorem ClassRec.rankAt_withRank (r : ClassRec) (k j : Nat) (x : RankState) :
    (r.withRank k x).rankAt j = if j = k ∧ (r.rankAt k).isSome then some x else r.rankAt j := by
  unfold ClassRec.rankAt ClassRec.withRank
  cases hb : r.body with
  | none => simp
  | some b =>
    by_cases hj : j = k
    · subst hj
      by_cases hlt : j < b.roster.length
      · simp [hlt]
      · simp [hlt]
    · have hk : k ≠ j := fun h => hj h.symm
      simp [hj, hk]

/-- A rank of a class number above 47 has no state. -/
theorem State.rankAt_of_le {s : State} {k : Key} (h : 48 ≤ k.cls) : s.rankAt k = none := by
  simp [State.rankAt, State.classRec, finOf_of_le h, ClassRec.rankAt, ClassRec.emptyWith]

/-- A rank read after a rank has been given a state. -/
theorem rankAt_setRank (s : State) (k j : Key) (x : RankState) :
    (setRank k x s).rankAt j = if j = k ∧ (s.rankAt k).isSome then some x else s.rankAt j := by
  by_cases hc : k.cls < 48
  · unfold setRank State.rankAt
    rw [State.classRec_setClassRec]
    by_cases hj : j.cls = k.cls
    · rw [if_pos ⟨hj, hc⟩, ClassRec.rankAt_withRank, hj]
      congr 1
      cases j
      cases k
      simp_all
    · have : j ≠ k := fun e => hj (by rw [e])
      simp [hj, this]
  · have h := Nat.not_lt.mp hc
    simp [setRank, State.setClassRec, finOf_of_le h, State.rankAt_of_le h]

/-- A class read after a rank has been given a state: no field but the roster has changed. -/
theorem classRec_setRank (s : State) (k : Key) (x : RankState) (d : Nat) :
    (setRank k x s).classRec d = if d = k.cls ∧ k.cls < 48 then (s.classRec k.cls).withRank k.rank x else s.classRec d := by
  simp [setRank, State.classRec_setClassRec]

/-- A class read after a class has been given a stage. -/
theorem classRec_setClassState (s : State) (c d : Nat) (x : ClassState) :
    (setClassState c x s).classRec d = if d = c ∧ c < 48 then { s.classRec c with state := x } else s.classRec d := by
  simp [setClassState, State.classRec_setClassRec]

/-! ## The packet map (R51) -/

/-- The packet of a key read after a packet has been changed in a way that keeps its key. -/
theorem packet_updatePacket (s : State) (k j : Key) (f : Packet → Packet) (h : ∀ p, (f p).key = p.key) :
    (updatePacket k f s).packet j = if j = k then (s.packet k).map f else s.packet j := by
  unfold updatePacket State.packet
  simp only [State.setPackets_packets]
  induction s.packets with
  | nil => simp
  | cons p ps ih =>
    by_cases hp : p.key = k
    · by_cases hj : j = k
      · subst hj
        simp [hp, h]
      · have : ¬k = j := fun e => hj e.symm
        simp [hp, h, hj, this] at ih ⊢
        exact ih
    · by_cases hj : p.key = j
      · subst hj
        simp [hp]
      · simp only [List.map_cons, hp, if_false, List.find?_cons, hj, decide_false]
        exact ih

/-- The packet of a key read after a packet has left the map. -/
theorem packet_removePacket (s : State) (k j : Key) :
    (removePacket k s).packet j = if j = k then none else s.packet j := by
  unfold removePacket State.packet
  simp only [State.setPackets_packets, List.find?_filter]
  by_cases hj : j = k
  · subst hj
    simp
  · rw [if_neg hj]
    congr 1
    funext p
    by_cases hp : p.key = j
    · simp [hp, hj]
    · simp [hp]

/-- The packet of a key read after a packet has joined a map that had none of its key. -/
theorem find?_insertByKey (p : Packet) (ps : List Packet) (j : Key) (h : ps.find? (fun q => q.key = p.key) = none) :
    (insertByKey p ps).find? (fun q => q.key = j) = if j = p.key then some p else ps.find? (fun q => q.key = j) := by
  induction ps with
  | nil =>
    by_cases hj : j = p.key
    · simp [insertByKey, hj]
    · have : ¬p.key = j := fun e => hj e.symm
      simp [insertByKey, hj, this]
  | cons q qs ih =>
    have hq : q.key ≠ p.key := by
      intro e
      simp [e] at h
    have h' : qs.find? (fun q => q.key = p.key) = none := by simpa [hq] using h
    unfold insertByKey
    split
    · by_cases hqj : q.key = j
      · subst hqj
        simp [hq]
      · simp only [List.find?_cons, hqj, decide_false]
        exact ih h'
    · by_cases hj : j = p.key
      · simp [hj]
      · have : ¬p.key = j := fun e => hj e.symm
        simp [hj, this]

theorem packet_addPacket (s : State) (p : Packet) (j : Key) (h : s.packet p.key = none) :
    (addPacket p s).packet j = if j = p.key then some p else s.packet j := by
  simpa [addPacket, State.packet] using find?_insertByKey p s.packets j h

/-- A packet found by its key stands in the map and has that key. -/
theorem mem_of_packet {s : State} {k : Key} {p : Packet} (h : s.packet k = some p) : p ∈ s.packets ∧ p.key = k := by
  refine ⟨List.mem_of_find?_eq_some h, ?_⟩
  simpa using List.find?_some h

/-- What stands in the map after a packet has joined it. -/
theorem mem_insertByKey (p q : Packet) (ps : List Packet) : q ∈ insertByKey p ps ↔ q = p ∨ q ∈ ps := by
  induction ps with
  | nil => simp [insertByKey]
  | cons x xs ih =>
    unfold insertByKey
    split
    · simp [ih, or_left_comm]
    · simp

/-- The order of keys is total and transitive. -/
theorem Key.below_trans {i j k : Key} (h1 : i.below j = true) (h2 : j.below k = true) : i.below k = true := by
  simp only [Key.below, Bool.or_eq_true, Bool.and_eq_true, decide_eq_true_eq] at *
  omega

theorem Key.below_of_not {i j : Key} (h : ¬i.below j = true) (hne : i ≠ j) : j.below i = true := by
  simp only [Key.below, Bool.or_eq_true, Bool.and_eq_true, decide_eq_true_eq] at *
  have : i.cls ≠ j.cls ∨ i.rank ≠ j.rank := by
    by_contra hc
    apply hne
    cases i
    cases j
    simp_all
  omega

/-- A map of rising keys stays one when a packet of a new key joins it. -/
theorem insertByKey_rises (p : Packet) (ps : List Packet) (h : ps.Pairwise (fun p q => p.key.below q.key = true))
    (hne : ∀ q ∈ ps, q.key ≠ p.key) : (insertByKey p ps).Pairwise (fun p q => p.key.below q.key = true) := by
  induction ps with
  | nil => simp [insertByKey]
  | cons x xs ih =>
    rw [List.pairwise_cons] at h
    unfold insertByKey
    split
    · rename_i hb
      refine List.pairwise_cons.mpr ⟨?_, ih h.2 (fun q hq => hne q (List.mem_cons_of_mem _ hq))⟩
      intro q hq
      rcases (mem_insertByKey p q xs).mp hq with rfl | hq
      · exact hb
      · exact h.1 q hq
    · rename_i hb
      have hx := Key.below_of_not hb (hne x (List.mem_cons_self ..))
      refine List.pairwise_cons.mpr ⟨?_, List.pairwise_cons.mpr h⟩
      intro q hq
      rcases List.mem_cons.mp hq with rfl | hq
      · exact hx
      · exact Key.below_trans hx (h.1 q hq)

/-! ## Slots, causes, hold conditions -/

/-- The lowest FREE slot is FREE, and none below it is (R54). -/
theorem lowestFree_eq_none {s : State} : s.lowestFree = none ↔ ∀ n, s.slot n ≠ .free := by
  simp [State.lowestFree, State.isFree]

/-- Raising a cause makes it pending and leaves every other cause as it was (R153). -/
theorem isPending_raise (c d : Cause) (s : State) : (raise c s).isPending d = (s.isPending d || decide (c = d)) := by
  have h : ∀ c d : Cause, (BitVec.twoPow 12 c.bit).getLsbD d.bit = decide (c = d) := by
    intro c d
    cases c <;> cases d <;> rfl
  simp [State.isPending, raise, h]

/-- An evaluation of hold conditions leaves the state, or holds a RUNNING lane with a Hold, or lets a HELD lane run with a Release
(R44). -/
theorem evalHold_cases (l : Lane) (s : State) :
    (evalHold l s = s ∧ ((s.lane l).inFault = true ∨ ((s.lane l).state = .running ∧ s.holdCondition l = false)
        ∨ ((s.lane l).state = .held ∧ s.holdCondition l = true)))
    ∨ ((s.lane l).state = .running ∧ s.holdCondition l = true
        ∧ evalHold l s = sendUnsolicited l .hold [] (setLaneState l .held s))
    ∨ ((s.lane l).state = .held ∧ s.holdCondition l = false
        ∧ evalHold l s = sendUnsolicited l .release [] (setLaneState l .running s)) := by
  unfold evalHold
  cases hs : (s.lane l).state <;> cases hc : s.holdCondition l <;> simp [LaneUnit.inFault, hs]

end Sys2Proof.Machine
end

