-- ==== Sys2Proof/Tests/Slice0.lean ====
section
/-! SUPPORT. Tests: ill-formed commands, the spec's own worked figures, and for each statement with hypotheses a concrete state that
meets them, clause by clause. -/

namespace Sys2Proof.Tests

open Sys2Proof.Machine Sys2Proof.Safety

set_option maxRecDepth 20000

/-! ## Sample states -/

/-- A class record of generation 1 with a roster, bound for bin 0 by assignment 0. -/
def sampleClass (x : ClassState) (roster : List RankState) (cursor : Nat) : ClassRec :=
  { state := x, generation := 1#8, priority := false, locked := false, cursor := cursor,
    body := some { size := roster.length, roster := roster, assignment := 0, returnBin := 0 } }

/-- Power-on with assignment 0 (2 sheets, no cover, CORNER), media code 0 of 100 um, and class 0. -/
def sampleBase (r : ClassRec) : State :=
  (State.reset.setTables { State.reset.tables with
      assignments := put State.reset.tables.assignments 0 (some { sheetCount := 2, cover := false, pattern := .corner }),
      media := put State.reset.tables.media 0 (some 100) }).setClassRec 0 r

/-- A packet of class 0 in a state. -/
def samplePacket (rank : Nat) (slot : Option (Fin 24)) (nextBody : Nat) (x : PacketState) : Packet :=
  { key := { cls := 0, rank := rank }, generation := 1#8, slot := slot,
    snapshot := { sheetCount := 2, cover := false, pattern := .corner }, jobTag := 7#16, nextBody := nextBody,
    coverReceived := false, sheetsHeld := nextBody - 1, height := 100 * (nextBody - 1), flags := .clear, timer := .stopped,
    state := x }

/-- An entry for a rank of class 0. -/
def sampleEntry (rank index : Byte) (v : Verdict) : Entry :=
  { jobTag := 7#16, cls := 0#8, generation := 1#8, rank := rank, index := index, media := 0#8, order := 1#32, deadline := 0,
    verdict := v }

/-- A lane's queue in a sample state, its timer toward the head. -/
def withQueue (l : Lane) (q : List Entry) (s : State) : State :=
  s.setLane l { s.lane l with queue := q, transit := q.head?.map Entry.deadline }

/-- A packet in slot 0 of a sample state. -/
def withPacket (h : SlotHold) (pending : Bool) (p : Packet) (s : State) : State :=
  setSlot 0 (.occupied h pending p.key) (addPacket p s)

/-- Class 0 with a roster, a COLLECTING packet of one of its ranks in slot 0, and an entry for it on lane A. -/
def collecting (roster : List RankState) (cursor rank nextBody : Nat) (index : Byte) : State :=
  withQueue .a [sampleEntry (BitVec.ofNat 8 rank) index (.place 0)]
    (withPacket .collecting false (samplePacket rank (some 0) nextBody .collecting)
      (sampleBase (sampleClass .active roster cursor)))

/-- The state after a command, where it goes on. -/
def after (i : Instr) (s : State) : State :=
  match exec i s with
  | .next t => t
  | .fault _ => s
  | .refused _ => s

/-- The body of a Load Class with every mark expected. -/
def loadBody (cls size assignment bin priority : Byte) : List Byte :=
  [cls, size, assignment, bin, priority] ++ List.replicate 40 0#8

/-- The unit of a sample state in a state, with a current packet of class 0, rank 0, bound for bin 0. -/
def working (u : UnitState) (timer : Option Nat) (c : Current) (s : State) : State :=
  setBin 0 { state := .ready, capacity := 60, fill := 5, reserved := c.units, jogSide := .left }
    (s.setFin { unit := u, timer := timer, current := some c, supply := 9 })

/-- A current packet with its values. -/
def sampleCurrent (staples placed : Nat) : Current :=
  { key := { cls := 0, rank := 0 }, target := .bin 0, units := 3, staplesNeeded := staples, staplesPlaced := placed,
    loft := some 16 }

/-- A FINISHING packet of class 0, rank 0, still in slot 0 or not, in a stage of the unit. -/
def finishing (u : UnitState) (timer : Option Nat) (inSlot : Bool) (c : Current) (roster : List RankState) : State :=
  let p := samplePacket 0 (if inSlot then some 0 else none) 3 .finishing
  working u timer c
    ((if inSlot then withPacket .queued false p else addPacket p) (sampleBase (sampleClass .active roster roster.length)))

/-! ## Ill-formed commands -/

theorem test_body_of_256_bytes_is_ill_formed : (Instr.loadClass .a 0#8 (List.replicate 256 0#8)).wellFormed = false := by
  decide

theorem test_fields_of_255_bytes_are_ill_formed :
    (Instr.setRosterMarkExcuse .a 0#8 (List.replicate 255 0#8)).wellFormed = false
      ∧ (Instr.finisherClearRetry .b 0#8 (List.replicate 255 0#8)).wellFormed = false := by decide

theorem test_known_kind_is_no_unknown_kind_frame : (Instr.unknownKindFrame .a 0x22#8 0#8 []).wellFormed = false := by
  decide

theorem test_unknown_kind_frame_of_a_long_body_is_ill_formed :
    (Instr.unknownKindFrame .a 0x02#8 0#8 (List.replicate 256 0#8)).wellFormed = false := by decide

theorem test_longest_bodies_are_well_formed : (Instr.loadClass .a 0#8 (List.replicate 255 0#8)).wellFormed = true
    ∧ (Instr.setRosterMarkExcuse .a 0#8 (List.replicate 254 0#8)).wellFormed = true := by decide

/-! ## The spec's own figures -/

/-- The kind codes of R151 that the receiver knows. -/
theorem test_downstream_codes : (List.range 256).filter (fun b => (DownKind.ofCode (BitVec.ofNat 8 b)).isSome)
    = downstreamCodes.map BitVec.toNat := by decide

/-- Figures of the table of R102, and of the second part of R96. -/
theorem test_bin_units_of_the_table : binUnits 16000 40 4 = 2500 ∧ binUnits 16000 40 6 = 625 ∧ binUnits 16000 40 7 = 313
    ∧ binUnits 16000 40 8 = 157 ∧ binUnits 40 16 4 = 3 ∧ binUnits 40 16 6 = 1 ∧ binUnits 40 16 8 = 1 := by decide

/-- The check value that CRC catalogues give for these parameters over the digits 1 to 9 (from outside the spec). -/
theorem test_check_of_the_nine_digits :
    checkOf [0x31#8, 0x32#8, 0x33#8, 0x34#8, 0x35#8, 0x36#8, 0x37#8, 0x38#8, 0x39#8] = 0xAEE7#16 := by decide

/-- The eject done of the example of 6.11.2: 40 units move from reserved to fill, the side changes, the unit is SUSPENDED. -/
theorem test_eject_done_of_6_11_2 :
    let c : Current := { sampleCurrent 2 2 with units := 40 }
    let s := finishing (.suspendPending .eject) (some 3000) false c [.released, .waiting]
    let t := after .ejectDone s
    ((t.bin 0).reserved, (t.bin 0).fill, (t.bin 0).jogSide) = (0, 45, .right) ∧ t.fin.unit = .suspended
      ∧ t.rankAt { cls := 0, rank := 0 } = some .delivered ∧ (t.link .a).tx.length = 1 := by decide

/-! ## Hypotheses met: laws and rules over all commands -/

/-- A state with work in it, for the laws and for the rules over all commands. -/
def atWork : State := (collecting [.opened, .delivered, .waiting] 0 0 1 1#8).setPending [.readStatus .a 1#8 []]

/-- StepRunsTheFrontCommand. -/
theorem witness_step : atWork.pending = .readStatus .a 1#8 [] :: [] := rfl

/-- IdleStepPassesOneMillisecond. -/
theorem witness_idle : (atWork.setPending []).pending = [] := rfl

/-- The class roster of the laws' sample: DELIVERED ranks stand below the cursor. -/
def lawful : State := (collecting [.delivered, .opened, .waiting] 1 1 1 1#8).setPending [.readStatus .a 1#8 []]

/-- EveryStepKeepsTheBins, EveryStepKeepsTheLanes, EveryStepKeepsTheBounds, EveryStepKeepsTheClasses, EveryStepKeepsTheTimers and
EveryStepKeepsTheTower, all laws together in a state with work in it. -/
theorem witness_laws : ∃ t, TowerKept lawful ∧ ClassesKept lawful ∧ BinsKept lawful
    ∧ (HoldsSettled lawful ∧ TransitWatchesHead lawful ∧ UnplacedEntriesListed lawful ∧ QueuesBounded lawful)
    ∧ TablesInRange lawful ∧ TimersFrozenInFault lawful ∧ StageTimerRuns lawful ∧ KeysWaitInQueues lawful
    ∧ step lawful = .next t :=
  ⟨_, towerKept_of_check (by decide), classesKept_of_check (by decide), binsKept_of_check (by decide),
    lanesKept_of_check (by decide), tablesInRange_of_check (by decide), timersFrozen_of_check (by decide), rfl,
    keysWait_of_check (by decide), rfl⟩

/-- EveryStepKeepsTheLanes with a key that waits, its UNPLACED entry on lane B. -/
theorem witness_waiting_keys :
    let s := (withQueue .b [sampleEntry 2#8 1#8 .unplaced] lawful).setUnplaced [{ key := { cls := 0, rank := 2 }, jobTag := 7#16 }]
    KeysWaitInQueues s ∧ QueuesBounded s ∧ s.unplaced ≠ [] :=
  ⟨keysWait_of_check (by decide), fun l => by cases l <;> decide, by decide⟩

/-- LockAndGenerationChangeOnlyAsSaid: a locked class at another command, and a taken Load Class. -/
theorem witness_lock_and_generation :
    (let s := sampleBase { sampleClass .loaded [.waiting] 0 with locked := true }
     exec .take s = .next (after .take s) ∧ Instr.take ≠ .powerOn ∧ (s.classRec 0).locked = true)
    ∧ (let s := State.reset
       let i := Instr.loadClass .a 1#8 (loadBody 47#8 40#8 0#8 0#8 0#8)
       exec i s = .next (after i s) ∧ ((after i s).classRec 47).generation ≠ (s.classRec 47).generation) :=
  ⟨⟨rfl, by decide, by decide⟩, rfl, by decide⟩

/-- StampAndTrayCountChangeOnlyAsSaid: an arrival, another command, and the emptying of a tray of one sheet. -/
theorem witness_stamp_and_tray :
    exec (.laneEntry .b) atWork = .next (after (.laneEntry .b) atWork) ∧ (∀ l, Instr.take ≠ .laneEntry l)
    ∧ exec .exceptionTrayEmptied (atWork.setTray 1) = .next (after .exceptionTrayEmptied (atWork.setTray 1))
    ∧ (after .exceptionTrayEmptied (atWork.setTray 1)).tray < (atWork.setTray 1).tray :=
  ⟨rfl, (by intro l h; cases h), rfl, by decide⟩

/-- A state whose lane A is in FAULT with a queue. -/
def faulted (q : List Entry) : State :=
  (sampleBase (sampleClass .active [.waiting] 0)).setLane .a { LaneUnit.reset with state := .fault .jam, queue := q }

/-- OnlyLaneClearEndsALaneFault. -/
theorem witness_lane_fault_ends : let i := Instr.laneClear .b 1#8 [0#8]
    exec i (faulted []) = .next (after i (faulted [])) ∧ ((faulted []).lane .a).inFault = true
      ∧ ((after i (faulted [])).lane .a).inFault = false := ⟨rfl, by decide, by decide⟩

/-- OnlyReadAttentionClearsAFlag. -/
theorem witness_flag_clears : let i := Instr.readAttention .b 1#8 []
    let s := State.reset.setFlags 0x800#12
    exec i s = .next (after i s) ∧ s.isPending .classDone = true ∧ (after i s).isPending .classDone = false :=
  ⟨rfl, by decide, by decide⟩

/-- RankChangesFollowTheTable: a DELIVERED rank, and a WAITING rank that an event makes EXCUSED. -/
theorem witness_rank_changes :
    (∃ t, TowerKept lawful ∧ exec .take lawful = .next t ∧ lawful.rankAt { cls := 0, rank := 0 } = some .delivered
      ∧ Instr.take ≠ .powerOn ∧ (t.classRec 0).generation = (lawful.classRec 0).generation ∧ (t.classRec 0).state ≠ .empty)
    ∧ (let i := Instr.setRosterMarkExcuse .a 1#8 [0#8, 2#8]
       exec i lawful = .next (after i lawful) ∧ lawful.rankAt { cls := 0, rank := 2 } = some .waiting ∧ i ≠ .powerOn
         ∧ ((after i lawful).classRec 0).generation = (lawful.classRec 0).generation
         ∧ ((after i lawful).classRec 0).state ≠ .empty
         ∧ (after i lawful).rankAt { cls := 0, rank := 2 } = some .excused) :=
  ⟨⟨after .take lawful, towerKept_of_check (by decide), rfl, by decide⟩, rfl, by decide⟩

/-- EveryStepKeepsTheBounds, the heights: a packet of three sheets at the limit of each. -/
theorem witness_heights :
    let p := { samplePacket 1 (some 0) 1 .collecting with nextBody := 2, sheetsHeld := 1, height := 400 }
    let s := lawful.setPackets [p]
    SettingsInRange s.settings ∧ TablesInRange s ∧ HeightsKept s ∧ p ∈ s.packets :=
  ⟨(tablesInRange_of_check (s := lawful) (by decide)).1, tablesInRange_of_check (by decide), heightsKept_of_check (by decide),
    by decide⟩

/-! ## Hypotheses met: the link -/

/-- ReceivedFrameBytesRunTheFrame: a request of an empty body and one of the longest, an unknown kind, and wrong check bytes. -/
theorem witness_received_frames :
    (requestFrame (.purge .b 3#8 []) = some (.b, 0x26#8, 3#8, []) ∧ (atWork.link .b).rx = .hunt)
    ∧ (requestFrame (.loadClass .a 3#8 (List.replicate 255 0#8)) = some (.a, 0x10#8, 3#8, List.replicate 255 0#8)
        ∧ (List.replicate 255 0#8 : List Byte).length ≤ 255)
    ∧ 0x02#8 ∉ downstreamCodes ∧ [0#8, 0#8] ≠ checkBytes [0x26#8, 3#8, 0#8] := by decide

/-- ReceivedFrameBytesRunTheFrame on one frame: the bytes of a Purge have the effect of the command. -/
theorem test_received_purge : receives .b (envelope 0x26#8 3#8 []) State.reset = exec (.purge .b 3#8 []) State.reset := by
  rfl

/-- ReceiverCollectsByteByByte: HUNT, a byte before the last, the length byte. -/
theorem witness_receiver :
    let s := fun (bytes : List Byte) (n : Nat) => setRx .a (.collecting bytes n 5) State.reset
    (State.reset.link .a).rx = .hunt ∧ (0xA4#8 : Byte) ≠ 0xA5#8
      ∧ ((s [0xA5#8] 2).link .a).rx = .collecting [0xA5#8] 2 5
      ∧ ((s [0xA5#8, 0x26#8, 3#8] 1).link .a).rx = .collecting [0xA5#8, 0x26#8, 3#8] 1 5 := by decide

/-- FrameErrorsAndSentFrames: a frame begun, and HUNT. -/
theorem witness_frame_gap : ((setRx .a (.collecting [0xA5#8] 3 5) State.reset).link .a).rx ≠ .hunt
    ∧ (State.reset.link .a).rx = .hunt := by decide

/-- UnknownKindOrLengthIsTurnedAway: kinds beside known ones, an upstream kind, a top bit; lengths beside the right ones. -/
theorem witness_kind_and_length :
    (0x00#8 ∉ downstreamCodes ∧ 0x02#8 ∉ downstreamCodes ∧ 0x35#8 ∉ downstreamCodes ∧ 0x41#8 ∉ downstreamCodes
      ∧ 0x81#8 ∉ downstreamCodes)
    ∧ (requestFrame (.readStatus .a 1#8 [0#8]) = some (.a, 0x34#8, 1#8, [0#8]) ∧ requestLength 0x34#8 ≠ some 1)
    ∧ (requestFrame (.setRosterMarkRetry .a 1#8 [0#8]) = some (.a, 0x13#8, 1#8, [0#8, 2#8])
        ∧ requestLength 0x13#8 ≠ some 2) := by decide

/-- A frame of a kind, for the transmit queues of the next witness. -/
def frame (k : UpKind) : Frame := { kind := k, attention := false, tag := 0#8, body := [] }

/-- QueuedFramesTakeTagsAndRoom: 127 and 128 frames; a report among them, a Reply and no report, Holds and Releases only. -/
theorem witness_transmit_queue :
    (List.replicate 127 (frame .hold)).length < 128 ∧ (128 ≤ (List.replicate 128 (frame .hold)).length)
    ∧ (frame .classDone).kind ≠ .hold ∧ (frame .classDone).kind ≠ .release
    ∧ (let older := List.replicate 126 (frame .disposition)
       128 ≤ (older ++ frame .classDone :: [frame .reply]).length ∧ (frame .classDone).kind.isReport = true
         ∧ ∀ h ∈ [frame .reply], h.kind.isReport = false)
    ∧ (let older := List.replicate 126 (frame .reply)
       let tx := older ++ frame .reply :: [frame .hold]
       128 ≤ tx.length ∧ (∀ h ∈ tx, h.kind.isReport = false) ∧ (frame .reply).kind = .reply
         ∧ ∀ h ∈ [frame .hold], h.kind ≠ .reply)
    ∧ ∀ h ∈ List.replicate 128 (frame .release), h.kind = .hold ∨ h.kind = .release := by decide

/-- ReadAttentionReturnsTheLowestCause: no flag, the first, and the last alone. -/
theorem witness_read_attention : State.reset.flags = 0#12
    ∧ (0xFFF#12 : BitVec 12).getLsbD 0 = true
    ∧ ((0x800#12 : BitVec 12).getLsbD 11 = true ∧ ∀ j, j < 11 → (0x800#12 : BitVec 12).getLsbD j = false) := by decide

/-- QueriesReturnTheRecords: the last number and the first refused, and a slot of each kind. -/
theorem witness_queries : 48 ≤ (48#8 : Byte).toNat ∧ (47#8 : Byte).toNat < 48 ∧ 24 ≤ (24#8 : Byte).toNat
    ∧ (23 : Fin 24).val = (23#8 : Byte).toNat ∧ 17 ≤ (17#8 : Byte).toNat ∧ (16 : Fin 17).val = (16#8 : Byte).toNat
    ∧ State.reset.slot 23 = .free ∧ (setSlot 23 .fenced State.reset).slot 23 = .fenced
    ∧ lawful.slot 0 = .occupied .collecting false { cls := 0, rank := 1 }
    ∧ lawful.packet { cls := 0, rank := 1 } = some (samplePacket 1 (some 0) 1 .collecting) := by decide

/-! ## Hypotheses met: the tables -/

/-- LoadClassReplacesTheRecord: the last class and size; a class, a size, a mark out of range; a locked and an ACTIVE record. -/
theorem witness_load_class :
    let ok := fun (body : List Byte) => body.length = 45 ∧ byteAt body 0 < 48 ∧ 1 ≤ byteAt body 1 ∧ byteAt body 1 ≤ 40
      ∧ byteAt body 2 < 32 ∧ byteAt body 3 < 16 ∧ byteAt body 4 ≤ 1 ∧ ∀ k, k < byteAt body 1 → byteAt body (5 + k) ≤ 1
    (ok (loadBody 47#8 40#8 31#8 15#8 1#8) ∧ (State.reset.classRec 47).locked = false
      ∧ (State.reset.classRec 47).state ≠ .active)
    ∧ ¬(ok (loadBody 48#8 1#8 0#8 0#8 0#8)) ∧ ¬(ok (loadBody 0#8 41#8 0#8 0#8 0#8)) ∧ ¬(ok (loadBody 0#8 0#8 0#8 0#8 0#8))
    ∧ (loadBody 48#8 1#8 0#8 0#8 0#8).length = 45 ∧ (lawful.classRec 0).state = .active
    ∧ ((sampleBase { sampleClass .done [.missed] 1 with locked := true }).classRec 0).locked = true := by decide

/-- UnloadAndLockClassChangeTheRecord: each clause, at class 47 and 48 or by the state. -/
theorem witness_unload_and_lock : 48 ≤ (48#8 : Byte).toNat
    ∧ ((47#8 : Byte).toNat < 48 ∧ (State.reset.classRec 47).state ≠ .loaded ∧ (State.reset.classRec 47).state ≠ .done
      ∧ (State.reset.classRec 47).state = .empty)
    ∧ (let s := sampleBase (sampleClass .loaded [.waiting] 0)
       (s.classRec 0).locked = false ∧ (s.classRec 0).state = .loaded ∧ (s.classRec 0).state ≠ .empty)
    ∧ (let s := sampleBase (sampleClass .done [.missed] 1)
       (s.classRec 0).locked = false ∧ (s.classRec 0).state = .done) := by decide

/-- RosterMarkIsCheckedInOrder: class 48, an EMPTY class, the rank at the size, a mark that does not apply, the first mark byte
that names none. -/
theorem witness_roster_checks : 48 ≤ (48#8 : Byte).toNat
    ∧ ((47#8 : Byte).toNat < 48 ∧ (State.reset.classRec 47).state = .empty)
    ∧ ((lawful.classRec 0).state ≠ .empty ∧ (lawful.classRec 0).size ≤ (3#8 : Byte).toNat)
    ∧ ((2#8 : Byte).toNat < (lawful.classRec 0).size ∧ ¬lawful.rankAt { cls := 0, rank := 2 } = some .excused
      ∧ ¬lawful.rankAt { cls := 0, rank := 2 } = some .missed ∧ ¬lawful.rankAt { cls := 0, rank := 1 } = some .waiting)
    ∧ 3 ≤ (3#8 : Byte).toNat := by decide

/-- A class with a rank for each mark, its cursor at rank 0. -/
def markable : State := sampleBase (sampleClass .active [.waiting, .waiting, .excused, .missed] 0)

/-- TakenRosterMarkSetsTheRank: each mark just above the cursor, a RETRY below it in a DONE class, and EXCUSE at the cursor. -/
theorem witness_roster_marks :
    (ClassKept (markable.classRec 0) ∧ (0#8 : Byte).toNat < 48 ∧ (markable.classRec 0).state ≠ .empty
      ∧ 3 < (markable.classRec 0).size)
    ∧ (markable.rankAt { cls := 0, rank := 1 } = some .waiting ∧ (markable.classRec 0).cursor < 1
      ∧ markable.isUnplaced { cls := 0, rank := 1 } = false)
    ∧ (markable.rankAt { cls := 0, rank := 2 } = some .excused ∧ (markable.classRec 0).cursor ≤ 2)
    ∧ (markable.rankAt { cls := 0, rank := 3 } = some .missed ∧ markable.packet { cls := 0, rank := 3 } = none)
    ∧ (TowerKept markable ∧ ClassesKept markable ∧ markable.rankAt { cls := 0, rank := 0 } = some .waiting
      ∧ (markable.classRec 0).cursor = 0 ∧ markable.isUnplaced { cls := 0, rank := 0 } = false) :=
  ⟨⟨classKept_of_check (by decide), by decide⟩, by decide, by decide, by decide, towerKept_of_check (by decide),
    classesKept_of_check (by decide), by decide⟩

/-- CursorAdvanceReleasesInRosterOrder: a HELD rank at the cursor, a cursor at the size, and a HELD rank with its packet and slot. -/
theorem witness_cursor_advance :
    (let r := (sampleBase (sampleClass .active [.held, .held, .waiting] 0)).classRec 0
     ∃ b, r.body = some b ∧ b.roster.length = b.size ∧ r.cursor ≤ b.size)
    ∧ (let r := (sampleBase (sampleClass .active [.missed] 1)).classRec 0
       ∃ b, r.body = some b ∧ b.roster.length = b.size ∧ r.cursor ≤ b.size)
    ∧ (let s := (withPacket .held false (samplePacket 0 (some 0) 3 .held)
         (sampleBase (sampleClass .active [.held, .waiting] 0))).setHeld [{ cls := 0, rank := 0 }]
       (s.classRec 0).cursor ≤ 0 ∧ 0 < ((cursorAdvance 0 s).classRec 0).cursor ∧ (s.classRec 0).rankAt 0 = some .held
         ∧ s.slotOf { cls := 0, rank := 0 } = some 0 ∧ s.slot 0 = .occupied .held false { cls := 0, rank := 0 }) :=
  ⟨⟨_, rfl, rfl, by decide⟩, ⟨_, rfl, rfl, by decide⟩, by decide⟩

/-- CloseClassGivesUpWaitingRanks: class 48; EMPTY and DONE; LOADED and ACTIVE. -/
theorem witness_close_class : 48 ≤ (48#8 : Byte).toNat ∧ (State.reset.classRec 47).state = .empty
    ∧ ((sampleBase (sampleClass .done [.missed] 1)).classRec 0).state = .done
    ∧ (let s := sampleBase (sampleClass .loaded [.waiting] 0)
       (s.classRec 0).state = .loaded ∧ TowerKept s)
    ∧ ((lawful.classRec 0).state = .active ∧ TowerKept lawful) :=
  ⟨by decide, by decide, by decide, ⟨by decide, towerKept_of_check (by decide)⟩, by decide,
    towerKept_of_check (by decide)⟩

/-- LoadAssignmentAndMediaReplaceTheRecord: the last and the first refused value of each field. -/
theorem witness_assignment_and_media :
    ((31#8 : Byte).toNat < 32 ∧ 1 ≤ (40#8 : Byte).toNat ∧ (40#8 : Byte).toNat ≤ 40 ∧ (1#8 : Byte).toNat ≤ 1
      ∧ (2#8 : Byte).toNat ≤ 2)
    ∧ ¬((32#8 : Byte).toNat < 32) ∧ ¬((41#8 : Byte).toNat ≤ 40) ∧ ¬(1 ≤ (0#8 : Byte).toNat) ∧ ¬((2#8 : Byte).toNat ≤ 1)
    ∧ ¬((3#8 : Byte).toNat ≤ 2) ∧ 16 ≤ (16#8 : Byte).toNat ∧ (15#8 : Byte).toNat < 16 := by decide

/-- A Load Settings body of the defaults with a scale, an exception capacity and a report lane. -/
def settingsBody (scale capacity report : Byte) : List Byte :=
  [20#8, 0#8, 120#8, 16#8, 20#8, scale, 0x0F#8, 0xA0#8, 0x07#8, 0xD0#8, 20#8, 15#8, 10#8, 30#8, 0#8, capacity, report]

/-- LoadSettingsReplacesTheRecord: a report lane of 2; a scale changed while a bin is in use, and a capacity one below the count;
a taken one with the same capacity and with another. -/
theorem witness_load_settings : (settingsBody 6#8 250#8 2#8).length = 17 ∧ 2 ≤ byteAt (settingsBody 6#8 250#8 2#8) 16
    ∧ (let s := setBin 0 { state := .ready, capacity := 60, fill := 1, reserved := 0, jogSide := .left } State.reset
       (∃ b, (s.bin b).fill ≠ 0 ∨ (s.bin b).reserved ≠ 0) ∧ max 4 (min (byteAt (settingsBody 7#8 250#8 1#8) 5) 8) ≠ s.settings.scale
         ∧ byteAt (settingsBody 7#8 250#8 1#8) 16 ≤ 1)
    ∧ (max 50 (min 249 500) < (State.reset.setTray 250).tray ∧ ¬(max 50 (min 250 500) < (State.reset.setTray 250).tray)
      ∧ byteAt (settingsBody 6#8 249#8 1#8) 14 * 256 + byteAt (settingsBody 6#8 249#8 1#8) 15 = 249
      ∧ State.reset.settings.exceptionCapacity = 250) := by decide

/-! ## Hypotheses met: the lanes -/

/-- LaneFaultStopsTheLane: a running and a stopped timer, a lane in FAULT, a Purge. -/
theorem witness_lane_fault :
    (lawful.purge = .idle ∧ (lawful.lane .a).inFault = false ∧ (lawful.lane .a).transit ≠ none
      ∧ (lawful.lane .b).inFault = false ∧ (lawful.lane .b).transit = none)
    ∧ ((faulted []).purge = .idle ∧ ((faulted []).lane .a).inFault = true)
    ∧ ((lawful.setPurge (.inProgress .a 1#8)).purging = true
      ∧ ((lawful.setPurge (.inProgress .a 1#8)).lane .a).inFault = false
      ∧ ((lawful.setPurge (.inProgress .a 1#8)).lane .a).transit ≠ none) := by decide

/-- A Sheet Announce body for a rank of class 0 of generation 1. -/
def announceBody (sequence rank index count media : Byte) : List Byte :=
  [sequence, 0#8, 7#8, 0#8, 1#8, rank, index, count, media]

/-- A lane A that expects a sequence number and holds a number of diverted entries. -/
def expecting (x : Option Byte) (n : Nat) (s : State) : State :=
  let s := withQueue .a (List.replicate n (sampleEntry 0#8 1#8 (.divert .rankDone))) s
  s.setLane .a { s.lane .a with expected := x }

/-- AnnouncementsAreDroppedOrFaultTheLane: bodies of 8 and 10 bytes, a lane in FAULT, a number one off, a full queue, each of the
last two outside a Purge and in one. -/
theorem witness_announcement_stops :
    ((announceBody 0#8 0#8 1#8 2#8 0#8).drop 1).length ≠ 9 ∧ (0#8 :: announceBody 0#8 0#8 1#8 2#8 0#8).length ≠ 9
    ∧ (announceBody 0#8 0#8 1#8 2#8 0#8).length = 9 ∧ ((faulted []).lane .a).inFault = true
    ∧ (let u := (expecting (some 1#8) 0 lawful).lane .a
       u.inFault = false ∧ u.expected ≠ none ∧ u.expected ≠ some 0#8)
    ∧ (let u := (expecting (some 0#8) 6 lawful).lane .a
       u.inFault = false ∧ u.expected = some 0#8 ∧ 6 ≤ u.queue.length)
    ∧ (expecting (some 0#8) 6 lawful).purge = .idle
    ∧ (∀ x ∈ [(some 1#8, 0), (some 0#8, 6)], let s := expecting x.1 x.2 (lawful.setPurge (.inProgress .b 9#8))
       s.purge ≠ .idle ∧ (s.lane .a).inFault = false ∧ (s.lane .a).expected = x.1 ∧ (s.lane .a).queue.length = x.2) := by decide

/-- An announcement of a sheet of class 0 of generation 1. -/
def sheet (rank index count media : Byte) : Announcement :=
  { sequence := 0#8, jobTag := 7#16, cls := 0#8, generation := 1#8, rank := rank, index := index, count := count,
    media := media }

/-- A class with a rank in each state, the OPEN one with its packet in slot 0. -/
def eachRank : State :=
  withPacket .collecting false (samplePacket 2 (some 0) 1 .collecting)
    (sampleBase (sampleClass .active [.excused, .missed, .opened, .held, .released, .relieved, .delivered, .waiting] 2))

/-- VerdictFollowsTheChecksAndTheRank: each identity check failing alone, at class 48, at the rank equal to the size and at media
code 15; then each rank state, and for the OPEN rank a count one off, the indexes 0 and 3 and the index 2. -/
theorem witness_verdict :
    (lawful.setPurge (.inProgress .a 1#8)).purging = true
    ∧ (lawful.purging = false ∧ (lawful.classRec 0).state ≠ .empty ∧ (lawful.classRec 0).generation ≠ 2#8
      ∧ 48 ≤ (48#8 : Byte).toNat ∧ (lawful.classRec 47).state = .empty)
    ∧ ((sheet 3#8 1#8 2#8 0#8).generation = (lawful.classRec 0).generation
      ∧ (lawful.classRec 0).size ≤ (sheet 3#8 1#8 2#8 0#8).rank.toNat)
    ∧ ((sheet 2#8 1#8 2#8 15#8).rank.toNat < (lawful.classRec 0).size
      ∧ ∀ i : Fin 16, i.val = (sheet 2#8 1#8 2#8 15#8).media.toNat → lawful.tables.media[i.val] = none)
    ∧ (∀ x ∈ [(0#8, RankState.excused), (1#8, .missed), (3#8, .held), (4#8, .released), (5#8, .relieved), (6#8, .delivered)],
        PassesIdentity (sheet x.1 1#8 2#8 0#8) eachRank ∧ eachRank.rankAt { cls := 0, rank := x.1.toNat } = some x.2)
    ∧ (PassesIdentity (sheet 2#8 1#8 3#8 0#8) eachRank ∧ PassesIdentity (sheet 2#8 0#8 2#8 0#8) eachRank)
    ∧ (PassesIdentity (sheet 2#8 3#8 2#8 0#8) eachRank ∧ PassesIdentity (sheet 2#8 2#8 2#8 0#8) eachRank)
    ∧ eachRank.rankAt { cls := 0, rank := 2 } = some .opened
    ∧ eachRank.packet { cls := 0, rank := 2 } = some (samplePacket 2 (some 0) 1 .collecting) :=
  ⟨by decide, by decide, by decide, by decide, by decide, by decide, by decide, by decide, by decide⟩

/-- WaitingRankAsksForASlot: no assignment, a count one off, the indexes 0, 3 and 2, a key that waits, a free slot, none free; and
its second part in a LOADED and in an ACTIVE class. -/
theorem witness_waiting_rank :
    let s := sampleBase (sampleClass .active [.waiting, .waiting] 0)
    let bare := s.setTables { s.tables with assignments := Vector.replicate 32 none }
    let full := s.setSlots (Vector.replicate 24 .fenced)
    (∀ i ∈ [0#8, 2#8, 3#8], PassesIdentity (sheet 1#8 i 2#8 0#8) s) ∧ PassesIdentity (sheet 1#8 1#8 3#8 0#8) s
    ∧ s.rankAt { cls := 0, rank := 1 } = some .waiting ∧ bare.assignmentOf 0 = none
    ∧ PassesIdentity (sheet 1#8 1#8 2#8 0#8) bare ∧ (∃ a, s.assignmentOf 0 = some a ∧ a.sheetCount = 2)
    ∧ PassesIdentity (sheet 1#8 1#8 2#8 0#8) full
    ∧ (full.setUnplaced [{ key := { cls := 0, rank := 1 }, jobTag := 1#16 }]).isUnplaced { cls := 0, rank := 1 } = true
    ∧ (s.isUnplaced { cls := 0, rank := 1 } = false ∧ s.slot 0 = .free ∧ ∀ m, m < (0 : Fin 24) → s.slot m ≠ .free)
    ∧ (full.isUnplaced { cls := 0, rank := 1 } = false ∧ ∀ n, full.slot n ≠ .free)
    ∧ (TowerKept s ∧ ClassesKept s ∧ (s.classRec 0).state = .active)
    ∧ (let t := sampleBase (sampleClass .loaded [.waiting] 0)
       TowerKept t ∧ ClassesKept t ∧ t.rankAt { cls := 0, rank := 0 } = some .waiting ∧ (t.classRec 0).state = .loaded) :=
  ⟨by decide, by decide, by decide, by decide, by decide, ⟨_, rfl, rfl⟩, by decide, by decide, by decide, by decide,
    ⟨towerKept_of_check (by decide), classesKept_of_check (by decide), by decide⟩,
    towerKept_of_check (by decide), classesKept_of_check (by decide), by decide⟩

/-- A HELD packet of class 0, rank 1, in slot 0, every other slot FENCED, with a key waiting or not. -/
def standstill (waiting : List Waiting) : State :=
  ((withPacket .held false (samplePacket 1 (some 0) 3 .held)
    ((sampleBase (sampleClass .active [.waiting, .held, .waiting] 0)).setSlots (Vector.replicate 24 .fenced))).setHeld
      [{ cls := 0, rank := 1 }]).setUnplaced waiting

/-- AnnouncementIsAppendedWithItsVerdict: any number expected and a PLACE verdict; this number expected and 5 entries; a lane with
no slot for the rank, where the verdict is UNPLACED. -/
theorem witness_announcement_appended :
    ∃ x, Announcement.ofBody (announceBody 255#8 2#8 1#8 2#8 0#8) = some x
      ∧ ((lawful.lane .a).inFault = false ∧ (lawful.lane .a).expected = none ∧ (lawful.lane .a).queue.length < 6
        ∧ (verdictOf x lawful).1 ≠ .unplaced ∧ TowerKept lawful ∧ ClassesKept lawful ∧ HoldsSettled lawful)
      ∧ (let s := expecting (some 255#8) 5 lawful
         (s.lane .a).inFault = false ∧ (s.lane .a).expected = some x.sequence ∧ (s.lane .a).queue.length = 5
           ∧ (s.lane .a).state = .running ∧ TowerKept s ∧ ClassesKept s ∧ HoldsSettled s)
      ∧ (let s := standstill []
         (s.lane .a).inFault = false ∧ (s.lane .a).expected = none ∧ (s.lane .a).queue = []
           ∧ (verdictOf x s).1 = .unplaced ∧ TowerKept s ∧ ClassesKept s ∧ HoldsSettled s) :=
  ⟨_, rfl,
    ⟨by decide, by decide, by decide, by decide, towerKept_of_check (by decide), classesKept_of_check (by decide),
      (lanesKept_of_check (by decide)).1⟩,
    ⟨by decide, by decide, by decide, by decide, towerKept_of_check (by decide), classesKept_of_check (by decide),
      (lanesKept_of_check (by decide)).1⟩,
    by decide, by decide, by decide, by decide, towerKept_of_check (by decide), classesKept_of_check (by decide),
    (lanesKept_of_check (by decide)).1⟩

/-- The five conditions of relief in AnnouncementIsAppendedWithItsVerdict, CompletedPacketIsHandedOn,
FencesAndGiftsFollowTheSlotState, TransferDoneFreesTheSlot and FinisherClearRemovesThePacket: met, and not met. -/
theorem witness_relief_due : ReliefDue (standstill [{ key := { cls := 0, rank := 0 }, jobTag := 1#16 }]) ∧ ¬ReliefDue lawful :=
  ⟨⟨by decide, by decide, by decide, (fun c h => by cases h), by decide⟩, fun h => h.1 (by decide)⟩

/-- UnmatchedArrivalIsDiverted: a lane in FAULT, an empty queue, and the last count below the threshold of 238. -/
theorem witness_unmatched : ((faulted []).lane .a).inFault = true ∧ (lawful.lane .b).queue = []
    ∧ (lawful.setTray 236).tray + 1 < (lawful.setTray 236).settings.exceptionCapacity - 12 := by decide

/-- A lane A with one entry of a verdict, before a COLLECTING packet of its rank in slot 0 unless the slot is another. -/
def arriving (v : Verdict) : State :=
  withQueue .a [sampleEntry 0#8 1#8 v] (withPacket .collecting false (samplePacket 0 (some 0) 1 .collecting)
    (sampleBase (sampleClass .active [.opened, .waiting] 0)))

/-- The same with the packet HELD. -/
def arrivingLate : State :=
  (withQueue .a [sampleEntry 1#8 1#8 (.place 0)] (withPacket .held false (samplePacket 1 (some 0) 3 .held)
    (sampleBase (sampleClass .active [.waiting, .held] 0)))).setHeld [{ cls := 0, rank := 1 }]

/-- DivertedEntryIsReported: a DIVERT entry, a PLACE entry whose slot is empty, one whose packet is HELD; a count of 236. -/
theorem witness_diverted_entry :
    (let s := (arriving (.divert .badIndex)).setTray 236
     (s.lane .a).inFault = false ∧ HoldsSettled s ∧ s.purge = .idle
       ∧ (s.lane .a).queue = sampleEntry 0#8 1#8 (.divert .badIndex) :: []
       ∧ (∀ d, ([] : List Entry).head? = some d → s.now ≤ d.deadline) ∧ s.tray + 1 < s.settings.exceptionCapacity - 12)
    ∧ (let s := (arriving (.place 23)).setTray 236
       HoldsSettled s ∧ (s.lane .a).queue = sampleEntry 0#8 1#8 (.place 23) :: [] ∧ s.packetIn 23 = none)
    ∧ (let s := arrivingLate.setTray 236
       HoldsSettled s ∧ (s.lane .a).queue = sampleEntry 1#8 1#8 (.place 0) :: []
         ∧ ∃ p, s.packetIn 0 = some p ∧ p.key = { cls := 0, rank := 1 } ∧ p.generation = 1#8 ∧ p.flags.stale = false
           ∧ p.state ≠ .collecting) :=
  ⟨⟨by decide, (lanesKept_of_check (by decide)).1, by decide, by decide, (fun d h => by cases h), by decide⟩,
    ⟨(lanesKept_of_check (by decide)).1, by decide⟩, (lanesKept_of_check (by decide)).1, by decide, _, rfl, by decide⟩

/-- Lane A, with the queue of a sample state, HELD. -/
def heldLane (q : List Entry) (s : State) : State :=
  let s := withQueue .a q s
  s.setLane .a { s.lane .a with state := .held }

/-- DivertedEntryIsReported on a HELD lane: six entries, which the pop releases; six with an UNPLACED one behind; a count at the
threshold of 238, and below it by one on a lane that the pop releases. -/
theorem witness_diverted_entry_on_a_held_lane :
    let e := sampleEntry 0#8 1#8 (.divert .rankDone)
    let six := List.replicate 5 e
    let waits := sampleEntry 1#8 1#8 .unplaced
    (let s := heldLane (e :: six) (arriving (.divert .rankDone))
     (s.lane .a).inFault = false ∧ HoldsSettled s ∧ (s.lane .a).queue = e :: six ∧ PopReleases .a six s
       ∧ ∀ d, six.head? = some d → s.now ≤ d.deadline)
    ∧ (let s := (heldLane (e :: [waits]) (arriving (.divert .rankDone))).setUnplaced [{ key := { cls := 0, rank := 1 }, jobTag := 7#16 }]
       HoldsSettled s ∧ (s.lane .a).queue = e :: [waits] ∧ ¬PopReleases .a [waits] s)
    ∧ (let s := heldLane [e] ((arriving (.divert .rankDone)).setTray 238)
       let t := s.setLane .b { s.lane .b with state := .held }
       HoldsSettled t ∧ (t.lane .a).queue = e :: [] ∧ t.settings.exceptionCapacity - 12 ≤ t.tray)
    ∧ (let s := heldLane (e :: six) ((arriving (.divert .rankDone)).setTray 237)
       HoldsSettled s ∧ PopReleases .a six s ∧ s.settings.exceptionCapacity - 12 ≤ s.tray + 1) :=
  ⟨⟨by decide, (lanesKept_of_check (by decide)).1, by decide, by decide, (fun d h => Nat.zero_le _)⟩,
    ⟨(lanesKept_of_check (by decide)).1, by decide, by decide⟩, ⟨(lanesKept_of_check (by decide)).1, by decide, by decide⟩,
    (lanesKept_of_check (by decide)).1, by decide, by decide⟩

/-- A Purge in progress for a request with tag 9 on link B, both lanes HELD, lane A with one entry. -/
def purgeWaits (s : State) : State :=
  let s := heldLane [sampleEntry 0#8 1#8 (.divert .purging)] (s.setPurge (.inProgress .b 9#8))
  s.setLane .b { s.lane .b with state := .held }

/-- DivertedEntryIsReported in a Purge: its last entry, with every slot empty and with one occupied. -/
theorem witness_diverted_entry_in_a_purge :
    (∀ x ∈ [State.reset, lawful], let s := purgeWaits x
      (s.lane .a).inFault = false ∧ HoldsSettled s ∧ s.purge = .inProgress .b 9#8
        ∧ (s.lane .a).queue = sampleEntry 0#8 1#8 (.divert .purging) :: [] ∧ (s.lane .b).queue = [])
    ∧ (∀ n, (purgeWaits State.reset).slot n = .free) ∧ ∃ n h m k, (purgeWaits lawful).slot n = .occupied h m k := by
  refine ⟨?_, by decide, 0, .collecting, false, { cls := 0, rank := 1 }, by decide⟩
  intro x hx
  simp only [List.mem_cons, List.not_mem_nil, or_false] at hx
  rcases hx with rfl | rfl <;> exact ⟨by decide, (lanesKept_of_check (by decide)).1, by decide⟩

/-- The arrival of the last announced sheet ends a Purge: lane A is released, and the Reply with its tag is on link B (R163). -/
theorem test_last_arrival_ends_a_purge : let t := after (.laneEntry .a) (purgeWaits State.reset)
    t.purge = .idle ∧ (t.lane .a).state = .running ∧ (t.link .a).tx.map Frame.kind = [.sheetException, .release]
      ∧ (t.link .b).tx.map Frame.kind = [.release, .reply] ∧ (t.link .b).tx.map Frame.tag = [0#8, 9#8] := by decide

/-- A lane A with an entry of an index above the count, before a COLLECTING packet of its rank in slot 0 with a number of sheets, and
with entries of lane B. -/
def refusedBy (nextBody : Nat) (other : List Entry) : State :=
  (withQueue .b other (collecting [.opened, .waiting] 0 0 nextBody 3#8)).setTray 236

/-- DivertedEntryIsReported, the refused sheets: a packet that has a sheet, one that another entry names, and one of neither. -/
theorem witness_refused_sheet :
    let e := sampleEntry 0#8 3#8 (.place 0)
    let named := sampleEntry 0#8 1#8 (.place 0)
    (∀ x ∈ [(2, []), (1, [named]), (1, [])], let s := refusedBy x.1 x.2
      let p := samplePacket 0 (some 0) x.1 .collecting
      (s.lane .a).inFault = false ∧ HoldsSettled s ∧ TowerKept s ∧ ClassesKept s ∧ s.purge = .idle
        ∧ (s.lane .a).queue = e :: [] ∧ s.packetIn 0 = some p
        ∧ p.key = { cls := 0, rank := 0 } ∧ p.generation = 1#8 ∧ p.flags.stale = false ∧ p.state = .collecting
        ∧ decidePlacement p 3 = .refused ∧ p.coverReceived = false)
    ∧ (samplePacket 0 (some 0) 2 .collecting).sheetsHeld ≠ 0 ∧ (samplePacket 0 (some 0) 1 .collecting).sheetsHeld = 0
    ∧ (named ∈ ((refusedBy 1 [named]).lane .b).queue ∧ named.cls = e.cls ∧ named.rank = e.rank ∧ ∃ j, named.verdict = .place j)
    ∧ ((refusedBy 1 []).lane .b).queue = [] ∧ (refusedBy 1 []).unplaced = []
    ∧ (refusedBy 1 []).slot 0 = .occupied .collecting false { cls := 0, rank := 0 } := by
  refine ⟨?_, by decide, by decide, ⟨by decide, rfl, rfl, 0, rfl⟩, by decide⟩
  intro x hx
  simp only [List.mem_cons, List.not_mem_nil, or_false] at hx
  rcases hx with rfl | rfl | rfl <;>
    exact ⟨by decide, (lanesKept_of_check (by decide)).1, towerKept_of_check (by decide), classesKept_of_check (by decide),
      by decide⟩

/-- PlacedSheetIsCountedInItsPacket: the first of two sheets, on a RUNNING lane. -/
theorem witness_placed_sheet : let s := arriving (.place 0)
    let p := samplePacket 0 (some 0) 1 .collecting
    (s.lane .a).inFault = false ∧ HoldsSettled s ∧ TowerKept s ∧ s.purge = .idle
      ∧ (s.lane .a).queue = sampleEntry 0#8 1#8 (.place 0) :: [] ∧ s.packetIn 0 = some p ∧ p.flags.stale = false
      ∧ p.state = .collecting ∧ decidePlacement p 1 = .placed { p with nextBody := 2 }
      ∧ ¬AllSheetsIn { p with nextBody := 2 } ∧ s.thickness 0 = some 100 :=
  ⟨by decide, (lanesKept_of_check (by decide)).1, towerKept_of_check (by decide), by decide⟩

/-- PlacedSheetIsCountedInItsPacket on a HELD lane that the pop of the first of six entries releases. -/
theorem witness_placed_sheet_on_a_held_lane :
    let e := sampleEntry 0#8 1#8 (.place 0)
    let six := List.replicate 5 (sampleEntry 0#8 1#8 (.divert .rankDone))
    let s := heldLane (e :: six) (arriving (.place 0))
    (s.lane .a).inFault = false ∧ HoldsSettled s ∧ TowerKept s ∧ (s.lane .a).queue = e :: six ∧ PopReleases .a six s
      ∧ (∀ d, six.head? = some d → s.now ≤ d.deadline) ∧ s.packetIn 0 = some (samplePacket 0 (some 0) 1 .collecting) :=
  ⟨by decide, (lanesKept_of_check (by decide)).1, towerKept_of_check (by decide), by decide, by decide,
    (fun d h => Nat.zero_le _), by decide⟩

/-- PlacementIsDecidedByPocketAndIndex: both pockets; an index one above the count, the next, the one below and the one above it. -/
theorem witness_placement :
    (let p := samplePacket 0 (some 0) 1 .collecting
     let covered := { p with snapshot := { p.snapshot with cover := true } }
     covered.snapshot.cover = true ∧ covered.coverReceived = false ∧ { covered with coverReceived := true }.coverReceived = true)
    ∧ (let p := samplePacket 0 (some 0) 2 .collecting
       p.snapshot.cover = false ∧ p.snapshot.sheetCount < 3 ∧ (2 ≤ p.snapshot.sheetCount ∧ 2 = p.nextBody)
         ∧ (1 ≤ p.snapshot.sheetCount ∧ 1 < p.nextBody))
    ∧ (let p := samplePacket 0 (some 0) 1 .collecting
       p.snapshot.cover = false ∧ 2 ≤ p.snapshot.sheetCount ∧ p.nextBody < 2) := by decide

/-- UnplacedArrivalGivesUpTheSheet: the last entry of its key, and one with another behind it and one on the other lane. -/
theorem witness_unplaced_arrival :
    let e := sampleEntry 0#8 1#8 .unplaced
    let s := (withQueue .a [e] (sampleBase (sampleClass .active [.waiting] 0))).setUnplaced
      [{ key := { cls := 0, rank := 0 }, jobTag := 7#16 }]
    ((s.lane .a).inFault = false ∧ s.purge = .idle ∧ (s.lane .a).queue = e :: [] ∧ e.verdict = .unplaced
      ∧ ∀ d ∈ (s.lane .b).queue, d.verdict ≠ .unplaced)
    ∧ (((withQueue .a [e, e] s).lane .a).queue = e :: [e]
      ∧ ∀ d, ([e] : List Entry).head? = some d → (withQueue .a [e, e] s).now ≤ d.deadline)
    ∧ ∃ d ∈ ((withQueue .b [e] s).lane .b).queue, d.cls = e.cls ∧ d.rank = e.rank ∧ d.verdict = .unplaced :=
  ⟨by decide, ⟨by decide, (fun d h => Nat.zero_le _)⟩, by decide⟩

/-- UnplacedArrivalGivesUpTheSheet, the report: a HELD lane A that the pop releases, and one that stays HELD, below the tray threshold,
the report lane being A; the other lane is not it. -/
theorem witness_unplaced_report :
    let e := sampleEntry 0#8 1#8 .unplaced
    let s := fun (q : List Entry) => ((withQueue .a q (sampleBase (sampleClass .active [.waiting] 0))).setUnplaced
      [{ key := { cls := 0, rank := 0 }, jobTag := 7#16 }])
    let held := fun (q : List Entry) => ((s q).setLane .a { (s q).lane .a with state := .held }).setTray 236
    (∀ q ∈ [[e], [e, e]], HoldsSettled (held q) ∧ (held q).tray + 1 < (held q).settings.exceptionCapacity - 12
      ∧ ((held q).lane .a).inFault = false ∧ ((held q).lane .a).queue = q)
    ∧ (held [e]).settings.reportLane = .a ∧ Lane.b ≠ .a ∧ e.verdict = .unplaced := by
  refine ⟨?_, by decide⟩
  intro q hq
  simp only [List.mem_cons, List.not_mem_nil, or_false] at hq
  rcases hq with rfl | rfl <;> exact ⟨(lanesKept_of_check (by decide)).1, by decide⟩

/-- A lane A in FAULT whose only entry names a packet without a sheet, a fence pending on its slot or not. -/
def clearing (m : Bool) : State :=
  setSlot 0 (.occupied .collecting m { cls := 0, rank := 0 })
    ((arriving (.place 0)).setLane .a
      { LaneUnit.reset with state := .fault .jam, queue := [sampleEntry 0#8 1#8 (.place 0)] })

/-- LaneClearRestartsTheLane: code 2, a lane not in FAULT, one in FAULT with an empty queue at each side of the threshold, and one
whose only entry names a packet without a sheet, a fence pending or not. -/
theorem witness_lane_clear : 2 ≤ (2#8 : Byte).toNat ∧ (lawful.lane .b).inFault = false
    ∧ (((faulted []).lane .a).inFault = true ∧ ((faulted []).lane .a).queue = [] ∧ (faulted []).purge = .idle
      ∧ (faulted []).unplaced = [] ∧ (faulted []).settings.exceptionCapacity - 12 ≤ ((faulted []).setTray 238).tray
      ∧ ¬((faulted []).settings.exceptionCapacity - 12 ≤ ((faulted []).setTray 237).tray))
    ∧ ∀ m, let s := clearing m
      TowerKept s ∧ ClassesKept s ∧ (s.lane .a).inFault = true ∧ (s.lane .a).queue = [sampleEntry 0#8 1#8 (.place 0)]
        ∧ s.purge = .idle ∧ s.unplaced = []
        ∧ s.packet { cls := 0, rank := 0 } = some (samplePacket 0 (some 0) 1 .collecting)
        ∧ s.slot 0 = .occupied .collecting m { cls := 0, rank := 0 } ∧ (s.lane .b).queue = [] :=
  ⟨by decide, by decide, by decide, fun m => ⟨towerKept_of_check (by cases m <;> decide),
    classesKept_of_check (by cases m <;> decide), by cases m <;> decide⟩⟩

/-! ## Hypotheses met: the tower -/

/-- CollectionExpiryMakesThePacketStale: a stopped timer, no packet, and a running timer at its end. -/
theorem witness_collection_expiry :
    let p := { samplePacket 0 (some 0) 2 .collecting with timer := .running 0 }
    let s := withPacket .collecting true p (sampleBase (sampleClass .active [.opened, .held] 0))
    (∀ q ms, (arriving (.place 0)).packetIn 0 = some q → q.timer ≠ .running ms) ∧ State.reset.packetIn 23 = none
      ∧ TowerKept (setRank { cls := 0, rank := 1 } .waiting s)
      ∧ (setRank { cls := 0, rank := 1 } .waiting s).packetIn 0 = some p ∧ p.timer = .running 0 := by
  refine ⟨?_, by decide, towerKept_of_check (by decide), by decide⟩
  intro q ms h e
  have : (arriving (.place 0)).packetIn 0 = some (samplePacket 0 (some 0) 1 .collecting) := by decide
  rw [this] at h
  cases h
  cases e

/-- The hypotheses that the four clauses of CompletedPacketIsHandedOn share. -/
def completes (s : State) (rank : Byte) (p q : Packet) : Prop :=
  (s.lane .a).inFault = false ∧ HoldsSettled s ∧ TowerKept s ∧ ClassesKept s ∧ s.purge = .idle
    ∧ (s.lane .a).queue = sampleEntry rank 2#8 (.place 0) :: [] ∧ s.packetIn 0 = some p
    ∧ p.key = { cls := 0, rank := rank.toNat } ∧ p.generation = 1#8 ∧ p.flags.stale = false ∧ p.state = .collecting
    ∧ decidePlacement p 2 = .placed q ∧ AllSheetsIn q ∧ s.thickness 0 = some 100

/-- CompletedPacketIsHandedOn: DISORDERED, one rank below the cursor, at it, and one above it. -/
theorem witness_completed_packet :
    (∃ p q, completes (collecting [.opened, .waiting] 0 0 1 2#8) 0#8 p q ∧ q.flags.disordered = true)
    ∧ (∃ p q, completes (collecting [.opened, .waiting] 1 0 2 2#8) 0#8 p q ∧ q.flags.disordered = false
        ∧ p.key.rank + 1 = 1)
    ∧ (∃ p q, completes (collecting [.opened, .waiting] 0 0 2 2#8) 0#8 p q ∧ q.flags.disordered = false ∧ p.key.rank = 0)
    ∧ ∃ p q, completes (collecting [.waiting, .opened] 0 1 2 2#8) 1#8 p q ∧ q.flags.disordered = false
        ∧ 0 + 1 = p.key.rank :=
  ⟨⟨_, _, ⟨by decide, (lanesKept_of_check (by decide)).1, towerKept_of_check (by decide),
      classesKept_of_check (by decide), by decide, by decide, rfl, by decide, by decide, by decide, by decide,
      rfl, by decide, by decide⟩, by decide⟩,
    ⟨_, _, ⟨by decide, (lanesKept_of_check (by decide)).1, towerKept_of_check (by decide),
      classesKept_of_check (by decide), by decide, by decide, rfl, by decide, by decide, by decide, by decide,
      rfl, by decide, by decide⟩, by decide⟩,
    ⟨_, _, ⟨by decide, (lanesKept_of_check (by decide)).1, towerKept_of_check (by decide),
      classesKept_of_check (by decide), by decide, by decide, rfl, by decide, by decide, by decide, by decide,
      rfl, by decide, by decide⟩, by decide⟩,
    ⟨_, _, ⟨by decide, (lanesKept_of_check (by decide)).1, towerKept_of_check (by decide),
      classesKept_of_check (by decide), by decide, by decide, rfl, by decide, by decide, by decide, by decide,
      rfl, by decide, by decide⟩, by decide⟩⟩

/-- CompletedPacketIsHandedOn on a HELD lane that the tray count holds, and on one that the pop releases. -/
theorem witness_completed_packet_on_a_held_lane :
    let e := sampleEntry 0#8 2#8 (.place 0)
    (let s := heldLane [e] ((collecting [.opened, .waiting] 0 0 2 2#8).setTray 238)
     let t := s.setLane .b { s.lane .b with state := .held }
     ∃ p q, completes t 0#8 p q ∧ ¬PopReleases .a [] t)
    ∧ (let six := List.replicate 5 (sampleEntry 0#8 1#8 (.divert .rankDone))
       let s := heldLane (e :: six) (collecting [.opened, .waiting] 0 0 2 2#8)
       HoldsSettled s ∧ TowerKept s ∧ ClassesKept s ∧ PopReleases .a six s) :=
  ⟨⟨_, _, ⟨by decide, (lanesKept_of_check (by decide)).1, towerKept_of_check (by decide),
      classesKept_of_check (by decide), by decide, by decide, rfl, by decide, by decide, by decide, by decide,
      rfl, by decide, by decide⟩, by decide⟩,
    (lanesKept_of_check (by decide)).1, towerKept_of_check (by decide), classesKept_of_check (by decide), by decide⟩

/-- A key that waits for a slot. -/
def waitingKey : Waiting := { key := { cls := 0, rank := 1 }, jobTag := 9#16 }

/-- FencesAndGiftsFollowTheSlotState: slot numbers 24 and 23; a slot FREE, FENCED, occupied with each mark; a key that may wait. -/
theorem witness_fences : 24 ≤ (24#8 : Byte).toNat ∧ (23 : Fin 24).val = (23#8 : Byte).toNat
    ∧ (State.reset.slot 23 = .free ∧ State.reset.unplaced = [] ∧ (setSlot 23 .fenced State.reset).unplaced = [])
    ∧ (setSlot 23 .fenced State.reset).slot 23 = .fenced
    ∧ lawful.slot 0 = .occupied .collecting false { cls := 0, rank := 1 }
    ∧ (setSlot 23 (.occupied .held true { cls := 0, rank := 1 }) lawful).slot 23 = .occupied .held true { cls := 0, rank := 1 }
    ∧ ∀ x ∈ [Slot.free, .fenced],
      let s := (setSlot 23 x (sampleBase (sampleClass .active [.missed, .waiting] 1))).setUnplaced [waitingKey]
      s.slot 23 = x ∧ s.unplaced = waitingKey :: [] ∧ s.rankAt waitingKey.key = some .waiting
        ∧ (s.classRec 0).state = .active ∧ classCheck (s.classRec 0) = true ∧ (s.assignmentOf 0).isSome
        ∧ s.packet waitingKey.key = none := by decide

/-- ReliefSendsThePacketHeldLongest: the five conditions met, and the first failing alone. -/
theorem witness_relief :
    (let s := standstill [{ key := { cls := 0, rank := 0 }, jobTag := 1#16 }]
     TowerKept s ∧ ClassesKept s ∧ s.unplaced ≠ [] ∧ (∀ n, s.slot n ≠ .free) ∧ s.queued = [] ∧ s.fin.current = none
       ∧ s.held = { cls := 0, rank := 1 } :: [])
    ∧ (TowerKept (standstill []) ∧ ClassesKept (standstill []) ∧ (standstill []).unplaced = []) :=
  ⟨⟨towerKept_of_check (by decide), classesKept_of_check (by decide), by decide⟩, towerKept_of_check (by decide),
    classesKept_of_check (by decide), by decide⟩

/-! ## Hypotheses met: the Finishing Unit -/

/-- BudgetFollowsHeightPatternAndSettings: a packet for the tray, and heights at the stapler capacity and one above it. -/
theorem witness_budget :
    let p := samplePacket 0 (some 0) 3 .queued
    { p.flags with stale := true }.stale = true ∧ { p.flags with disordered := true }.disordered = true
      ∧ p.flags.stale = false ∧ p.flags.disordered = false
      ∧ { p with height := 4000 }.height ≤ Settings.default.staplerCapacity
      ∧ Settings.default.staplerCapacity < { p with height := 4001 }.height
      ∧ 1 ≤ (budgetOf Settings.default { p with height := 4000 }).staplesNeeded
      ∧ (budgetOf Settings.default { p with height := 4001 }).staplesNeeded = 0 := by decide

/-- A QUEUED packet of class 0, rank 0, in slot 0, in the normal queue, with flags, a supply and bin 0 of a capacity. -/
def queuedUp (f : PacketFlags) (supply capacity : Nat) : State :=
  setBin 0 { state := .ready, capacity := capacity, fill := 0, reserved := 0, jogSide := .left }
    (setSupply supply ((withPacket .queued false { samplePacket 0 (some 0) 3 .queued with flags := f }
      (sampleBase (sampleClass .active [.released, .waiting] 1))).setQueued
        [{ queue := .normal, key := { cls := 0, rank := 0 } }]))

/-- The entry of that packet. -/
def queuedEntry : Queued := { queue := .normal, key := { cls := 0, rank := 0 } }

/-- ExaminationTestsOrderDestinationAndStaples: the packet needs 1 staple and 4 units (200 um at loft 20, scale 6); bin 0 or bin
16 with exactly that room, with one less, a supply of 1 and of 0; bound for the tray with exactly its room and one less; an older
entry of its class. -/
theorem witness_examination :
    let p := samplePacket 0 (some 0) 3 .queued
    let s := queuedUp .clear 1 4
    (s.packet queuedEntry.key = some p ∧ queuedEntry ∈ s.queued)
    ∧ (budgetOf s.settings p).units = 4 ∧ (budgetOf s.settings p).staplesNeeded = 1
    ∧ (s.returnBin 0 = some 0 ∧ (s.bin 0).state = .ready ∧ (s.bin 0).fill + (s.bin 0).reserved + 4 ≤ (s.bin 0).capacity)
    ∧ ¬((queuedUp .clear 1 3).bin 0).fill + ((queuedUp .clear 1 3).bin 0).reserved + 4 ≤ ((queuedUp .clear 1 3).bin 0).capacity
    ∧ (s.bin 16).state ≠ .ready
    ∧ ((setBin 16 { state := .ready, capacity := 4, fill := 0, reserved := 0, jogSide := .left } (queuedUp .clear 1 3)).bin 16).state
        = .ready
    ∧ 1 ≤ s.fin.supply ∧ ¬1 ≤ (queuedUp .clear 0 4).fin.supply
    ∧ (let u := queuedUp { PacketFlags.clear with stale := true } 0 0
       (∃ q, u.packet queuedEntry.key = some q ∧ q.flags.stale = true ∧ q.sheetsHeld = 2)
         ∧ (u.setTray 248).tray + 2 ≤ u.settings.exceptionCapacity ∧ ¬(u.setTray 249).tray + 2 ≤ u.settings.exceptionCapacity)
    ∧ (let x : Queued := { queue := .normal, key := { cls := 0, rank := 2 } }
       [x, queuedEntry] = [x] ++ queuedEntry :: [] ∧ queuedEntry ∉ [x] ∧ x.key.cls = queuedEntry.key.cls) :=
  ⟨by decide, by decide, by decide, by decide, by decide, by decide, by decide, by decide, by decide,
    ⟨⟨_, rfl, by decide⟩, by decide⟩, by decide⟩

/-- TakeStartsTheFirstEligiblePacket: a unit in a stage, a packet blocked, and a packet eligible. -/
theorem witness_take :
    (finishing (.stage .jog) (some 1) false (sampleCurrent 0 0) [.released]).fin.unit ≠ .idle
    ∧ (let s := queuedUp .clear 0 4
       s.fin.unit = .idle ∧ examine queuedEntry s = .blocked .staplesOut
         ∧ s.queued.filter (fun q => q.queue = .express) ++ s.queued.filter (fun q => q.queue = .normal) = [queuedEntry])
    ∧ (let s := queuedUp .clear 1 4
       TowerKept s ∧ s.fin.unit = .idle
         ∧ s.queued.filter (fun q => q.queue = .express) ++ s.queued.filter (fun q => q.queue = .normal)
           = [] ++ queuedEntry :: []
         ∧ examine queuedEntry s = .eligible (.bin 0) (budgetOf s.settings (samplePacket 0 (some 0) 3 .queued))
         ∧ s.packet queuedEntry.key = some (samplePacket 0 (some 0) 3 .queued)
         ∧ (samplePacket 0 (some 0) 3 .queued).slot = some 0) :=
  ⟨by decide, by decide, towerKept_of_check (by decide), by decide⟩

/-- TransferDoneFreesTheSlot: another stage; TRANSFER with no fence, with a fence, and with a key waiting. -/
theorem witness_transfer_done :
    (finishing (.stage .jog) (some 1) false (sampleCurrent 0 0) [.released]).fin.unit.running ≠ some .transfer
    ∧ ∀ m, let s := setSlot 0 (.occupied .queued m { cls := 0, rank := 0 })
               (finishing (.stage .transfer) (some 2000) true (sampleCurrent 1 0) [.released, .missed])
           TowerKept s ∧ ClassesKept s ∧ s.fin.unit.running = some .transfer ∧ s.fin.current = some (sampleCurrent 1 0)
             ∧ s.packet { cls := 0, rank := 0 } = some (samplePacket 0 (some 0) 3 .finishing)
             ∧ s.slot 0 = .occupied .queued m { cls := 0, rank := 0 } ∧ s.unplaced = [] ∧ s.purge = .idle :=
  ⟨by decide, fun m => ⟨towerKept_of_check (by cases m <;> decide), classesKept_of_check (by cases m <;> decide),
    by cases m <;> decide⟩⟩

/-- TransferDoneFreesTheSlot with a key that waits: no other slot is FREE. -/
theorem witness_transfer_done_with_a_key_waiting :
    let s := (setSlot 0 (.occupied .queued false { cls := 0, rank := 0 })
      ((finishing (.suspendPending .transfer) (some 2000) true (sampleCurrent 1 0) [.released, .waiting]).setSlots
        (Vector.replicate 24 .fenced))).setUnplaced [waitingKey]
    TowerKept s ∧ ClassesKept s ∧ s.purge = .idle ∧ s.fin.unit.running = some .transfer ∧ s.unplaced = waitingKey :: []
      ∧ s.slot 0 = .occupied .queued false { cls := 0, rank := 0 } :=
  ⟨towerKept_of_check (by decide), classesKept_of_check (by decide), by decide⟩

/-- JogAndStapleDoneStartTheNextStage: none of two staples placed, both placed; the last but one, and the last. -/
theorem witness_jog_and_staple :
    (finishing (.stage .eject) (some 1) false (sampleCurrent 0 0) [.released]).fin.unit.running ≠ some .jog
    ∧ (finishing (.stage .eject) (some 1) false (sampleCurrent 0 0) [.released]).fin.unit.running ≠ some .staple
    ∧ (let s := fun (g : Stage) (n : Nat) => finishing (.stage g) (some 1) false (sampleCurrent 2 n) [.released]
       ∀ n, n < 3 → (s .jog n).fin.current = some (sampleCurrent 2 n)
         ∧ (s .jog n).packet { cls := 0, rank := 0 } = some (samplePacket 0 none 3 .finishing)
         ∧ (s .jog n).fin.unit.running = some .jog ∧ (s .staple n).fin.unit.running = some .staple)
    ∧ ((sampleCurrent 2 1).staplesPlaced < (sampleCurrent 2 1).staplesNeeded
      ∧ (sampleCurrent 2 2).staplesNeeded ≤ (sampleCurrent 2 2).staplesPlaced
      ∧ (sampleCurrent 2 1).staplesPlaced + 1 = (sampleCurrent 2 1).staplesNeeded
      ∧ (sampleCurrent 2 0).staplesPlaced + 1 ≠ (sampleCurrent 2 0).staplesNeeded) := by decide

/-- EjectDoneDeliversThePacket: another stage; a packet whose class goes on, and one that completes its class. -/
theorem witness_eject_done :
    (finishing (.stage .jog) (some 1) false (sampleCurrent 0 0) [.released]).fin.unit.running ≠ some .eject
    ∧ (let s := finishing (.stage .eject) (some 1) false (sampleCurrent 0 0) [.released, .missed]
       TowerKept s ∧ ClassesKept s ∧ s.fin.unit.running = some .eject ∧ s.fin.current = some (sampleCurrent 0 0)
         ∧ s.packet { cls := 0, rank := 0 } = some (samplePacket 0 none 3 .finishing)
         ∧ (s.classRec 0).cursor = (s.classRec 0).size ∧ (s.classRec 0).countOf .waiting = 0 ∧ s.packets.length = 1)
    ∧ (let s := finishing (.stage .eject) (some 1) false (sampleCurrent 0 0) [.released, .missed]
       let t := s.setClassRec 0 (sampleClass .active [.released, .waiting] 1)
       TowerKept t ∧ ClassesKept t ∧ (t.classRec 0).cursor ≠ (t.classRec 0).size) :=
  ⟨by decide, ⟨towerKept_of_check (by decide), classesKept_of_check (by decide), by decide⟩,
    towerKept_of_check (by decide), classesKept_of_check (by decide), by decide⟩

/-- EjectDoneDeliversThePacket to the tray: two sheets that leave the count below the threshold of 238, that bring it there from a
RUNNING lane, and that find it there. -/
theorem witness_eject_done_to_the_tray :
    let c : Current := { sampleCurrent 0 0 with target := .tray, units := 0 }
    let s := fun (tray : Nat) =>
      (setBin 0 Bin.reset (finishing (.stage .eject) (some 1) false c [.released, .missed])).setTray tray
    (TowerKept (s 0) ∧ ClassesKept (s 0) ∧ (s 0).fin.unit.running = some .eject ∧ (s 0).fin.current = some c ∧ c.target = .tray)
    ∧ (∃ p, (s 0).packet c.key = some p ∧ p.sheetsHeld = 2)
    ∧ ((s 235).tray + 2 < (s 235).settings.exceptionCapacity - 12 ∧ (s 236).settings.exceptionCapacity - 12 ≤ (s 236).tray + 2
      ∧ (s 236).tray < (s 236).settings.exceptionCapacity - 12 ∧ ((s 236).lane .a).state = .running
      ∧ ¬(s 238).tray < (s 238).settings.exceptionCapacity - 12) :=
  ⟨⟨towerKept_of_check (by decide), classesKept_of_check (by decide), by decide⟩, ⟨_, rfl, by decide⟩, by decide⟩

/-- FaultsStopTheUnit: STAPLE, another stage, a stage with its timer, and a unit at rest. -/
theorem witness_unit_faults :
    (let s := finishing (.suspendPending .staple) (some 1) false (sampleCurrent 2 0) [.released]
     s.fin.unit.running = some .staple ∧ s.fin.unit.running ≠ none ∧ s.fin.timer ≠ none)
    ∧ State.reset.fin.unit.running ≠ some .staple ∧ State.reset.fin.unit.running = none := by decide

/-- FinisherClearRestartsThePacket: outcome byte 2; IDLE; FAULT with no packet; FAULT with one in its slot, and with one out of it. -/
theorem witness_finisher_clear : 2 ≤ (2#8 : Byte).toNat ∧ (∀ c m, State.reset.fin.unit ≠ .fault c m)
    ∧ (let s := setUnit (.fault .jam true) State.reset
       s.fin.unit = .fault .jam true ∧ s.fin.current = none)
    ∧ (let s := finishing (.fault .misfire false) none true (sampleCurrent 2 1) [.released]
       s.fin.unit = .fault .misfire false ∧ s.fin.current = some (sampleCurrent 2 1) ∧ s.slotOf { cls := 0, rank := 0 } = some 0)
    ∧ (let s := finishing (.fault .timeout true) none false (sampleCurrent 2 1) [.released]
       s.fin.unit = .fault .timeout true ∧ s.slotOf { cls := 0, rank := 0 } = none) :=
  ⟨by decide, (by intro c m h; cases h), by decide, by decide, by decide⟩

/-- FinisherClearRemovesThePacket: a packet in its slot that completes its class, and one out of its slot whose class goes on. -/
theorem witness_finisher_removed :
    (let s := finishing (.fault .jam false) none true (sampleCurrent 2 1) [.released, .missed]
     TowerKept s ∧ ClassesKept s ∧ s.fin.unit = .fault .jam false ∧ s.fin.current = some (sampleCurrent 2 1)
       ∧ s.packet { cls := 0, rank := 0 } = some (samplePacket 0 (some 0) 3 .finishing) ∧ s.purge = .idle ∧ s.unplaced = []
       ∧ (s.classRec 0).cursor = (s.classRec 0).size ∧ (s.classRec 0).countOf .waiting = 0)
    ∧ (let s := (finishing (.fault .jam true) none false (sampleCurrent 2 1) [.released]).setClassRec 0
         (sampleClass .active [.released, .waiting] 1)
       TowerKept s ∧ ClassesKept s ∧ s.fin.unit = .fault .jam true ∧ s.fin.current = some (sampleCurrent 2 1)
         ∧ s.packet { cls := 0, rank := 0 } = some (samplePacket 0 none 3 .finishing) ∧ s.purge = .idle ∧ s.unplaced = []
         ∧ (s.classRec 0).cursor ≠ (s.classRec 0).size) :=
  ⟨⟨towerKept_of_check (by decide), classesKept_of_check (by decide), by decide⟩,
    towerKept_of_check (by decide), classesKept_of_check (by decide), by decide⟩

/-- FinisherClearRemovesThePacket with a key that waits: the packet has left its slot. -/
theorem witness_finisher_removed_with_a_key_waiting :
    let s := (((finishing (.fault .jam false) none false (sampleCurrent 2 1) [.released, .waiting]).setClassRec 0
      (sampleClass .active [.released, .waiting] 1)).setSlots (Vector.replicate 24 .fenced)).setUnplaced [waitingKey]
    TowerKept s ∧ ClassesKept s ∧ s.fin.unit = .fault .jam false ∧ s.fin.current = some (sampleCurrent 2 1) ∧ s.purge = .idle
      ∧ s.unplaced ≠ [] ∧ s.slotOf (sampleCurrent 2 1).key = none :=
  ⟨towerKept_of_check (by decide), classesKept_of_check (by decide), by decide⟩

/-! ## Hypotheses met: the bins, the tray and the Purge -/

/-- BinCommandsFollowTheBinState: bins 17 and 16; a capacity one below fill plus reserved and one equal to it. -/
theorem witness_bins : 17 ≤ (17#8 : Byte).toNat ∧ (16 : Fin 17).val = (16#8 : Byte).toNat
    ∧ (let r : Bin := { state := .full, capacity := 60, fill := 40, reserved := 20, jogSide := .left }
       (setBin 16 r State.reset).bin 16 = r ∧ max 1 (min 59 4095) < r.fill + r.reserved
         ∧ r.fill + r.reserved ≤ max 1 (min 60 4095)) := by decide

/-- A READY bin with fill 0 that is replaced leads to a pass, which takes a packet (R131, R135, R109). -/
theorem test_replacing_a_ready_bin_leads_to_a_pass : let s := queuedUp .clear 1 4
    (s.bin 0).state = .ready ∧ (s.bin 0).fill = 0 ∧ (after (.binReplaced 0) s).fin.unit = .stage .transfer := by decide

/-- EmptyingTheTrayReleasesTheLanes: a count at the threshold with lanes that six entries, an UNPLACED entry and a Purge still hold. -/
theorem witness_tray_emptied_on_lanes_still_held :
    let e := sampleEntry 0#8 1#8 (.divert .rankDone)
    let waits := sampleEntry 1#8 1#8 .unplaced
    let held := fun (q : List Entry) (s : State) =>
      let s := heldLane q (s.setTray 238)
      s.setLane .b { s.lane .b with state := .held }
    (let s := held (List.replicate 6 e) lawful
     HoldsSettled s ∧ SettingsInRange s.settings ∧ s.settings.exceptionCapacity - 12 ≤ s.tray ∧ (s.lane .a).state = .held
       ∧ 6 ≤ (s.lane .a).queue.length ∧ s.purge = .idle)
    ∧ (let s := held [waits] (lawful.setUnplaced [{ key := { cls := 0, rank := 1 }, jobTag := 7#16 }])
       HoldsSettled s ∧ SettingsInRange s.settings ∧ s.settings.exceptionCapacity - 12 ≤ s.tray ∧ (s.lane .a).state = .held
         ∧ ∃ d ∈ (s.lane .a).queue, d.verdict = .unplaced)
    ∧ (let s := (held [] lawful).setPurge (.inProgress .b 9#8)
       HoldsSettled s ∧ SettingsInRange s.settings ∧ s.settings.exceptionCapacity - 12 ≤ s.tray ∧ (s.lane .a).state = .held
         ∧ s.purge ≠ .idle) :=
  ⟨⟨(lanesKept_of_check (by decide)).1, (tablesInRange_of_check (by decide)).1, by decide⟩,
    ⟨(lanesKept_of_check (by decide)).1, (tablesInRange_of_check (by decide)).1, by decide⟩,
    (lanesKept_of_check (by decide)).1, (tablesInRange_of_check (by decide)).1, by decide⟩

/-- EmptyingTheTrayReleasesTheLanes: a count at the threshold that holds both lanes, and one below it. -/
theorem witness_tray_emptied :
    (let s := ((State.reset.setTray 238).setLane .a { LaneUnit.reset with state := .held }).setLane .b
       { LaneUnit.reset with state := .held }
     HoldsSettled s ∧ SettingsInRange s.settings ∧ s.settings.exceptionCapacity - 12 ≤ s.tray ∧ s.purge = .idle
       ∧ (s.lane .a).state = .held ∧ (s.lane .a).queue.length < 6 ∧ ∀ e ∈ (s.lane .a).queue, e.verdict ≠ .unplaced)
    ∧ (let s := State.reset.setTray 237
       HoldsSettled s ∧ SettingsInRange s.settings ∧ s.tray < s.settings.exceptionCapacity - 12) :=
  ⟨⟨(lanesKept_of_check (by decide)).1, (tablesInRange_of_check (by decide)).1, by decide⟩,
    (lanesKept_of_check (by decide)).1, (tablesInRange_of_check (by decide)).1, by decide⟩

/-- PurgeEmptiesTheTower: a Purge in progress, and a Purge of a tower with a HELD packet and a current one; room on both links. -/
theorem witness_purge : (State.reset.setPurge (.inProgress .b 9#8)).purge ≠ .idle
    ∧ (lawful.purge = .idle ∧ TowerKept lawful)
    ∧ (arrivingLate.purge = .idle ∧ TowerKept arrivingLate)
    ∧ (∀ m, (arrivingLate.link m).tx.length + 51 ≤ 128)
    ∧ (let s := finishing (.stage .transfer) (some 1) true (sampleCurrent 0 0) [.released]
       s.purge = .idle ∧ TowerKept s) :=
  ⟨by decide, ⟨by decide, towerKept_of_check (by decide)⟩, ⟨by decide, towerKept_of_check (by decide)⟩,
    (by intro m; cases m <;> decide), by decide, towerKept_of_check (by decide)⟩

/-- PurgeCompletesWhenBothPartsAreMet: no Purge, a part not met, and both met with both lanes held. -/
theorem witness_purge_completion : State.reset.purge = .idle
    ∧ ¬(((lawful.setPurge (.inProgress .b 9#8)).lane .a).queue = [])
    ∧ (let s := ((State.reset.setPurge (.inProgress .b 9#8)).setLane .a { LaneUnit.reset with state := .held }).setLane .b
         { LaneUnit.reset with state := .fault .jam }
       s.purge = .inProgress .b 9#8 ∧ ((s.lane .a).queue = [] ∧ (s.lane .b).queue = [])
         ∧ (∀ n, s.slot n = .free ∨ s.slot n = .fenced) ∧ (s.lane .a).state ≠ .running ∧ (s.lane .b).state ≠ .running) := by
  decide

end Sys2Proof.Tests
end

namespace Sys2Proof.ClassTable

open Sys2Proof.Machine Sys2Proof.Safety

/-! # Class records (R2): what every event but a load, an unload and a lock keeps of them

`ClassKept` is `ClassShape`, which every change of a rank keeps, and `AtRest`, which the cursor advance restores (R78, R79). -/

/-- `ClassKept` without the place at which the cursor rests (R2, R3, R5). -/
def ClassShape (r : ClassRec) : Prop :=
  (r.state = .empty ↔ r.body = none) ∧ r.cursor ≤ r.size
    ∧ (r.state = .empty → r.locked = false ∧ r.priority = false)
    ∧ (∀ b, r.body = some b → b.roster.length = b.size ∧ 1 ≤ b.size ∧ b.size ≤ 40)
    ∧ (∀ k, r.cursor ≤ k → r.rankAt k ≠ some .released ∧ r.rankAt k ≠ some .delivered)

/-- The cursor has reached the size or stands on a WAITING or OPEN rank (R6, R79). -/
def AtRest (r : ClassRec) : Prop := r.cursor < r.size → r.rankAt r.cursor = some .waiting ∨ r.rankAt r.cursor = some .opened

theorem classKept_iff (r : ClassRec) : ClassKept r ↔ ClassShape r ∧ AtRest r := by
  simp only [ClassKept, ClassShape, AtRest, and_assoc]

/-- The fields of a class body that only a Load Class sets, and the length of its roster (R10). -/
def loadedFields (b : ClassBody) : Nat × Nat × Fin 32 × Fin 16 := (b.size, b.roster.length, b.assignment, b.returnBin)

/-- Two records of one load of a class: they differ in stage, cursor and rank states at most. -/
structure SameLoad (r r' : ClassRec) : Prop where
  generation : r'.generation = r.generation
  priority : r'.priority = r.priority
  locked : r'.locked = r.locked
  empty : r'.state = .empty ↔ r.state = .empty
  fields : r'.body.map loadedFields = r.body.map loadedFields

theorem SameLoad.refl (r : ClassRec) : SameLoad r r := ⟨rfl, rfl, rfl, Iff.rfl, rfl⟩

theorem SameLoad.trans {r₁ r₂ r₃ : ClassRec} (h : SameLoad r₁ r₂) (h' : SameLoad r₂ r₃) : SameLoad r₁ r₃ :=
  ⟨h'.generation.trans h.generation, h'.priority.trans h.priority, h'.locked.trans h.locked, h'.empty.trans h.empty,
    h'.fields.trans h.fields⟩

theorem SameLoad.body_eq_none {r r' : ClassRec} (h : SameLoad r r') : r'.body = none ↔ r.body = none := by
  simpa using congrArg (· = none) h.fields

theorem SameLoad.size {r r' : ClassRec} (h : SameLoad r r') : r'.size = r.size := by
  have h := h.fields
  unfold ClassRec.size
  cases hb : r.body <;> cases hb' : r'.body <;> simp_all [loadedFields]

theorem SameLoad.lengths {r r' : ClassRec} (h : SameLoad r r')
    (hr : ∀ b, r.body = some b → b.roster.length = b.size ∧ 1 ≤ b.size ∧ b.size ≤ 40) :
    ∀ b, r'.body = some b → b.roster.length = b.size ∧ 1 ≤ b.size ∧ b.size ≤ 40 := by
  intro b' hb'
  have h := h.fields
  cases hb : r.body with
  | none => simp [hb, hb'] at h
  | some b =>
    simp only [hb, hb', Option.map_some, Option.some.injEq, loadedFields, Prod.mk.injEq] at h
    have := hr b hb
    omega

/-- The body of a record of the same load is there and has the fields of that load. -/
theorem SameLoad.exists_body {r r' : ClassRec} (h : SameLoad r r') {b : ClassBody} (hb : r.body = some b) :
    ∃ b', r'.body = some b' ∧ b'.size = b.size ∧ b'.roster.length = b.roster.length ∧ b'.assignment = b.assignment
      ∧ b'.returnBin = b.returnBin := by
  have hf := h.fields
  rw [hb] at hf
  cases hb' : r'.body with
  | none => simp [hb'] at hf
  | some b' =>
    simp only [hb', Option.map_some, Option.some.injEq, loadedFields, Prod.mk.injEq] at hf
    exact ⟨b', rfl, hf⟩

/-- A record of the same load has its shape when its cursor is in range and no RELEASED or DELIVERED rank stands at or above it. -/
theorem SameLoad.shape {r r' : ClassRec} (h : SameLoad r r') (hr : ClassShape r) (hc : r'.cursor ≤ r.size)
    (hk : ∀ k, r'.cursor ≤ k → r'.rankAt k ≠ some .released ∧ r'.rankAt k ≠ some .delivered) : ClassShape r' := by
  obtain ⟨hempty, -, hflags, hlen, -⟩ := hr
  refine ⟨by rw [h.empty, h.body_eq_none, hempty], by rw [h.size]; exact hc, fun he => ?_, h.lengths hlen, hk⟩
  rw [h.locked, h.priority]
  exact hflags (h.empty.mp he)

/-- The ranks of a record in shape are those below its size. -/
theorem ClassShape.rankAt_isSome {r : ClassRec} (h : ClassShape r) (k : Nat) : (r.rankAt k).isSome ↔ k < r.size := by
  obtain ⟨-, -, -, hlen, -⟩ := h
  unfold ClassRec.rankAt ClassRec.size
  cases hb : r.body with
  | none => simp
  | some b => simp [(hlen b hb).1]

/-! ## One rank, one stage -/

theorem sameLoad_withRank (r : ClassRec) (k : Nat) (x : RankState) : SameLoad r (r.withRank k x) := by
  refine ⟨rfl, rfl, rfl, Iff.rfl, ?_⟩
  simp only [ClassRec.withRank, Option.map_map]
  congr 1
  funext b
  simp [loadedFields]

@[simp] theorem withRank_cursor (r : ClassRec) (k : Nat) (x : RankState) : (r.withRank k x).cursor = r.cursor := rfl
@[simp] theorem withRank_state (r : ClassRec) (k : Nat) (x : RankState) : (r.withRank k x).state = r.state := rfl
@[simp] theorem withRank_size (r : ClassRec) (k : Nat) (x : RankState) : (r.withRank k x).size = r.size :=
  (sameLoad_withRank r k x).size

/-- A rank may take any state below the cursor, and any but RELEASED and DELIVERED at or above it. -/
theorem ClassShape.withRank {r : ClassRec} (h : ClassShape r) {k : Nat} {x : RankState}
    (hx : k < r.cursor ∨ (x ≠ .released ∧ x ≠ .delivered)) : ClassShape (r.withRank k x) := by
  have ⟨_, hc, _, _, hk⟩ := h
  refine (sameLoad_withRank r k x).shape h hc fun j hj => ?_
  rw [ClassRec.rankAt_withRank]
  split
  · rename_i e
    obtain ⟨rfl, -⟩ := e
    rw [withRank_cursor] at hj
    obtain hlt | ⟨h1, h2⟩ := hx
    · omega
    · simp [h1, h2]
  · exact hk j hj

/-- The cursor stays at rest when the rank at it keeps its state, or becomes WAITING or OPEN. -/
theorem AtRest.withRank {r : ClassRec} (h : AtRest r) {k : Nat} {x : RankState}
    (hx : k ≠ r.cursor ∨ x = .waiting ∨ x = .opened) : AtRest (r.withRank k x) := by
  intro hlt
  rw [withRank_size] at hlt
  rw [withRank_cursor, ClassRec.rankAt_withRank]
  split
  · rename_i e
    obtain ⟨rfl, -⟩ := e
    simpa using hx.resolve_left (fun e => e rfl)
  · exact h hlt

/-- A record whose stage alone has changed, between stages that are not EMPTY. -/
theorem sameLoad_withState {r : ClassRec} {x : ClassState} (hr : r.state ≠ .empty) (hx : x ≠ .empty) :
    SameLoad r { r with state := x } := ⟨rfl, rfl, rfl, by simp [hr, hx], rfl⟩

theorem ClassKept.withState {r : ClassRec} {x : ClassState} (h : ClassKept r) (hr : r.state ≠ .empty) (hx : x ≠ .empty) :
    ClassKept { r with state := x } := by
  rw [classKept_iff] at h ⊢
  obtain ⟨-, hc, -, -, hk⟩ := h.1
  exact ⟨(sameLoad_withState hr hx).shape h.1 hc hk, h.2⟩

/-! ## The cursor advance, on a record (R79) -/

/-- Whether the cursor moves over a rank in this state. -/
def isPassed : RankState → Bool
  | .excused => true
  | .missed => true
  | .relieved => true
  | .held => true
  | .waiting => false
  | .opened => false
  | .released => false
  | .delivered => false

/-- A record once the cursor has moved over the rank it stands on: a HELD one is released (R80). -/
def passRank (r : ClassRec) : ClassRec :=
  { (if r.rankAt r.cursor = some .held then r.withRank r.cursor .released else r) with cursor := r.cursor + 1 }

/-- A record after at most `fuel` steps of the cursor advance. -/
def advanced : Nat → ClassRec → ClassRec
  | 0, r => r
  | fuel + 1, r => if (r.rankAt r.cursor).any isPassed then advanced fuel (passRank r) else r

@[simp] theorem passRank_cursor (r : ClassRec) : (passRank r).cursor = r.cursor + 1 := rfl

theorem rankAt_passRank (r : ClassRec) (k : Nat) :
    (passRank r).rankAt k = if k = r.cursor ∧ r.rankAt k = some .held then some .released else r.rankAt k := by
  have hcur : ∀ (q : ClassRec) (n j : Nat), ({ q with cursor := n } : ClassRec).rankAt j = q.rankAt j := fun _ _ _ => rfl
  unfold passRank
  rw [hcur]
  split
  · rename_i hh
    rw [ClassRec.rankAt_withRank]
    by_cases hk : k = r.cursor
    · simp [hk, hh]
    · simp [hk]
  · rename_i hh
    split
    · rename_i e
      exact absurd (e.1 ▸ e.2) hh
    · rfl

theorem sameLoad_passRank (r : ClassRec) : SameLoad r (passRank r) := by
  have hcur : ∀ q : ClassRec, SameLoad q { q with cursor := r.cursor + 1 } := fun q => ⟨rfl, rfl, rfl, Iff.rfl, rfl⟩
  unfold passRank
  split
  · exact (sameLoad_withRank r _ _).trans (hcur _)
  · exact hcur r

@[simp] theorem passRank_state (r : ClassRec) : (passRank r).state = r.state := by
  unfold passRank
  split <;> rfl

/-- A state that the cursor moves over is that of a rank of the class. -/
theorem ClassShape.cursor_lt {r : ClassRec} (h : ClassShape r) (hp : (r.rankAt r.cursor).any isPassed = true) :
    r.cursor < r.size := by
  rw [← h.rankAt_isSome]
  cases hr : r.rankAt r.cursor with
  | none => simp [hr] at hp
  | some x => rfl

theorem ClassShape.passRank {r : ClassRec} (h : ClassShape r) (hp : (r.rankAt r.cursor).any isPassed = true) :
    ClassShape (passRank r) := by
  refine (sameLoad_passRank r).shape h (h.cursor_lt hp) fun k hk => ?_
  rw [passRank_cursor] at hk
  obtain ⟨-, -, -, -, hkept⟩ := h
  rw [rankAt_passRank, if_neg (by omega)]
  exact hkept k (by omega)

theorem sameLoad_advanced (fuel : Nat) (r : ClassRec) : SameLoad r (advanced fuel r) := by
  induction fuel generalizing r with
  | zero => exact .refl r
  | succ fuel ih =>
    unfold advanced
    split
    · exact (sameLoad_passRank r).trans (ih _)
    · exact .refl r

@[simp] theorem advanced_state (fuel : Nat) (r : ClassRec) : (advanced fuel r).state = r.state := by
  induction fuel generalizing r with
  | zero => rfl
  | succ fuel ih =>
    unfold advanced
    split
    · rw [ih, passRank_state]
    · rfl

theorem ClassShape.advanced {r : ClassRec} (h : ClassShape r) (fuel : Nat) : ClassShape (advanced fuel r) := by
  induction fuel generalizing r with
  | zero => exact h
  | succ fuel ih =>
    unfold ClassTable.advanced
    split
    · rename_i hp
      exact ih (h.passRank hp)
    · exact h

/-- A record at rest is not advanced. -/
theorem advanced_of_atRest {r : ClassRec} (h : ClassShape r) (hrest : AtRest r) (fuel : Nat) : advanced fuel r = r := by
  cases fuel with
  | zero => rfl
  | succ fuel =>
    unfold advanced
    split
    · rename_i hp
      obtain e | e := hrest (h.cursor_lt hp) <;> simp [e, isPassed] at hp
    · rfl

/-- As many steps as there are ranks at or above the cursor bring it to rest. -/
theorem ClassShape.advanced_atRest {r : ClassRec} (h : ClassShape r) {fuel : Nat} (hf : r.size ≤ r.cursor + fuel) :
    AtRest (ClassTable.advanced fuel r) := by
  induction fuel generalizing r with
  | zero =>
    intro hlt
    simp only [ClassTable.advanced] at hlt
    omega
  | succ fuel ih =>
    unfold ClassTable.advanced
    split
    · rename_i hp
      refine ih (h.passRank hp) ?_
      rw [(sameLoad_passRank r).size, passRank_cursor]
      omega
    · rename_i hp
      intro hlt
      obtain ⟨x, hx⟩ := Option.isSome_iff_exists.mp ((h.rankAt_isSome r.cursor).mpr hlt)
      obtain ⟨-, -, -, -, hk⟩ := h
      have hx' := hk r.cursor (Nat.le_refl _)
      cases x <;> simp_all [isPassed]

/-- What the advance leaves of a rank: it passes EXCUSED, MISSED, RELIEVED and HELD ranks only, and releases the HELD ones (R79, R80). -/
theorem advanced_spec (fuel : Nat) (r : ClassRec) :
    r.cursor ≤ (advanced fuel r).cursor
      ∧ (∀ k, r.cursor ≤ k → k < (advanced fuel r).cursor → (r.rankAt k).any isPassed = true)
      ∧ ∀ k, (advanced fuel r).rankAt k =
          if (r.cursor ≤ k ∧ k < (advanced fuel r).cursor) ∧ r.rankAt k = some .held then some .released else r.rankAt k := by
  induction fuel generalizing r with
  | zero =>
    refine ⟨Nat.le_refl _, fun k h1 h2 => absurd h2 (Nat.not_lt.mpr h1), fun k => ?_⟩
    rw [if_neg]
    · rfl
    · rintro ⟨⟨h1, h2⟩, -⟩
      exact absurd h2 (Nat.not_lt.mpr h1)
  | succ fuel ih =>
    unfold advanced
    split
    · rename_i hp
      obtain ⟨hle, hpass, hrank⟩ := ih (passRank r)
      rw [passRank_cursor] at hle hpass hrank
      refine ⟨by omega, fun k h1 h2 => ?_, fun k => ?_⟩
      · by_cases hk : k = r.cursor
        · exact hk ▸ hp
        · have := hpass k (by omega) h2
          rwa [rankAt_passRank, if_neg (fun e => hk e.1)] at this
      · rw [hrank, rankAt_passRank]
        by_cases hk : k = r.cursor
        · subst hk
          have : r.cursor < (advanced fuel (passRank r)).cursor := by omega
          by_cases hh : r.rankAt r.cursor = some .held <;> simp [hh, this]
        · have : (r.cursor + 1 ≤ k) ↔ r.cursor ≤ k := by omega
          simp [hk, this]
    · refine ⟨Nat.le_refl _, fun k h1 h2 => absurd h2 (Nat.not_lt.mpr h1), fun k => ?_⟩
      rw [if_neg]
      rintro ⟨⟨h1, h2⟩, -⟩
      exact absurd h2 (Nat.not_lt.mpr h1)

end Sys2Proof.ClassTable

namespace Sys2Proof.ClassTable

open Sys2Proof.Machine Sys2Proof.Safety

/-! # The class records after the shared operations -/

theorem classRec_congr {s t : State} (h : t.classes = s.classes) (c : Nat) : t.classRec c = s.classRec c := by
  simp [State.classRec, h]

theorem rankAt_congr {s t : State} (h : t.classes = s.classes) (k : Key) : t.rankAt k = s.rankAt k := by
  simp [State.rankAt, classRec_congr h]

/-- A class number with a record that is not EMPTY is below 48. -/
theorem lt_of_state_ne_empty {s : State} {c : Nat} (h : (s.classRec c).state ≠ .empty) : c < 48 := by
  by_contra hc
  exact h (by rw [classRec_of_le (Nat.not_lt.mp hc)]; rfl)

theorem lt_of_rankAt {s : State} {k : Key} {x : RankState} (h : s.rankAt k = some x) : k.cls < 48 := by
  by_contra hc
  rw [State.rankAt_of_le (Nat.not_lt.mp hc)] at h
  cases h

/-- A class record after the release of a packet: its rank is RELEASED (R80). -/
theorem classRec_release (s : State) (k : Key) (d : Nat) :
    (release k s).classRec d = if d = k.cls ∧ k.cls < 48 then (s.classRec k.cls).withRank k.rank .released else s.classRec d := by
  rw [← classRec_setRank s k .released d]
  exact classRec_congr (by simp [release]) d

/-- One step of the cursor advance of a class, taken where the rank at the cursor is one that the cursor moves over (R79). -/
def passOver (c : Nat) (s : State) : State :=
  bumpCursor c (if (s.classRec c).rankAt (s.classRec c).cursor = some .held then
    release { cls := c, rank := (s.classRec c).cursor } s else s)

theorem advance_succ (c fuel : Nat) (s : State) :
    advance c (fuel + 1) s
      = if ((s.classRec c).rankAt (s.classRec c).cursor).any isPassed then advance c fuel (passOver c s) else s := by
  rw [advance]
  split <;> rename_i h <;> simp [h, passOver, isPassed]

theorem classRec_passOver {c : Nat} (hc : c < 48) (s : State) (d : Nat) :
    (passOver c s).classRec d = if d = c then passRank (s.classRec c) else s.classRec d := by
  unfold passOver passRank bumpCursor
  rw [State.classRec_setClassRec]
  by_cases hh : (s.classRec c).rankAt (s.classRec c).cursor = some .held
  · simp only [if_pos hh, classRec_release]
    by_cases hd : d = c <;> simp [hd, hc]
  · simp [if_neg hh, hc]

theorem classRec_advance (c fuel : Nat) (s : State) (d : Nat) :
    (advance c fuel s).classRec d = if d = c then advanced fuel (s.classRec c) else s.classRec d := by
  induction fuel generalizing s with
  | zero =>
    by_cases hd : d = c <;> simp [advance, advanced, hd]
  | succ fuel ih =>
    rw [advance_succ]
    unfold advanced
    split
    · rename_i hp
      have hc : c < 48 := by
        cases hr : (s.classRec c).rankAt (s.classRec c).cursor with
        | none => simp [hr] at hp
        | some x => exact lt_of_rankAt (s := s) (k := { cls := c, rank := (s.classRec c).cursor }) hr
      rw [ih, classRec_passOver hc, classRec_passOver hc]
      by_cases hd : d = c <;> simp [hd]
    · by_cases hd : d = c <;> simp [hd]

theorem classRec_cursorAdvance (c : Nat) (s : State) (d : Nat) :
    (cursorAdvance c s).classRec d
      = if d = c then advanced (s.classRec c).size (s.classRec c) else s.classRec d :=
  classRec_advance c _ s d

/-- The done condition changes the stage of an ACTIVE class to DONE, and no other field of a class record (R8, R94). -/
theorem classRec_doneCheck (c : Nat) (s : State) (d : Nat) :
    (doneCheck c s).classRec d
      = if d = c ∧ (s.classRec c).state = .active ∧ s.doneCondition c = true then { s.classRec c with state := .done }
        else s.classRec d := by
  unfold doneCheck
  split
  · rename_i h
    simp only [Bool.and_eq_true, decide_eq_true_eq] at h
    have hc : c < 48 := lt_of_state_ne_empty (by rw [h.1]; decide)
    rw [classRec_congr (s := setClassState c .done s) (by simp), classRec_setClassState]
    simp [h, hc]
  · rename_i h
    simp only [Bool.and_eq_true, decide_eq_true_eq] at h
    rw [if_neg (fun e => h e.2)]

/-! ## How an event changes the class records -/

/-- From `s` to `t` every class record stays of the same load and in shape; but for the class `busy`, whose cursor advance is
still to come (R78), a record that was kept is kept. -/
structure ClassesEvolve (busy : Option Nat) (s t : State) : Prop where
  load : ∀ c, SameLoad (s.classRec c) (t.classRec c)
  shape : ∀ c, ClassShape (s.classRec c) → ClassShape (t.classRec c)
  kept : ∀ c, busy ≠ some c → ClassKept (s.classRec c) → ClassKept (t.classRec c)

namespace ClassesEvolve

variable {busy : Option Nat} {s t u : State}

theorem of_classes_eq (h : t.classes = s.classes) : ClassesEvolve busy s t := by
  have e := classRec_congr h
  exact ⟨fun c => e c ▸ .refl _, fun c => e c ▸ id, fun c _ => e c ▸ id⟩

theorem refl (s : State) : ClassesEvolve busy s s := of_classes_eq rfl

theorem trans (h : ClassesEvolve busy s t) (h' : ClassesEvolve busy t u) : ClassesEvolve busy s u :=
  ⟨fun c => (h.load c).trans (h'.load c), fun c => h'.shape c ∘ h.shape c, fun c hc => h'.kept c hc ∘ h.kept c hc⟩

/-- Nothing but `classes` counts at either end. -/
theorem congr {s' t' : State} (h : ClassesEvolve busy s t) (hs : s'.classes = s.classes) (ht : t'.classes = t.classes) :
    ClassesEvolve busy s' t' :=
  (of_classes_eq hs.symm).trans (h.trans (of_classes_eq ht))

theorem toState (h : ClassesEvolve busy s t) (hu : u.classes = t.classes) : ClassesEvolve busy s u := h.congr rfl hu

theorem withBusy (h : ClassesEvolve none s t) : ClassesEvolve busy s t :=
  ⟨h.load, h.shape, fun c _ => h.kept c (by simp)⟩

theorem classesKept (h : ClassesEvolve none s t) (hs : ClassesKept s) : ClassesKept t := fun c => h.kept c (by simp) (hs c)

/-- The records of all classes but `c` stay, and that of `c` goes on from the old one. -/
theorem of_record {c : Nat} (hd : ∀ d, d ≠ c → t.classRec d = s.classRec d)
    (hload : SameLoad (s.classRec c) (t.classRec c)) (hshape : ClassShape (s.classRec c) → ClassShape (t.classRec c))
    (hkept : busy ≠ some c → ClassKept (s.classRec c) → ClassKept (t.classRec c)) : ClassesEvolve busy s t := by
  refine ⟨fun d => ?_, fun d => ?_, fun d hb => ?_⟩ <;> rcases eq_or_ne d c with rfl | hdc
  · exact hload
  · exact hd d hdc ▸ .refl _
  · exact hshape
  · exact hd d hdc ▸ id
  · exact hkept hb
  · exact hd d hdc ▸ id

end ClassesEvolve

/-- A rank set to a state that may stand at or above the cursor; the cursor advance of its class is still to come (R76, R78). -/
theorem setRank_evolves (k : Key) {x : RankState} (hx : x ≠ .released ∧ x ≠ .delivered) (s : State) :
    ClassesEvolve (some k.cls) s (setRank k x s) := by
  have e := classRec_setRank s k x
  by_cases hc : k.cls < 48
  · refine .of_record (c := k.cls) (fun d hd => by simp [e, hd]) ?_ ?_ (fun h => absurd rfl h) <;>
      rw [e, if_pos ⟨rfl, hc⟩]
    · exact sameLoad_withRank _ _ _
    · exact fun h => h.withRank (.inr hx)
  · exact ⟨fun c => by simp [e, hc, SameLoad.refl], fun c => by simp [e, hc], fun c _ => by simp [e, hc]⟩

/-- A rank that becomes WAITING or OPEN holds the cursor where it is. -/
theorem setRank_holds_cursor (k : Key) {x : RankState} (hx : x = .waiting ∨ x = .opened) (s : State) :
    ClassesEvolve none s (setRank k x s) := by
  have hx' : x ≠ .released ∧ x ≠ .delivered := by rcases hx with rfl | rfl <;> decide
  have h := setRank_evolves k hx' s
  refine ⟨h.load, h.shape, fun c _ => ?_⟩
  rw [classRec_setRank, classKept_iff, classKept_iff]
  split
  · rename_i e
    rw [e.1]
    exact fun hr => ⟨hr.1.withRank (.inr hx'), hr.2.withRank (.inr hx)⟩
  · exact id

/-- A RELEASED rank stands below the cursor, so it may take any state there (R91). -/
theorem endRank_evolves (k : Key) (x : RankState) (s : State) : ClassesEvolve none s (endRank k x s) := by
  unfold endRank
  split
  · rename_i hr
    have hc := lt_of_rankAt hr
    have e := classRec_setRank s k x
    have hlt : ClassShape (s.classRec k.cls) → k.rank < (s.classRec k.cls).cursor := fun ⟨_, _, _, _, hk⟩ => by
      by_contra hle
      exact (hk k.rank (Nat.not_lt.mp hle)).1 hr
    refine .of_record (c := k.cls) (fun d hd => by simp [e, hd]) ?_ ?_ (fun _ => ?_) <;> rw [e, if_pos ⟨rfl, hc⟩]
    · exact sameLoad_withRank _ _ _
    · exact fun h => h.withRank (.inl (hlt h))
    · rw [classKept_iff, classKept_iff]
      exact fun h => ⟨h.1.withRank (.inl (hlt h.1)), h.2.withRank (.inl (by have := hlt h.1; omega))⟩
  · exact .refl s

/-- A class that is not EMPTY takes another such stage (R7). -/
theorem setClassState_evolves {c : Nat} {x : ClassState} {s : State} (hs : (s.classRec c).state ≠ .empty)
    (hx : x ≠ .empty) : ClassesEvolve none s (setClassState c x s) := by
  have hc := lt_of_state_ne_empty hs
  have e := fun d => classRec_setClassState s c d x
  refine .of_record (c := c) (fun d hd => by simp [e, hd]) ?_ ?_ (fun _ => ?_) <;> rw [e, if_pos ⟨rfl, hc⟩]
  · exact sameLoad_withState hs hx
  · exact fun ⟨h1, h2, h3, h4, h5⟩ => (sameLoad_withState hs hx).shape ⟨h1, h2, h3, h4, h5⟩ h2 h5
  · exact fun h => ClassKept.withState h hs hx

theorem activate_evolves (c : Nat) (s : State) : ClassesEvolve none s (activate c s) := by
  unfold activate
  split
  · rename_i h
    exact setClassState_evolves (by rw [h]; decide) (by decide)
  · exact .refl s

theorem cursorAdvance_evolves (c : Nat) (s : State) : ClassesEvolve none s (cursorAdvance c s) := by
  have e := classRec_cursorAdvance c s
  refine .of_record (c := c) (fun d hd => by simp [e, hd]) ?_ ?_ (fun _ => ?_) <;> rw [e, if_pos rfl]
  · exact sameLoad_advanced _ _
  · exact fun h => h.advanced _
  · rw [classKept_iff]
    intro h
    rw [advanced_of_atRest h.1 h.2]
    exact (classKept_iff _).mpr h

theorem doneCheck_evolves (c : Nat) (s : State) : ClassesEvolve none s (doneCheck c s) := by
  unfold doneCheck
  split
  · rename_i h
    simp only [Bool.and_eq_true, decide_eq_true_eq] at h
    exact (setClassState_evolves (x := .done) (by rw [h.1]; decide) (by decide)).toState (by simp)
  · exact .refl s

theorem orderStep_evolves (c : Nat) (s : State) : ClassesEvolve none s (orderStep c s) :=
  (cursorAdvance_evolves c s).trans (doneCheck_evolves c _)

/-- The cursor advance brings the busy class to rest (R78, R79). -/
theorem cursorAdvance_settles {c : Nat} {s t : State} (h : ClassesEvolve (some c) s t) :
    ClassesEvolve none s (cursorAdvance c t) := by
  have ha := h.trans (cursorAdvance_evolves c t).withBusy
  refine ⟨ha.load, ha.shape, fun d _ hd => ?_⟩
  rcases eq_or_ne d c with rfl | hdc
  · have hs := h.shape d ((classKept_iff _).mp hd).1
    rw [classRec_cursorAdvance, if_pos rfl, classKept_iff]
    exact ⟨hs.advanced _, hs.advanced_atRest (by omega)⟩
  · exact ha.kept d (by simpa using hdc.symm) hd

/-- The Return Order Unit settles the class whose rank has changed (R78). -/
theorem orderStep_settles {c : Nat} {s t : State} (h : ClassesEvolve (some c) s t) : ClassesEvolve none s (orderStep c t) :=
  (cursorAdvance_settles h).trans (doneCheck_evolves c _)

/-! ## The Return Order Unit and the Staging Tower -/

theorem handCompleted_evolves (k : Key) (s : State) : ClassesEvolve none s (handCompleted k s) := by
  unfold handCompleted
  split
  · have h := setRank_evolves k (x := .relieved) (by decide) (updateFlags k (fun f => { f with late := true }) s)
    exact orderStep_settles (h.congr (by simp) (by simp))
  · exact orderStep_settles ((setRank_evolves k (x := .held) (by decide) s).toState (by simp))

theorem queueForTray_evolves (k : Key) (s : State) : ClassesEvolve none s (queueForTray k s) :=
  orderStep_settles ((setRank_evolves k (by decide) _).congr (by simp) rfl)

theorem relieve_evolves (k : Key) (s : State) : ClassesEvolve none s (relieve k s) := by
  have h := setRank_evolves k (x := .relieved) (by decide)
    (leaveHeld k (updateFlags k (fun f => { f with relieved := true }) s))
  exact orderStep_settles (h.congr (by simp) (by simp))

theorem tryRelief_evolves (s : State) : ClassesEvolve none s (tryRelief s) := by
  unfold tryRelief
  split
  · split
    · exact relieve_evolves _ s
    · exact .refl s
  · exact .refl s

theorem createPacket_evolves (k : Key) (n : Fin 24) (a : Assignment) (j : BitVec 16) (s : State) :
    ClassesEvolve none s (createPacket k n a j s) :=
  ((setRank_holds_cursor k (.inr rfl) _).congr (by simp) rfl).trans
    ((activate_evolves k.cls _).trans (orderStep_evolves k.cls _))

theorem allocate_evolves (n : Fin 24) (s : State) : ClassesEvolve none s (allocate n s) := by
  unfold allocate
  split
  · exact .refl s
  · rename_i u rest _
    split
    · rename_i a _
      exact (createPacket_evolves u.key n a u.jobTag (s.setUnplaced rest)).congr (by simp) (by simp)
    · exact .refl s

theorem freeSlot_evolves (n : Fin 24) (s : State) : ClassesEvolve none s (freeSlot n s) := by
  unfold freeSlot
  split
  · split
    · exact .of_classes_eq (by simp)
    · exact (allocate_evolves n _).congr (by simp) rfl
  · exact .refl s
  · exact .refl s

theorem leaveSlot_evolves (k : Key) (s : State) : ClassesEvolve none s (leaveSlot k s) := by
  unfold leaveSlot
  split
  · exact (freeSlot_evolves _ _).congr (by simp) rfl
  · exact .refl s

theorem dropPacket_evolves (k : Key) (n : Fin 24) (s : State) : ClassesEvolve none s (dropPacket k n s) :=
  ((freeSlot_evolves n _).congr (by simp) rfl).trans
    ((setRank_holds_cursor k (.inl rfl) _).trans (orderStep_evolves k.cls _))

theorem settlePlaced_evolves (p : Packet) (s : State) : ClassesEvolve none s (settlePlaced p s) := by
  unfold settlePlaced
  split
  · dsimp only
    split
    · exact (queueForTray_evolves p.key _).congr (by simp) rfl
    · exact (handCompleted_evolves p.key _).congr (by simp) rfl
  · exact .of_classes_eq (by simp)

theorem becomeStale_evolves (k : Key) (s : State) : ClassesEvolve none s (becomeStale k s) := by
  have h := queueForTray_evolves k
    (updatePacket k (fun p => { p with timer := .stopped, flags := { p.flags with stale := true } }) s)
  exact h.congr (by simp) (by simp [becomeStale])

/-! ## The take and the end of an event -/

theorem takePacket_evolves (k : Key) (t : Target) (b : Budget) (s : State) : ClassesEvolve none s (takePacket k t b s) := by
  unfold takePacket
  dsimp only
  split
  · exact (tryRelief_evolves _).congr (by simp) rfl
  · exact .of_classes_eq (by simp)

theorem selectFrom_evolves (qs : List Queued) (s : State) : ClassesEvolve none s (selectFrom qs s) := by
  induction qs generalizing s with
  | nil => exact .refl s
  | cons q rest ih =>
    unfold selectFrom
    split
    · exact ih s
    · exact (ih _).congr (by simp) rfl
    · exact takePacket_evolves _ _ _ s

theorem selectionPass_evolves (s : State) : ClassesEvolve none s (selectionPass s) := by
  unfold selectionPass
  split
  · exact selectFrom_evolves _ s
  · exact .refl s

theorem endEvent_evolves (s0 : State) (o : Occasion) (s : State) : ClassesEvolve none s (endEvent s0 o s) := by
  have relief : ∀ (b : Bool) (u : State), ClassesEvolve none u (if b then tryRelief u else u) := fun b u => by
    cases b
    · exact .refl u
    · exact tryRelief_evolves u
  have test : ∀ (b : Bool) (u : State), ClassesEvolve none u (if b then purgeTest u else u) := fun b u => by
    cases b <;> exact .of_classes_eq (by simp)
  have pass : ∀ (b : Bool) (u : State), ClassesEvolve none u (if b then selectionPass u else u) := fun b u => by
    cases b
    · exact .refl u
    · exact selectionPass_evolves u
  exact (relief _ s).trans ((test _ _).trans (pass _ _))

/-- An event evolves the class records when its own effects do. -/
theorem ClassesEvolve.endEvent {busy : Option Nat} {s t : State} (h : ClassesEvolve busy s t) (s0 : State) (o : Occasion) :
    ClassesEvolve busy s (endEvent s0 o t) := h.trans (endEvent_evolves s0 o t).withBusy

end Sys2Proof.ClassTable

namespace Sys2Proof.ClassTable

open Sys2Proof.Machine Sys2Proof.Safety

/-! # The class records after the events of the lanes, the tower and the Finishing Unit -/

/-! ## Lanes -/

theorem waitingVerdict_evolves (x : Announcement) (s : State) : ClassesEvolve none s (waitingVerdict x s).2 := by
  unfold waitingVerdict
  split
  · exact .refl s
  · split
    · exact .refl s
    · split
      · exact .refl s
      · split
        · exact createPacket_evolves _ _ _ _ s
        · exact (activate_evolves _ _).congr (by simp) rfl

theorem verdictOf_evolves (x : Announcement) (s : State) : ClassesEvolve none s (verdictOf x s).2 := by
  unfold verdictOf
  split
  · exact .refl s
  · split
    case h_8 => exact waitingVerdict_evolves x s
    all_goals exact .refl s

theorem takeAnnouncement_evolves (l : Lane) (x : Announcement) (s : State) :
    ClassesEvolve none s (takeAnnouncement l x s) := by
  refine ((verdictOf_evolves x s).toState ?_).endEvent _ _
  rw [(appendEntry_frame ..).2.2.2.2.2.2.2.2.2.2.2.2.2.1]
  split <;> simp

theorem enterFault_evolves (l : Lane) (c : LaneCause) (s : State) : ClassesEvolve none s (enterFault l c s) :=
  .of_classes_eq (by simp)

theorem onSheetAnnounce_evolves (l : Lane) (body : List Byte) (s : State) :
    ClassesEvolve none s (onSheetAnnounce l body s) := by
  unfold onSheetAnnounce
  split
  · exact .of_classes_eq (by simp)
  · split
    · exact .refl s
    · split
      · exact (enterFault_evolves l _ s).endEvent _ _
      · split
        · exact (enterFault_evolves l _ s).endEvent _ _
        · exact takeAnnouncement_evolves l _ s

theorem placeSheet_evolves (l : Lane) (e : Entry) (n : Fin 24) (p : Packet) (s : State) :
    ClassesEvolve none s (placeSheet l e n p s) := by
  unfold placeSheet
  split
  · exact (settlePlaced_evolves _ _).congr (by simp) rfl
  · dsimp only
    split
    · exact (dropPacket_evolves p.key n _).congr (by simp) rfl
    · exact .of_classes_eq (by simp)

theorem arrivePlaced_evolves (l : Lane) (e : Entry) (n : Fin 24) (s : State) :
    ClassesEvolve none s (arrivePlaced l e n s) := by
  have divert : ∀ r, ClassesEvolve none s (divertSheet l r (some e) s) := fun r => .of_classes_eq (by simp)
  unfold arrivePlaced
  split
  · exact divert _
  · split
    · split
      · exact placeSheet_evolves l e n _ s
      all_goals exact divert _
    · exact divert _

theorem arrive_evolves (l : Lane) (e : Entry) (s : State) : ClassesEvolve none s (arrive l e s) := by
  unfold arrive
  split
  · exact .of_classes_eq (by simp)
  · dsimp only
    split <;> exact .of_classes_eq (by simp)
  · exact arrivePlaced_evolves l e _ s

theorem arriveHead_evolves (l : Lane) (e : Entry) (rest : List Entry) (s : State) :
    ClassesEvolve none s (arriveHead l e rest s) := by
  have h : ClassesEvolve none s (arrive l e (evalHold l (retime l (setQueue l rest s)))) :=
    (arrive_evolves l e _).congr (by simp) rfl
  unfold arriveHead
  dsimp only
  split
  · exact h.trans (enterFault_evolves l _ _)
  · exact h

theorem onLaneEntry_evolves (l : Lane) (s : State) : ClassesEvolve none s (onLaneEntry l s) := by
  unfold onLaneEntry
  dsimp only
  split
  · exact .of_classes_eq (by simp)
  · split
    · exact .of_classes_eq (by simp)
    · exact ((arriveHead_evolves l _ _ _).congr (by simp) rfl).endEvent _ _

theorem onLaneJam_evolves (l : Lane) (s : State) : ClassesEvolve none s (onLaneJam l s) := by
  unfold onLaneJam
  split
  · exact .of_classes_eq (by simp)
  · exact (enterFault_evolves l _ s).endEvent _ _

theorem onTransitExpiry_evolves (l : Lane) (s : State) : ClassesEvolve none s (onTransitExpiry l s) := by
  unfold onTransitExpiry
  split
  · exact (enterFault_evolves l _ s).endEvent _ _
  · exact .refl s

theorem discardEffect_evolves (l : Lane) (e : Entry) (s : State) : ClassesEvolve none s (discardEffect l e s) := by
  unfold discardEffect
  split
  · exact .refl s
  · split <;> exact .of_classes_eq (by simp)
  · split
    · split
      · exact dropPacket_evolves _ _ s
      · exact .refl s
    · exact .refl s

theorem discardEntries_evolves (l : Lane) (fuel : Nat) (s : State) : ClassesEvolve none s (discardEntries l fuel s) := by
  induction fuel generalizing s with
  | zero => exact .refl s
  | succ fuel ih =>
    unfold discardEntries
    split
    · exact .refl s
    · exact ((discardEffect_evolves l _ _).congr (by simp) rfl).trans (ih _)

theorem clearLane_evolves (l : Lane) (s : State) : ClassesEvolve none s (clearLane l s) :=
  (discardEntries_evolves l (s.lane l).queue.length s).toState (by simp [clearLane])

/-- A request that its length turns away changes no class record (R143). -/
theorem withLength_evolves {k : DownKind} {l : Lane} {tag : Byte} {body : List Byte} {f : State → State} {s : State}
    (h : ClassesEvolve none s (f s)) : ClassesEvolve none s (withLength k l tag body f s) := by
  unfold withLength
  split
  · exact h
  · exact .of_classes_eq (by simp)

theorem onLaneClear_evolves (link : Lane) (tag : Byte) (body : List Byte) (s : State) :
    ClassesEvolve none s (onLaneClear link tag body s) := by
  apply withLength_evolves
  split
  · exact .of_classes_eq (by simp)
  · rename_i l _
    split
    · exact ((clearLane_evolves l s).toState (by simp)).endEvent _ _
    · exact .of_classes_eq (by simp)

/-! ## Bins and the Finishing Unit -/

theorem onLoadBin_evolves (link : Lane) (tag : Byte) (body : List Byte) (s : State) :
    ClassesEvolve none s (onLoadBin link tag body s) := by
  apply withLength_evolves
  split
  · exact .of_classes_eq (by simp)
  · dsimp only
    split
    · exact .of_classes_eq (by simp)
    · exact (ClassesEvolve.of_classes_eq (by simp)).endEvent _ _

theorem onBinReplaced_evolves (b : Fin 17) (s : State) : ClassesEvolve none s (onBinReplaced b s) :=
  (ClassesEvolve.of_classes_eq (by simp)).endEvent _ _

theorem onTrayEmptied_evolves (s : State) : ClassesEvolve none s (onTrayEmptied s) := by
  unfold onTrayEmptied
  refine ClassesEvolve.endEvent (.of_classes_eq ?_) _ _
  split <;> simp

theorem onTransferDone_evolves (s : State) : ClassesEvolve none s (onTransferDone s) := by
  unfold onTransferDone
  split
  · rename_i c _
    exact ((leaveSlot_evolves c.key s).toState (by simp)).endEvent _ _
  · exact .refl s

theorem onJogDone_evolves (s : State) : ClassesEvolve none s (onJogDone s) := by
  unfold onJogDone
  split
  · split <;> exact .of_classes_eq (by simp)
  · exact .refl s

theorem onStapleDone_evolves (s : State) : ClassesEvolve none s (onStapleDone s) := by
  unfold onStapleDone
  split
  · dsimp only
    split <;> exact .of_classes_eq (by simp)
  · exact .refl s

theorem onEjectDone_evolves (s : State) : ClassesEvolve none s (onEjectDone s) := by
  unfold onEjectDone
  split
  · rename_i c _
    split
    · rename_i p _
      extract_lets s1 s2 s3
      have h2 : ClassesEvolve none s s2 := (endRank_evolves c.key .delivered _).congr (by simp [s1]) rfl
      have h3 : ClassesEvolve none s s3 :=
        (h2.toState (u := setCurrent none (removePacket c.key s2)) (by simp)).trans (orderStep_evolves _ _)
      exact (h3.toState (by simp)).endEvent _ _
    · exact .refl s
  · exact .refl s

theorem onMisfire_evolves (s : State) : ClassesEvolve none s (onMisfire s) := by
  unfold onMisfire
  split <;> exact .of_classes_eq (by simp)

theorem onStageLimit_evolves (s : State) : ClassesEvolve none s (onStageLimit s) := by
  unfold onStageLimit
  split <;> exact .of_classes_eq (by simp)

theorem removeCurrent_evolves (mark : Bool) (c : Current) (p : Packet) (s : State) :
    ClassesEvolve none s (removeCurrent mark c p s) := by
  unfold removeCurrent
  extract_lets s1 s2 _ s3 s4
  have h2 : ClassesEvolve none s s2 := (leaveSlot_evolves c.key s1).congr (by simp [s1]) rfl
  have h3 : ClassesEvolve none s s3 := h2.toState (by simp [s3])
  have h4 : ClassesEvolve none s s4 := (h3.trans (endRank_evolves c.key .missed s3)).toState (by simp [s4])
  exact (h4.trans (orderStep_evolves c.key.cls s4)).toState (by simp)

theorem onFinisherClear_evolves (link : Lane) (tag : Byte) (body : List Byte) (s : State) :
    ClassesEvolve none s (onFinisherClear link tag body s) := by
  apply withLength_evolves
  dsimp only
  split
  case h_2 mark _ _ =>
    split
    · exact (ClassesEvolve.of_classes_eq (by simp)).endEvent _ _
    · rename_i c _
      split
      · exact .of_classes_eq (by simp)
      · rename_i p _ _
        exact ((removeCurrent_evolves mark c p s).toState (by simp)).endEvent _ _
      · exact (ClassesEvolve.of_classes_eq (by simp)).endEvent _ _
  all_goals exact .of_classes_eq (by simp)

theorem onSuspendFinishing_evolves (link : Lane) (tag : Byte) (body : List Byte) (s : State) :
    ClassesEvolve none s (onSuspendFinishing link tag body s) :=
  withLength_evolves (.of_classes_eq (by simp))

theorem onResumeFinishing_evolves (link : Lane) (tag : Byte) (body : List Byte) (s : State) :
    ClassesEvolve none s (onResumeFinishing link tag body s) :=
  withLength_evolves ((ClassesEvolve.of_classes_eq (by simp)).endEvent _ _)

theorem onCartridgeInserted_evolves (s : State) : ClassesEvolve none s (onCartridgeInserted s) :=
  (ClassesEvolve.of_classes_eq (by simp)).endEvent _ _

/-! ## Purge and tower -/

theorem dumpPacket_evolves (n : Fin 24) (p : Packet) (s : State) : ClassesEvolve none s (dumpPacket n p s) := by
  unfold dumpPacket
  extract_lets _ _ s1 s2
  have h : ClassesEvolve none s (freeSlot n (removePacket p.key s2)) :=
    (freeSlot_evolves n _).congr (by simp [s1, s2]) rfl
  exact orderStep_settles (h.withBusy.trans (setRank_evolves p.key (by decide) _))

theorem dumpSlot_evolves (n : Fin 24) (s : State) : ClassesEvolve none s (dumpSlot s n) := by
  unfold dumpSlot
  split
  · split
    · exact .refl s
    · exact dumpPacket_evolves n _ s
  · exact .refl s

theorem foldl_dumpSlot_evolves (ns : List (Fin 24)) (s : State) : ClassesEvolve none s (ns.foldl dumpSlot s) := by
  induction ns generalizing s with
  | nil => exact .refl s
  | cons n ns ih => exact (dumpSlot_evolves n s).trans (ih _)

theorem purgeTower_evolves (s : State) : ClassesEvolve none s (purgeTower s) :=
  (foldl_dumpSlot_evolves _ _).congr (by simp) rfl

theorem onPurge_evolves (link : Lane) (tag : Byte) (body : List Byte) (s : State) :
    ClassesEvolve none s (onPurge link tag body s) := by
  apply withLength_evolves
  split
  · exact .of_classes_eq (by simp)
  · exact (purgeTower_evolves (purgeLaneStart .b (purgeLaneStart .a (s.setPurge (.inProgress link tag))))).congr
      (by simp) (by simp)

theorem onFenceSlot_evolves (link : Lane) (tag : Byte) (body : List Byte) (s : State) :
    ClassesEvolve none s (onFenceSlot link tag body s) := by
  apply withLength_evolves
  split
  · exact .of_classes_eq (by simp)
  · split
    · exact (ClassesEvolve.of_classes_eq (by simp)).endEvent _ _
    all_goals exact .of_classes_eq (by simp)

theorem onUnfenceSlot_evolves (link : Lane) (tag : Byte) (body : List Byte) (s : State) :
    ClassesEvolve none s (onUnfenceSlot link tag body s) := by
  apply withLength_evolves
  split
  · exact .of_classes_eq (by simp)
  · rename_i n _
    split
    · exact ((allocate_evolves n (setSlot n .free s)).congr (by simp) (by simp)).endEvent _ _
    · split <;> exact .of_classes_eq (by simp)
    · exact .of_classes_eq (by simp)

theorem onCollectionExpiry_evolves (n : Fin 24) (s : State) : ClassesEvolve none s (onCollectionExpiry n s) := by
  unfold onCollectionExpiry
  split
  · split
    · exact (becomeStale_evolves _ s).endEvent _ _
    · exact .refl s
  · exact .refl s

theorem onSlotGift_evolves (n : Fin 24) (s : State) : ClassesEvolve none s (onSlotGift n s) := by
  unfold onSlotGift
  split
  · exact (allocate_evolves n s).endEvent _ _
  all_goals exact .refl s

/-! ## Queries and the requests of the Table Store that replace no class record -/

theorem onReadClass_evolves (link : Lane) (tag : Byte) (body : List Byte) (s : State) :
    ClassesEvolve none s (onReadClass link tag body s) := by
  apply withLength_evolves
  split <;> exact .of_classes_eq (by simp)

theorem onReadSlot_evolves (link : Lane) (tag : Byte) (body : List Byte) (s : State) :
    ClassesEvolve none s (onReadSlot link tag body s) := by
  apply withLength_evolves
  split <;> exact .of_classes_eq (by simp)

theorem onReadBin_evolves (link : Lane) (tag : Byte) (body : List Byte) (s : State) :
    ClassesEvolve none s (onReadBin link tag body s) := by
  apply withLength_evolves
  split <;> exact .of_classes_eq (by simp)

theorem onReadAttention_evolves (link : Lane) (tag : Byte) (body : List Byte) (s : State) :
    ClassesEvolve none s (onReadAttention link tag body s) := by
  apply withLength_evolves
  split <;> exact .of_classes_eq (by simp)

theorem onReadStatus_evolves (link : Lane) (tag : Byte) (body : List Byte) (s : State) :
    ClassesEvolve none s (onReadStatus link tag body s) :=
  withLength_evolves (.of_classes_eq (by simp))

theorem reopenDone_evolves (m : RosterMark) (c : Nat) (s : State) : ClassesEvolve none s (reopenDone m c s) := by
  unfold reopenDone
  split
  · rename_i h
    exact setClassState_evolves (by rw [h.2]; decide) (by decide)
  · exact .refl s

theorem applyMark_evolves (link : Lane) (tag : Byte) (m : RosterMark) (k : Key) (s : State) :
    ClassesEvolve none s (applyMark link tag m k s) := by
  have h : ClassesEvolve (some k.cls) s (reopenDone m k.cls (setRank k m.rankState s)) :=
    (setRank_evolves k (by cases m <;> decide) s).trans (reopenDone_evolves m k.cls _).withBusy
  exact (orderStep_settles (h.toState (by simp))).endEvent _ _

theorem onSetRosterMark_evolves (link : Lane) (tag : Byte) (body : List Byte) (s : State) :
    ClassesEvolve none s (onSetRosterMark link tag body s) := by
  have turned : ∀ code, ClassesEvolve none s (reply link tag code DownKind.setRosterMark.code [] s) :=
    fun code => .of_classes_eq (by simp)
  apply withLength_evolves
  dsimp only
  split
  · exact turned _
  · split
    · exact turned _
    · split
      · exact turned _
      · split
        · exact turned _
        · split
          · exact applyMark_evolves link tag _ _ s
          · exact turned _

/-- The ranks of a record after Close Class: WAITING ones are MISSED (R17). -/
theorem rankAt_closeRanks (r : ClassRec) (k : Nat) : r.closeRanks.rankAt k = (r.rankAt k).map RankState.closed := by
  unfold ClassRec.rankAt ClassRec.closeRanks
  cases r.body <;> simp

theorem sameLoad_closeRanks (r : ClassRec) : SameLoad r r.closeRanks := by
  refine ⟨rfl, rfl, rfl, Iff.rfl, ?_⟩
  simp only [ClassRec.closeRanks, Option.map_map]
  congr 1
  funext b
  simp [loadedFields]

theorem ClassShape.closeRanks {r : ClassRec} (h : ClassShape r) : ClassShape r.closeRanks := by
  have ⟨_, hc, _, _, hk⟩ := h
  refine (sameLoad_closeRanks r).shape h hc fun k hle => ?_
  have := hk k hle
  rw [rankAt_closeRanks]
  cases hr : r.rankAt k with
  | none => simp
  | some x => cases x <;> simp_all [RankState.closed]

/-- A class record after the four steps of Close Class: its LOADED stage is ACTIVE and its WAITING ranks are MISSED (R17). -/
theorem classRec_closeClass {c : Nat} (hc : c < 48) (s : State) (d : Nat) :
    (closeClass c s).classRec d
      = if d = c then ((activate c s).classRec c).closeRanks else (activate c s).classRec d := by
  rw [classRec_congr (s := (activate c s).setClassRec c ((activate c s).classRec c).closeRanks) (by simp [closeClass]),
    State.classRec_setClassRec]
  simp [hc]

theorem closeClass_evolves {c : Nat} (hc : c < 48) (s : State) : ClassesEvolve (some c) s (closeClass c s) := by
  refine (activate_evolves c s).withBusy.trans (.of_record (c := c) (fun d hd => ?_) ?_ ?_ (fun h => absurd rfl h))
  · rw [classRec_closeClass hc, if_neg hd]
  · rw [classRec_closeClass hc, if_pos rfl]
    exact sameLoad_closeRanks _
  · rw [classRec_closeClass hc, if_pos rfl]
    exact ClassShape.closeRanks

theorem onCloseClass_evolves (link : Lane) (tag : Byte) (body : List Byte) (s : State) :
    ClassesEvolve none s (onCloseClass link tag body s) := by
  apply withLength_evolves
  dsimp only
  split
  · exact .of_classes_eq (by simp)
  · rename_i hc
    split
    · exact .of_classes_eq (by simp)
    · exact (orderStep_settles ((closeClass_evolves (Nat.not_le.mp hc) s).toState (by simp))).endEvent _ _

theorem onLoadAssignment_evolves (link : Lane) (tag : Byte) (body : List Byte) (s : State) :
    ClassesEvolve none s (onLoadAssignment link tag body s) := by
  apply withLength_evolves
  split <;> exact .of_classes_eq (by simp)

theorem onLoadMedia_evolves (link : Lane) (tag : Byte) (body : List Byte) (s : State) :
    ClassesEvolve none s (onLoadMedia link tag body s) := by
  apply withLength_evolves
  split <;> exact .of_classes_eq (by simp)

theorem onLoadSettings_evolves (link : Lane) (tag : Byte) (body : List Byte) (s : State) :
    ClassesEvolve none s (onLoadSettings link tag body s) := by
  apply withLength_evolves
  split
  · exact .of_classes_eq (by simp)
  · dsimp only
    split
    · exact .of_classes_eq (by simp)
    · exact (ClassesEvolve.of_classes_eq (by simp)).endEvent _ _

end Sys2Proof.ClassTable

namespace Sys2Proof.ClassTable

open Sys2Proof.Machine Sys2Proof.Safety

/-! # Load Class, Unload Class and Lock Class; the class records over every command -/

/-- A request whose body has the length of its kind is acted on (R143). -/
theorem withLength_of_length {k : DownKind} {body : List Byte} (h : body.length = k.bodyLength) (l : Lane) (tag : Byte)
    (f : State → State) (s : State) : withLength k l tag body f s = f s := if_pos h

/-- A request whose body has another length is answered LENGTH (R143). -/
theorem withLength_of_ne {k : DownKind} {body : List Byte} (h : body.length ≠ k.bodyLength) (l : Lane) (tag : Byte)
    (f : State → State) (s : State) : withLength k l tag body f s = reply l tag .length k.code [] s := if_neg h

/-! ## A class record written twice, and an advance that releases nothing -/

theorem put_put {α : Type} {n : Nat} (v : Vector α n) (i : Fin n) (x y : α) : put (put v i x) i y = put v i y := by
  apply Vector.ext
  intro j hj
  by_cases h : j = i.val <;> simp [h]

theorem setClassRec_setClassRec (s : State) (c : Nat) (r r' : ClassRec) :
    (s.setClassRec c r).setClassRec c r' = s.setClassRec c r' := by
  unfold State.setClassRec
  by_cases hc : c < 48
  · simp [finOf_of_lt hc, put_put, State.setClasses]
  · simp [finOf_of_le (Nat.not_lt.mp hc)]

theorem setClassRec_classRec (s : State) (c : Nat) : s.setClassRec c (s.classRec c) = s := by
  unfold State.setClassRec State.classRec
  by_cases hc : c < 48
  · have : put s.classes ⟨c, hc⟩ s.classes[c] = s.classes := by
      apply Vector.ext
      intro j hj
      by_cases h : j = c
      · subst h
        simp
      · simp [h]
    simp [finOf_of_lt hc, this, State.setClasses]
  · simp [finOf_of_le (Nat.not_lt.mp hc)]

/-- An advance over a class without a HELD rank at or above the cursor moves the cursor and does nothing else (R79). -/
theorem advance_of_no_held (c fuel : Nat) (s : State)
    (h : ∀ k, (s.classRec c).cursor ≤ k → (s.classRec c).rankAt k ≠ some .held) :
    advance c fuel s = s.setClassRec c (advanced fuel (s.classRec c)) := by
  induction fuel generalizing s with
  | zero => exact (setClassRec_classRec s c).symm
  | succ fuel ih =>
    rw [advance_succ]
    unfold advanced
    split
    · rename_i hp
      have hc : c < 48 := by
        cases hr : (s.classRec c).rankAt (s.classRec c).cursor with
        | none => simp [hr] at hp
        | some x => exact lt_of_rankAt (s := s) (k := { cls := c, rank := (s.classRec c).cursor }) hr
      have hstep : passOver c s = s.setClassRec c (passRank (s.classRec c)) := by
        simp [passOver, passRank, bumpCursor, h _ (Nat.le_refl _)]
      have hrec : (passOver c s).classRec c = passRank (s.classRec c) := by simp [classRec_passOver hc]
      rw [ih _ fun k hk => ?_, hrec, hstep, setClassRec_setClassRec]
      rw [hrec, passRank_cursor] at hk
      rw [hrec, rankAt_passRank, if_neg (by omega)]
      exact h k (by omega)
    · exact (setClassRec_classRec s c).symm

theorem cursorAdvance_of_no_held (c : Nat) (s : State)
    (h : ∀ k, (s.classRec c).cursor ≤ k → (s.classRec c).rankAt k ≠ some .held) :
    cursorAdvance c s = s.setClassRec c (advanced (s.classRec c).size (s.classRec c)) :=
  advance_of_no_held c _ s h

/-- Nothing follows an event that has changed neither the packets nor the lists, but the pass it names itself. -/
theorem endEvent_of_lists_eq {s0 u : State} (hp : u.packets = s0.packets) (hh : u.held = s0.held) (hq : u.queued = s0.queued)
    (pass : Bool) :
    endEvent s0 { relief := false, purge := false, pass := pass } u = if pass then selectionPass u else u := by
  have hpk : ∀ k, u.packet k = s0.packet k := fun k => by simp [State.packet, hp]
  have hgift : giftedSince s0 u = false := by simp [giftedSince, hpk]
  have hheld : heldSince s0 u = false := by simp [heldSince, hh]
  have hqueued : queuedSince s0 u = false := by simp [queuedSince, hq]
  simp [endEvent, hgift, hheld, hqueued]

/-! ## The fields of a Load Class (R9) -/

/-- The FIELD checks of R9. -/
def FieldsInRange (body : List Byte) : Prop :=
  byteAt body 0 < 48 ∧ 1 ≤ byteAt body 1 ∧ byteAt body 1 ≤ 40 ∧ byteAt body 2 < 32 ∧ byteAt body 3 < 16 ∧ byteAt body 4 ≤ 1
    ∧ ∀ k, k < byteAt body 1 → byteAt body (5 + k) ≤ 1

/-- The rank state of an expect list mark (R10). -/
def rankOfMark (m : Nat) : RankState := if m = 1 then .excused else .waiting

theorem markOfCode_eq (m : Nat) : markOfCode m = if m ≤ 1 then some (rankOfMark m) else none := by
  match m with
  | 0 => rfl
  | 1 => rfl
  | m + 2 => rw [if_neg (by omega)]; rfl

theorem flagOfCode_eq (m : Nat) : flagOfCode m = if m ≤ 1 then some (decide (m = 1)) else none := by
  match m with
  | 0 => rfl
  | 1 => rfl
  | m + 2 => rw [if_neg (by omega)]; rfl

theorem rosterOf_eq (ms : List Byte) :
    rosterOf ms = if ∀ m ∈ ms, m.toNat ≤ 1 then some (ms.map (fun m => rankOfMark m.toNat)) else none := by
  induction ms with
  | nil => simp [rosterOf]
  | cons m ms ih =>
    rw [rosterOf, ih, markOfCode_eq]
    simp only [List.forall_mem_cons]
    by_cases hm : m.toNat ≤ 1
    · by_cases hms : ∀ m ∈ ms, m.toNat ≤ 1
      · rw [if_pos hm, if_pos hms, if_pos ⟨hm, hms⟩]
        rfl
      · rw [if_pos hm, if_neg hms, if_neg (fun h => hms h.2)]
    · simp [hm]

/-- The marks that a Load Class of `n` ranks carries. -/
theorem getElem?_marks {body : List Byte} {n k : Nat} (hk : k < n) (hn : 5 + n ≤ body.length) :
    ((body.drop 5).take n)[k]? = some (body.getD (5 + k) 0#8) := by
  have h : 5 + k < body.length := by omega
  simp [hk, h]

theorem length_marks {body : List Byte} {n : Nat} (hn : 5 + n ≤ body.length) : ((body.drop 5).take n).length = n := by
  simp only [List.length_take, List.length_drop]
  omega

theorem marks_le_one {body : List Byte} {n : Nat} (hn : 5 + n ≤ body.length) :
    (∀ m ∈ (body.drop 5).take n, m.toNat ≤ 1) ↔ ∀ k, k < n → byteAt body (5 + k) ≤ 1 := by
  constructor
  · intro h k hk
    exact h _ (List.mem_of_getElem? (getElem?_marks hk hn))
  · intro h m hm
    obtain ⟨k, hk⟩ := List.mem_iff_getElem?.mp hm
    have hlt : k < n := by
      have := (List.getElem?_eq_some_iff.mp hk).1
      rwa [length_marks hn] at this
    rw [getElem?_marks hlt hn] at hk
    exact Option.some.inj hk ▸ h k hlt

/-- The load that a body with its fields in range asks for (R10). -/
structure Loads (body : List Byte) (q : ClassLoad) : Prop where
  cls : q.cls = byteAt body 0
  size : q.body.size = byteAt body 1
  assignment : q.body.assignment.val = byteAt body 2
  returnBin : q.body.returnBin.val = byteAt body 3
  priority : q.priority = decide (byteAt body 4 = 1)
  length : q.body.roster.length = byteAt body 1
  roster : ∀ k, k < byteAt body 1 → q.body.roster[k]? = some (rankOfMark (byteAt body (5 + k)))

theorem ofBody_of_inRange {body : List Byte} (hlen : body.length = 45) (h : FieldsInRange body) :
    ∃ q, ClassLoad.ofBody body = some q ∧ Loads body q := by
  obtain ⟨h0, h1, h1', h2, h3, h4, hm⟩ := h
  have hn : 5 + byteAt body 1 ≤ body.length := by omega
  let roster := ((body.drop 5).take (byteAt body 1)).map (fun m => rankOfMark m.toNat)
  refine ⟨{ cls := byteAt body 0, priority := decide (byteAt body 4 = 1),
            body := { size := byteAt body 1, roster := roster, assignment := ⟨_, h2⟩, returnBin := ⟨_, h3⟩ } },
    ?_, rfl, rfl, rfl, rfl, rfl, ?_, fun k hk => ?_⟩
  · rw [ClassLoad.ofBody, if_pos ⟨h0, h1, h1'⟩, finOf_of_lt h2, finOf_of_lt h3, flagOfCode_eq, if_pos h4, rosterOf_eq,
      if_pos ((marks_le_one hn).mpr hm)]
  · rw [List.length_map, length_marks hn]
  · rw [List.getElem?_map, getElem?_marks hk hn]
    rfl

theorem inRange_of_ofBody {body : List Byte} {q : ClassLoad} (hlen : body.length = 45)
    (h : ClassLoad.ofBody body = some q) : FieldsInRange body := by
  unfold ClassLoad.ofBody at h
  dsimp only at h
  split at h
  · rename_i h0
    obtain ⟨h0, h1, h1'⟩ := h0
    split at h
    · rename_i a b p r ha hb hp hr
      rw [flagOfCode_eq] at hp
      rw [rosterOf_eq] at hr
      refine ⟨h0, h1, h1', finOf_eq_some.mp ha ▸ a.isLt, finOf_eq_some.mp hb ▸ b.isLt, ?_, ?_⟩
      · by_contra hc
        simp [hc] at hp
      · rw [← marks_le_one (by omega)]
        by_contra hc
        simp [hc] at hr
    · cases h
  · cases h

/-- A Load Class body is read exactly where its fields are in range, and then as R10 says. -/
theorem loads_of_ofBody {body : List Byte} {q : ClassLoad} (hlen : body.length = 45)
    (h : ClassLoad.ofBody body = some q) : Loads body q := by
  obtain ⟨q', h', hq'⟩ := ofBody_of_inRange hlen (inRange_of_ofBody hlen h)
  cases h.symm.trans h'
  exact hq'

/-! ## The record that a taken Load Class leaves -/

theorem rankAt_reloaded {body : List Byte} {q : ClassLoad} (h : Loads body q) (r : ClassRec) {k : Nat}
    (hk : k < byteAt body 1) : (r.reloaded q).rankAt k = some (rankOfMark (byteAt body (5 + k))) :=
  h.roster k hk

theorem rankAt_reloaded_eq_none {body : List Byte} {q : ClassLoad} (h : Loads body q) (r : ClassRec) {k : Nat}
    (hk : byteAt body 1 ≤ k) : (r.reloaded q).rankAt k = none := by
  apply rankAt_of_le
  intro b hb
  cases hb
  rwa [h.length]

/-- A new roster has WAITING and EXCUSED ranks only. -/
theorem rankAt_reloaded_ne {body : List Byte} {q : ClassLoad} (h : Loads body q) (r : ClassRec) (k : Nat) {x : RankState}
    (hx : x ≠ .waiting ∧ x ≠ .excused) : (r.reloaded q).rankAt k ≠ some x := by
  rcases lt_or_ge k (byteAt body 1) with hk | hk
  · rw [rankAt_reloaded h r hk]
    unfold rankOfMark
    split
    · exact fun e => hx.2 (Option.some.inj e).symm
    · exact fun e => hx.1 (Option.some.inj e).symm
  · simp [rankAt_reloaded_eq_none h r hk]

theorem reloaded_shape {body : List Byte} {q : ClassLoad} (hf : FieldsInRange body) (h : Loads body q) (r : ClassRec) :
    ClassShape (r.reloaded q) := by
  obtain ⟨-, h1, h1', -⟩ := hf
  refine ⟨by simp [ClassRec.reloaded], Nat.zero_le _, by simp [ClassRec.reloaded], fun b hb => ?_, fun k _ =>
    ⟨rankAt_reloaded_ne h r k (by decide), rankAt_reloaded_ne h r k (by decide)⟩⟩
  cases hb
  exact ⟨h.length.trans h.size.symm, h.size ▸ h1, h.size ▸ h1'⟩

/-- The record of class `c` after a taken Load Class: the new one, its leading EXCUSED ranks passed (R10, R79). -/
def loadedRec (r : ClassRec) (q : ClassLoad) : ClassRec := advanced q.body.size (r.reloaded q)

theorem loadedRec_kept {body : List Byte} {q : ClassLoad} (hf : FieldsInRange body) (h : Loads body q) (r : ClassRec) :
    ClassKept (loadedRec r q) := by
  have hs := reloaded_shape hf h r
  exact (classKept_iff _).mpr ⟨hs.advanced _, hs.advanced_atRest (by simp [ClassRec.reloaded, ClassRec.size])⟩

/-- A taken Load Class: the record, then the Reply, and nothing of the advance but the cursor. -/
theorem onLoadClass_taken {link : Lane} {tag : Byte} {body : List Byte} {s : State} {q : ClassLoad}
    (hlen : body.length = 45) (hq : ClassLoad.ofBody body = some q) (hl : (s.classRec q.cls).locked = false)
    (ha : (s.classRec q.cls).state ≠ .active) :
    onLoadClass link tag body s
      = (reply link tag .ok 0x10#8 [] (s.setClassRec q.cls ((s.classRec q.cls).reloaded q))).setClassRec q.cls
          (loadedRec (s.classRec q.cls) q) := by
  have hload := loads_of_ofBody hlen hq
  have hc : q.cls < 48 := hload.cls ▸ (inRange_of_ofBody hlen hq).1
  have hrec : (reply link tag .ok DownKind.loadClass.code [] (s.setClassRec q.cls ((s.classRec q.cls).reloaded q))).classRec
      q.cls = (s.classRec q.cls).reloaded q := by
    rw [classRec_congr (s := s.setClassRec q.cls ((s.classRec q.cls).reloaded q)) (by simp), State.classRec_setClassRec,
      if_pos ⟨rfl, hc⟩]
  rw [onLoadClass, withLength_of_length hlen]
  simp only [hq]
  rw [if_neg (by simp [hl, ha]), cursorAdvance_of_no_held, hrec, endEvent_of_lists_eq]
  · rfl
  · simp
  · simp
  · simp
  · intro k _
    rw [hrec]
    exact rankAt_reloaded_ne hload _ k (by decide)

/-! ## What a request about one record does to the records -/

/-- A taken Load Class of class `c` (R4, R9, R10). -/
structure Reloads (c : Nat) (s t : State) : Prop where
  others : ∀ d, d ≠ c → t.classRec d = s.classRec d
  unlocked : (s.classRec c).locked = false
  generation : (t.classRec c).generation = (s.classRec c).generation + 1#8
  state : (t.classRec c).state = .loaded
  kept : ClassKept (t.classRec c)

/-- A taken Unload Class of class `c` (R3, R11). -/
structure Unloads (c : Nat) (s t : State) : Prop where
  others : ∀ d, d ≠ c → t.classRec d = s.classRec d
  unlocked : (s.classRec c).locked = false
  record : t.classRec c = .emptyWith (s.classRec c).generation

/-- A taken Lock Class of class `c` (R12). -/
structure Locks (c : Nat) (s t : State) : Prop where
  others : ∀ d, d ≠ c → t.classRec d = s.classRec d
  loaded : (s.classRec c).state ≠ .empty
  record : t.classRec c = { s.classRec c with locked := true }

theorem onLoadClass_cases (link : Lane) (tag : Byte) (body : List Byte) (s : State) :
    ClassesEvolve none s (onLoadClass link tag body s) ∨ Reloads (byteAt body 0) s (onLoadClass link tag body s) := by
  by_cases hlen : body.length = 45
  · cases hq : ClassLoad.ofBody body with
    | none =>
      left
      apply withLength_evolves
      simp only [hq]
      exact .of_classes_eq (by simp)
    | some q =>
      by_cases hp : (s.classRec q.cls).locked = true ∨ (s.classRec q.cls).state = .active
      · left
        apply withLength_evolves
        simp only [hq]
        rw [if_pos hp]
        exact .of_classes_eq (by simp)
      · right
        rw [not_or, Bool.not_eq_true] at hp
        have hf := inRange_of_ofBody hlen hq
        have hload := loads_of_ofBody hlen hq
        have hc : q.cls < 48 := hload.cls ▸ hf.1
        rw [onLoadClass_taken hlen hq hp.1 hp.2, ← hload.cls]
        have hd : ∀ d, d ≠ q.cls → ((reply link tag .ok 0x10#8 []
            (s.setClassRec q.cls ((s.classRec q.cls).reloaded q))).setClassRec q.cls
              (loadedRec (s.classRec q.cls) q)).classRec d = s.classRec d := by
          intro d hd
          rw [State.classRec_setClassRec, if_neg (fun e => hd e.1),
            classRec_congr (s := s.setClassRec q.cls ((s.classRec q.cls).reloaded q)) (by simp), State.classRec_setClassRec,
            if_neg (fun e => hd e.1)]
        refine ⟨hd, hp.1, ?_, ?_, ?_⟩ <;> rw [State.classRec_setClassRec, if_pos ⟨rfl, hc⟩]
        · exact (sameLoad_advanced _ _).generation
        · simp [loadedRec, ClassRec.reloaded]
        · exact loadedRec_kept hf hload _
  · left
    rw [onLoadClass, withLength_of_ne hlen]
    exact .of_classes_eq (by simp)

/-- A request that writes one class record and is answered leaves the others. -/
theorem classRec_reply_setClassRec (link : Lane) (tag kind : Byte) (code : ReplyCode) (data : List Byte) (s : State) (c d : Nat)
    (r : ClassRec) :
    (reply link tag code kind data (s.setClassRec c r)).classRec d = if d = c ∧ c < 48 then r else s.classRec d := by
  rw [classRec_congr (s := s.setClassRec c r) (by simp), State.classRec_setClassRec]

theorem onUnloadClass_cases (link : Lane) (tag : Byte) (body : List Byte) (s : State) :
    ClassesEvolve none s (onUnloadClass link tag body s) ∨ ∃ c, Unloads c s (onUnloadClass link tag body s) := by
  unfold onUnloadClass withLength
  dsimp only
  split
  · split
    · exact .inl (.of_classes_eq (by simp))
    · rename_i hc
      split
      · exact .inl (.of_classes_eq (by simp))
      · rename_i hp
        rw [not_or, Bool.not_eq_true] at hp
        refine .inr ⟨byteAt body 0, fun d hd => ?_, hp.1, ?_⟩
        · rw [classRec_reply_setClassRec, if_neg (fun e => hd e.1)]
        · rw [classRec_reply_setClassRec, if_pos ⟨rfl, Nat.not_le.mp hc⟩]
  · exact .inl (.of_classes_eq (by simp))

theorem onLockClass_cases (link : Lane) (tag : Byte) (body : List Byte) (s : State) :
    ClassesEvolve none s (onLockClass link tag body s) ∨ ∃ c, Locks c s (onLockClass link tag body s) := by
  unfold onLockClass withLength
  dsimp only
  split
  · split
    · exact .inl (.of_classes_eq (by simp))
    · rename_i hc
      split
      · exact .inl (.of_classes_eq (by simp))
      · rename_i hp
        refine .inr ⟨byteAt body 0, fun d hd => ?_, hp, ?_⟩
        · rw [classRec_reply_setClassRec, if_neg (fun e => hd e.1)]
        · rw [classRec_reply_setClassRec, if_pos ⟨rfl, Nat.not_le.mp hc⟩]
  · exact .inl (.of_classes_eq (by simp))

/-! ## Every command -/

/-- What a command other than power-on may do to the class records: let them evolve, or take one Load Class, Unload Class or
Lock Class, a Load Class only of a class for which `load` holds. -/
inductive ClassesChange (load : Nat → Prop) (s t : State) : Prop where
  | evolve (h : ClassesEvolve none s t)
  | reload (c : Nat) (hc : load c) (h : Reloads c s t)
  | unload (c : Nat) (h : Unloads c s t)
  | lock (c : Nat) (h : Locks c s t)

/-- Nothing but `classes` counts at the start. -/
theorem ClassesChange.fromState {load : Nat → Prop} {s s' t : State} (h : ClassesChange load s t)
    (hs : s'.classes = s.classes) : ClassesChange load s' t := by
  have e := classRec_congr hs
  cases h with
  | evolve h => exact .evolve (h.congr hs rfl)
  | reload c hc h =>
    obtain ⟨h1, h2, h3, h4, h5⟩ := h
    exact .reload c hc ⟨fun d hd => (h1 d hd).trans (e d).symm, (e c) ▸ h2, (e c) ▸ h3, h4, h5⟩
  | unload c h =>
    obtain ⟨h1, h2, h3⟩ := h
    exact .unload c ⟨fun d hd => (h1 d hd).trans (e d).symm, (e c) ▸ h2, (e c) ▸ h3⟩
  | lock c h =>
    obtain ⟨h1, h2, h3⟩ := h
    exact .lock c ⟨fun d hd => (h1 d hd).trans (e d).symm, (e c) ▸ h2, (e c) ▸ h3⟩

theorem ClassesChange.mono {load load' : Nat → Prop} {s t : State} (h : ClassesChange load s t) (hl : ∀ c, load c → load' c) :
    ClassesChange load' s t := by
  cases h with
  | evolve h => exact .evolve h
  | reload c hc h => exact .reload c (hl c hc) h
  | unload c h => exact .unload c h
  | lock c h => exact .lock c h

/-- A frame handed to its owner takes a Load Class only where it is one (R144). -/
theorem handOver_classesChange (k : DownKind) (link : Lane) (tag : Byte) (body : List Byte) (s : State) :
    ClassesChange (fun c => k = .loadClass ∧ byteAt body 0 = c) s (handOver k link tag body s) := by
  cases k with
  | sheetAnnounce => exact .evolve (onSheetAnnounce_evolves ..)
  | loadClass => exact (onLoadClass_cases link tag body s).elim .evolve (.reload _ ⟨rfl, rfl⟩)
  | unloadClass => exact (onUnloadClass_cases link tag body s).elim .evolve fun ⟨c, h⟩ => .unload c h
  | lockClass => exact (onLockClass_cases link tag body s).elim .evolve fun ⟨c, h⟩ => .lock c h
  | setRosterMark => exact .evolve (onSetRosterMark_evolves ..)
  | closeClass => exact .evolve (onCloseClass_evolves ..)
  | loadAssignment => exact .evolve (onLoadAssignment_evolves ..)
  | loadMedia => exact .evolve (onLoadMedia_evolves ..)
  | loadBin => exact .evolve (onLoadBin_evolves ..)
  | loadSettings => exact .evolve (onLoadSettings_evolves ..)
  | laneClear => exact .evolve (onLaneClear_evolves ..)
  | finisherClear => exact .evolve (onFinisherClear_evolves ..)
  | suspendFinishing => exact .evolve (onSuspendFinishing_evolves ..)
  | resumeFinishing => exact .evolve (onResumeFinishing_evolves ..)
  | fenceSlot => exact .evolve (onFenceSlot_evolves ..)
  | unfenceSlot => exact .evolve (onUnfenceSlot_evolves ..)
  | purge => exact .evolve (onPurge_evolves ..)
  | readAttention => exact .evolve (onReadAttention_evolves ..)
  | readClass => exact .evolve (onReadClass_evolves ..)
  | readSlot => exact .evolve (onReadSlot_evolves ..)
  | readBin => exact .evolve (onReadBin_evolves ..)
  | readStatus => exact .evolve (onReadStatus_evolves ..)

theorem testKind_classesChange (link : Lane) (kind tag : Byte) (body : List Byte) (s : State) :
    ClassesChange (fun c => kind = 0x10#8 ∧ byteAt body 0 = c) s (testKind link kind tag body s) := by
  unfold testKind
  split
  · rename_i k hk
    refine (handOver_classesChange k link tag body s).mono fun c ⟨hload, hc⟩ => ⟨?_, hc⟩
    subst hload
    simpa [DownKind.code, eq_comm] using List.find?_some hk
  · exact .evolve (.of_classes_eq (by simp))

theorem onByte_classesChange (link : Lane) (b : Byte) (s : State) : ClassesChange (fun _ => True) s (onByte link b s) := by
  unfold onByte
  split
  · split <;> exact .evolve (.of_classes_eq (by simp))
  · unfold takeByte
    dsimp only
    split
    · exact .evolve (.of_classes_eq (by simp))
    · split
      · exact .evolve (.of_classes_eq (by simp))
      · unfold completeFrame
        dsimp only
        split
        · exact ((testKind_classesChange link _ _ _ _).mono fun _ _ => trivial).fromState (by simp)
        · exact .evolve (.of_classes_eq (by simp [discardFrame]))

/-- The commands that may take a Load Class of class `c`: a byte that completes one, and the two rows that carry one. -/
def MayLoad (i : Instr) (c : Nat) : Prop :=
  isByte i = true ∨ (∃ link tag body, i = .loadClass link tag body ∧ byteAt body 0 = c)
    ∨ ∃ link tag body, i = .unknownKindFrame link 0x10#8 tag body ∧ byteAt body 0 = c

/-- What any command but power-on does to the class records. -/
theorem exec_classesChange {i : Instr} {s t : State} (h : exec i s = .next t) (hi : i ≠ .powerOn) :
    ClassesChange (MayLoad i) s t := by
  have frame : ∀ (k : DownKind) (link : Lane) (tag : Byte) (body : List Byte), k ≠ .loadClass →
      ClassesChange (MayLoad i) s (handOver k link tag body (frameCompleted link s)) := fun k link tag body hk =>
    ((handOver_classesChange k link tag body _).mono fun _ hc => absurd hc.1 hk).fromState (by simp)
  have event : ∀ {u : State}, ClassesEvolve none (beginEvent s) u → ClassesChange (MayLoad i) s u := fun hu =>
    .evolve (hu.congr (by simp) rfl)
  cases i with
  | powerOn => exact absurd rfl hi
  | sheetAnnounce link body => cases h; exact frame .sheetAnnounce link 0#8 body (by decide)
  | loadClass link tag body =>
    cases h
    exact ((handOver_classesChange .loadClass link tag body _).mono fun _ hc =>
      .inr (.inl ⟨link, tag, body, rfl, hc.2⟩)).fromState (by simp)
  | unloadClass link tag body => cases h; exact frame .unloadClass link tag body (by decide)
  | lockClass link tag body => cases h; exact frame .lockClass link tag body (by decide)
  | setRosterMarkExcuse link tag fields => cases h; exact frame .setRosterMark link tag _ (by decide)
  | setRosterMarkExpect link tag fields => cases h; exact frame .setRosterMark link tag _ (by decide)
  | setRosterMarkRetry link tag fields => cases h; exact frame .setRosterMark link tag _ (by decide)
  | closeClass link tag body => cases h; exact frame .closeClass link tag body (by decide)
  | loadAssignment link tag body => cases h; exact frame .loadAssignment link tag body (by decide)
  | loadMedia link tag body => cases h; exact frame .loadMedia link tag body (by decide)
  | loadSettings link tag body => cases h; exact frame .loadSettings link tag body (by decide)
  | loadBin link tag body => cases h; exact frame .loadBin link tag body (by decide)
  | laneClear link tag body => cases h; exact frame .laneClear link tag body (by decide)
  | finisherClearRetry link tag fields => cases h; exact frame .finisherClear link tag _ (by decide)
  | finisherClearRemoved link tag fields => cases h; exact frame .finisherClear link tag _ (by decide)
  | fenceSlot link tag body => cases h; exact frame .fenceSlot link tag body (by decide)
  | unfenceSlot link tag body => cases h; exact frame .unfenceSlot link tag body (by decide)
  | suspendFinishing link tag body => cases h; exact frame .suspendFinishing link tag body (by decide)
  | resumeFinishing link tag body => cases h; exact frame .resumeFinishing link tag body (by decide)
  | purge link tag body => cases h; exact frame .purge link tag body (by decide)
  | readClass link tag body => cases h; exact frame .readClass link tag body (by decide)
  | readSlot link tag body => cases h; exact frame .readSlot link tag body (by decide)
  | readBin link tag body => cases h; exact frame .readBin link tag body (by decide)
  | readAttention link tag body => cases h; exact frame .readAttention link tag body (by decide)
  | readStatus link tag body => cases h; exact frame .readStatus link tag body (by decide)
  | badCheckFrame link => cases h; exact .evolve (.of_classes_eq (by simp [discardFrame]))
  | unknownKindFrame link kind tag body =>
    cases h
    refine ((testKind_classesChange link kind tag body _).mono fun _ hc => .inr (.inr ⟨link, tag, body, ?_, hc.2⟩)).fromState
      (by simp)
    rw [hc.1]
  | frameGapExpiry link =>
    cases h
    refine event ?_
    unfold onFrameGap
    split <;> exact .of_classes_eq (by simp)
  | frameSent link => cases h; exact event (.of_classes_eq (by simp [onFrameSent]))
  | laneEntry l => cases h; exact event (onLaneEntry_evolves l _)
  | laneJam l => cases h; exact event (onLaneJam_evolves l _)
  | transitTimerExpiry l => cases h; exact event (onTransitExpiry_evolves l _)
  | collectionTimerExpiry n => cases h; exact event (onCollectionExpiry_evolves n _)
  | transferDone => cases h; exact event (onTransferDone_evolves _)
  | jogDone => cases h; exact event (onJogDone_evolves _)
  | stapleDone => cases h; exact event (onStapleDone_evolves _)
  | stapleMisfire => cases h; exact event (onMisfire_evolves _)
  | ejectDone => cases h; exact event (onEjectDone_evolves _)
  | finisherJam => cases h; exact event (.of_classes_eq (by simp))
  | stageLimitExpiry => cases h; exact event (onStageLimit_evolves _)
  | binFull b => cases h; exact event (.of_classes_eq (by simp))
  | binRemoved b => cases h; exact event (.of_classes_eq (by simp))
  | binReplaced b => cases h; exact event (onBinReplaced_evolves b _)
  | exceptionTrayEmptied => cases h; exact event (onTrayEmptied_evolves _)
  | cartridgeInserted => cases h; exact event (onCartridgeInserted_evolves _)
  | take => cases h; exact event (selectionPass_evolves _)
  | slotGift n => cases h; exact event (onSlotGift_evolves n _)
  | purgeCompletion => cases h; exact event (.of_classes_eq (by simp))
  | byteReceived link b =>
    cases h
    exact ((onByte_classesChange link b _).mono fun _ _ => .inl rfl).fromState (by simp)

/-! ## The laws -/

theorem classKept_emptyWith (g : BitVec 8) : ClassKept (.emptyWith g) := by
  simp [ClassKept, ClassRec.emptyWith, ClassRec.size, ClassRec.rankAt]

theorem ClassesChange.classesKept {load : Nat → Prop} {s t : State} (h : ClassesChange load s t) (hs : ClassesKept s) :
    ClassesKept t := by
  cases h with
  | evolve h => exact h.classesKept hs
  | reload c _ h =>
    intro d
    rcases eq_or_ne d c with rfl | hd
    · exact h.kept
    · exact h.others d hd ▸ hs d
  | unload c h =>
    intro d
    rcases eq_or_ne d c with rfl | hd
    · exact h.record ▸ classKept_emptyWith _
    · exact h.others d hd ▸ hs d
  | lock c h =>
    intro d
    rcases eq_or_ne d c with rfl | hd
    · obtain ⟨h1, h2, -, h4, h5, h6⟩ := hs d
      rw [h.record]
      exact ⟨h1, h2, fun he => absurd he h.loaded, h4, h5, h6⟩
    · exact h.others d hd ▸ hs d

theorem classesKept_reset : ClassesKept State.reset := classesKept_of_check (by decide)

theorem exec_classesKept {i : Instr} {s t : State} (h : exec i s = .next t) (hs : ClassesKept s) : ClassesKept t := by
  by_cases hi : i = .powerOn
  · subst hi
    cases h
    exact fun c => classesKept_reset c
  · exact (exec_classesChange h hi).classesKept hs

/-- Settles O8: a step is a command, whose changes of class records `exec_classesChange` lists, or one millisecond, which changes
none. -/
theorem everyStepKeepsTheClasses : Obligations.EveryStepKeepsTheClasses := by
  intro s t hs h
  unfold step at h
  split at h
  · cases h
    exact (ClassesEvolve.of_classes_eq (by simp [passTime])).classesKept hs
  · exact exec_classesKept h (fun c => hs c)

/-- Settles O11: records that evolve keep both fields, a Load Class is refused on a locked record and is the one change of a
generation, and an Unload Class is refused on a locked record too. -/
theorem lockAndGenerationChangeOnlyAsSaid : Obligations.LockAndGenerationChangeOnlyAsSaid := by
  refine ⟨fun i s t c h hi hl => ?_, fun i s t c h hg => ?_⟩
  · have keeps : ∀ d, (∀ e, e ≠ d → t.classRec e = s.classRec e) → (s.classRec d).locked = false →
        (t.classRec c).locked = true := fun d hd hu => by
      have hcd : c ≠ d := by
        rintro rfl
        simp [hl] at hu
      rw [hd c hcd, hl]
    cases exec_classesChange h hi with
    | evolve h => rw [(h.load c).locked, hl]
    | reload d _ h => exact keeps d h.others h.unlocked
    | unload d h => exact keeps d h.others h.unlocked
    | lock d h =>
      rcases eq_or_ne c d with rfl | hcd
      · rw [h.record]
      · rw [h.others c hcd, hl]
  · by_cases hi : i = .powerOn
    · exact .inl hi
    · right
      cases exec_classesChange h hi with
      | evolve h => exact absurd (h.load c).generation hg
      | reload d hd h =>
        rcases eq_or_ne c d with rfl | hcd
        · exact ⟨hd, h.generation, h.state⟩
        · exact absurd (by rw [h.others c hcd]) hg
      | unload d h =>
        refine absurd ?_ hg
        rcases eq_or_ne c d with rfl | hcd
        · rw [h.record]
          rfl
        · rw [h.others c hcd]
      | lock d h =>
        refine absurd ?_ hg
        rcases eq_or_ne c d with rfl | hcd
        · rw [h.record]
        · rw [h.others c hcd]

end Sys2Proof.ClassTable

/-! # Parts of the state that an event leaves -/

namespace Sys2Proof.Safety

open Sys2Proof.Machine

theorem OnlyChanges.refl (ps : List Part) (s : State) : OnlyChanges ps s s := by
  intro p _
  cases p <;> rfl

theorem OnlyChanges.trans {ps : List Part} {s t u : State} (h : OnlyChanges ps s t) (h' : OnlyChanges ps t u) :
    OnlyChanges ps s u := by
  intro p hp
  have e := h p hp
  have e' := h' p hp
  cases p <;> exact Eq.trans e' e

theorem OnlyChanges.mono {ps qs : List Part} {s t : State} (h : OnlyChanges ps s t) (hsub : ps ⊆ qs) : OnlyChanges qs s t :=
  fun p hp => h p (fun hm => hp (hsub hm))

/-- One more change, of some of the parts. -/
theorem OnlyChanges.andThen {ps qs : List Part} {s t u : State} (h : OnlyChanges ps s t) (h' : OnlyChanges qs t u)
    (hsub : qs ⊆ ps) : OnlyChanges ps s u := h.trans (h'.mono hsub)

end Sys2Proof.Safety

namespace Sys2Proof.Requests

open Sys2Proof.Machine Sys2Proof.Safety Sys2Proof.ClassTable

/-! # A request, its Reply, and what they leave unchanged -/

/-! ## Parts of the state -/

theorem onlyChanges_setLink (l : Lane) (k : Link) (s : State) : OnlyChanges [.link l] s (s.setLink l k) := by
  intro p hp
  cases l <;> cases p <;> simp [Part.Same, Part.link, State.setLink] at hp ⊢

theorem onlyChanges_setActions (v : List Action) (s : State) : OnlyChanges [.actions] s (s.setActions v) := by
  intro p hp
  cases p <;> simp [Part.Same] at hp ⊢

theorem onlyChanges_setTables (v : Tables) (s : State) : OnlyChanges [.tables] s (s.setTables v) := by
  intro p hp
  cases p <;> simp [Part.Same] at hp ⊢

theorem onlyChanges_setClassRec (c : Nat) (r : ClassRec) (s : State) : OnlyChanges [.classes] s (s.setClassRec c r) := by
  intro p hp
  cases p <;> simp [Part.Same] at hp ⊢

theorem onlyChanges_reply (l : Lane) (tag : Byte) (code : ReplyCode) (kind : Byte) (data : List Byte) (s : State) :
    OnlyChanges [.link l] s (reply l tag code kind data s) := onlyChanges_setLink l _ s

theorem onlyChanges_frameCompleted (l : Lane) (s : State) : OnlyChanges [.link l, .actions] s (frameCompleted l s) :=
  ((onlyChanges_setActions [] s).mono (by simp)).andThen (onlyChanges_setLink l _ _) (by simp)

/-! ## A completed frame and its Reply -/

@[simp] theorem frameCompleted_actions (l : Lane) (s : State) : (frameCompleted l s).actions = [] := by
  simp [frameCompleted, beginEvent]

theorem frameCompleted_link (l m : Lane) (s : State) :
    (frameCompleted l s).link m = if m = l then { s.link l with rx := .hunt } else s.link m := by
  simp [frameCompleted, setRx]

@[simp] theorem frameCompleted_classRec (l : Lane) (s : State) (c : Nat) : (frameCompleted l s).classRec c = s.classRec c :=
  classRec_congr (by simp) c

@[simp] theorem frameCompleted_rankAt (l : Lane) (s : State) (k : Key) : (frameCompleted l s).rankAt k = s.rankAt k :=
  rankAt_congr (by simp) k

@[simp] theorem frameCompleted_packet (l : Lane) (s : State) (k : Key) : (frameCompleted l s).packet k = s.packet k := by
  simp [State.packet]

@[simp] theorem frameCompleted_isUnplaced (l : Lane) (s : State) (k : Key) :
    (frameCompleted l s).isUnplaced k = s.isUnplaced k := by
  simp [State.isUnplaced]

@[simp] theorem reply_classRec (l : Lane) (tag : Byte) (code : ReplyCode) (kind : Byte) (data : List Byte) (s : State)
    (c : Nat) : (reply l tag code kind data s).classRec c = s.classRec c := classRec_congr (by simp) c

theorem reply_link (l m : Lane) (tag : Byte) (code : ReplyCode) (kind : Byte) (data : List Byte) (s : State) :
    (reply l tag code kind data s).link m = if m = l then
      { s.link l with
        tx := joinTx { kind := .reply, attention := s.attention, tag := tag, body := code.code :: kind :: data } (s.link l).tx }
    else s.link m := by
  simp [reply]

/-- A request whose effects leave its link and the flags is answered with the attention bit as it stood before (R145, R155). -/
theorem answers_reply {l : Lane} {s u : State} (hlink : u.link l = (frameCompleted l s).link l) (hflags : u.flags = s.flags)
    (tag : Byte) (code : ReplyCode) (kind : Byte) (data : List Byte) :
    Answers l tag code kind data s (reply l tag code kind data u) := by
  simp [Answers, answeredLink, reply_link, hlink, frameCompleted_link, State.attention, hflags]

/-- A request that is only answered is turned away (R143, R146). -/
theorem turnedAway_reply (l : Lane) (tag : Byte) (code : ReplyCode) (kind : Byte) (s : State) :
    TurnedAway l tag code kind s (reply l tag code kind [] (frameCompleted l s)) :=
  ⟨answers_reply rfl (by simp) .., by simp,
    (onlyChanges_frameCompleted l s).andThen (onlyChanges_reply l tag code kind [] _) (by simp)⟩

/-! ## Load Class (R9, R10) -/

/-- The roster of a new load is not changed by its advance: no rank of it is HELD (R10, R79). -/
theorem rankAt_loadedRec {body : List Byte} {q : ClassLoad} (h : Loads body q) (r : ClassRec) (k : Nat) :
    (loadedRec r q).rankAt k = (r.reloaded q).rankAt k := by
  rw [loadedRec, (advanced_spec _ _).2.2, if_neg]
  exact fun e => rankAt_reloaded_ne h r k (by decide) e.2

theorem body_loadedRec {body : List Byte} {q : ClassLoad} (h : Loads body q) (r : ClassRec) :
    ∃ b, (loadedRec r q).body = some b ∧ b.size = byteAt body 1 ∧ b.assignment.val = byteAt body 2
      ∧ b.returnBin.val = byteAt body 3 ∧ b.roster.length = byteAt body 1
      ∧ ∀ k, k < byteAt body 1 → b.roster[k]? = some (if byteAt body (5 + k) = 1 then .excused else .waiting) := by
  obtain ⟨b, hb, hsize, hlen, ha, hbin⟩ :=
    (sameLoad_advanced q.body.size (r.reloaded q)).exists_body (b := q.body) rfl
  refine ⟨b, hb, hsize.trans h.size, ha ▸ h.assignment, hbin ▸ h.returnBin, hlen.trans h.length, fun k hk => ?_⟩
  have hrank : (loadedRec r q).rankAt k = b.roster[k]? := by
    rw [ClassRec.rankAt, show (loadedRec r q).body = some b from hb]
  rw [← hrank, rankAt_loadedRec h, rankAt_reloaded h r hk]
  rfl

/-- The cursor of a new load has passed the leading EXCUSED ranks, and them only (R10, R79). -/
theorem cursor_loadedRec {body : List Byte} {q : ClassLoad} (hf : FieldsInRange body) (h : Loads body q) (r : ClassRec) :
    (loadedRec r q).cursor ≤ byteAt body 1
      ∧ (∀ k, k < (loadedRec r q).cursor → byteAt body (5 + k) = 1)
      ∧ ((loadedRec r q).cursor < byteAt body 1 → byteAt body (5 + (loadedRec r q).cursor) = 0) := by
  obtain ⟨hshape, hrest⟩ := (classKept_iff _).mp (loadedRec_kept hf h r)
  have hsize : (loadedRec r q).size = byteAt body 1 := (sameLoad_advanced _ _).size.trans h.size
  have hle : (loadedRec r q).cursor ≤ byteAt body 1 := hsize ▸ hshape.2.1
  refine ⟨hle, fun k hk => ?_, fun hlt => ?_⟩
  · have hpass := (advanced_spec q.body.size (r.reloaded q)).2.1 k (Nat.zero_le k) hk
    rw [rankAt_reloaded h r (by omega)] at hpass
    by_contra hne
    simp [rankOfMark, hne, isPassed] at hpass
  · have hat := hrest (hsize ▸ hlt)
    rw [rankAt_loadedRec h, rankAt_reloaded h r hlt] at hat
    have hmark := hf.2.2.2.2.2.2 _ hlt
    by_contra hne
    have : byteAt body (5 + (loadedRec r q).cursor) = 1 := by omega
    simp [rankOfMark, this] at hat

/-- Settles O24: the body is read exactly where its fields are in range, and a taken load leaves `loadedRec`. -/
theorem loadClassReplacesTheRecord : Obligations.LoadClassReplacesTheRecord := by
  intro l tag body s hlen c size fieldsInRange
  refine ⟨_, rfl, fun hf => ?_, fun hf hp => ?_, fun hf hl ha => ?_⟩
  · have hq : ClassLoad.ofBody body = none := by
      rw [Option.eq_none_iff_forall_ne_some]
      exact fun q hq => hf (inRange_of_ofBody hlen hq)
    rw [onLoadClass, withLength_of_length hlen]
    simp only [hq]
    exact turnedAway_reply ..
  · obtain ⟨q, hq, hload⟩ := ofBody_of_inRange hlen hf
    rw [onLoadClass, withLength_of_length hlen]
    simp only [hq, frameCompleted_classRec]
    rw [if_pos (by rw [hload.cls]; exact hp)]
    exact turnedAway_reply ..
  · obtain ⟨q, hq, hload⟩ := ofBody_of_inRange hlen hf
    have hc : q.cls = c := hload.cls
    have hc48 : c < 48 := hf.1
    rw [onLoadClass_taken hlen hq (by simpa [hc] using hl) (by simpa [hc] using ha), hc, frameCompleted_classRec]
    refine ⟨?_, by simp, ?_, fun d hd => ?_, ?_⟩
    · have h := answers_reply (l := l) (s := s) (u := (frameCompleted l s).setClassRec c ((s.classRec c).reloaded q))
        (by simp) (by simp) tag .ok 0x10#8 []
      simpa [Answers] using h
    · exact (((onlyChanges_frameCompleted l s).mono (by simp)).andThen (onlyChanges_setClassRec c _ _) (by simp)).andThen
        (onlyChanges_reply l tag .ok 0x10#8 [] _) (by simp) |>.andThen (onlyChanges_setClassRec c _ _) (by simp)
    · simp [State.classRec_setClassRec, hd]
    · have hrec : (((reply l tag .ok 0x10#8 [] ((frameCompleted l s).setClassRec c ((s.classRec c).reloaded q))).setClassRec c
          (loadedRec (s.classRec c) q)).classRec c) = loadedRec (s.classRec c) q := by
        rw [State.classRec_setClassRec, if_pos ⟨rfl, hc48⟩]
      rw [hrec]
      have hsame := sameLoad_advanced q.body.size ((s.classRec c).reloaded q)
      exact ⟨advanced_state _ _, hsame.generation, hsame.priority.trans hload.priority, hsame.locked,
        body_loadedRec hload _, cursor_loadedRec hf hload _⟩

/-! ## Unload Class and Lock Class (R11, R12) -/

/-- A request that writes one class record and answers OK: what it leaves (R1, R145). -/
theorem writes_record (l : Lane) (tag kind : Byte) (s : State) {c : Nat} (hc : c < 48) (r : ClassRec) :
    let t := reply l tag .ok kind [] ((frameCompleted l s).setClassRec c r)
    Answers l tag .ok kind [] s t ∧ t.actions = [] ∧ OnlyChanges [.link l, .classes, .actions] s t
      ∧ (∀ d, d ≠ c → t.classRec d = s.classRec d) ∧ t.classRec c = r := by
  refine ⟨answers_reply (by simp) (by simp) .., by simp, ?_, fun d hd => ?_, ?_⟩
  · exact (((onlyChanges_frameCompleted l s).mono (by simp)).andThen (onlyChanges_setClassRec c r _) (by simp)).andThen
      (onlyChanges_reply l tag .ok kind [] _) (by simp)
  · simp [State.classRec_setClassRec, hd]
  · simp [State.classRec_setClassRec, hc]

theorem byteAt_zero (c : Byte) (rest : List Byte) : byteAt (c :: rest) 0 = c.toNat := rfl

/-- Settles O25: the branches of the two requests, each a turned away request or one written record. -/
theorem unloadAndLockClassChangeTheRecord : Obligations.UnloadAndLockClassChangeTheRecord := by
  refine ⟨fun l tag c s => ?_, fun l tag c s => ?_⟩
  · intro r
    refine ⟨_, rfl, fun hc => ?_, fun hc hp => ?_, fun hc hl hst => ?_⟩ <;>
      rw [onUnloadClass, withLength_of_length rfl] <;> simp only [byteAt_zero, frameCompleted_classRec]
    · rw [if_pos hc]
      exact turnedAway_reply ..
    · have hp' : r.locked = true ∨ r.state = .empty ∨ r.state = .active := by
        refine hp.imp_right fun ⟨h1, h2⟩ => ?_
        cases hs : r.state <;> simp_all
      rw [if_neg (Nat.not_le.mpr hc), if_pos hp']
      exact turnedAway_reply ..
    · have hp' : ¬(r.locked = true ∨ r.state = .empty ∨ r.state = .active) := by
        rcases hst with e | e <;> simp [hl, e]
      rw [if_neg (Nat.not_le.mpr hc), if_neg hp']
      exact writes_record l tag _ s hc _
  · intro r
    refine ⟨_, rfl, fun hc => ?_, fun hc he => ?_, fun hc he => ?_⟩ <;>
      rw [onLockClass, withLength_of_length rfl] <;> simp only [byteAt_zero, frameCompleted_classRec]
    · rw [if_pos hc]
      exact turnedAway_reply ..
    · rw [if_neg (Nat.not_le.mpr hc), if_pos he]
      exact turnedAway_reply ..
    · rw [if_neg (Nat.not_le.mpr hc), if_neg he]
      exact writes_record l tag _ s hc _

/-! ## Load Assignment and Load Media (R19, R20) -/

theorem clamp_eq {lo hi : Nat} (h : lo ≤ hi) (v : Nat) : clamp lo hi v = max lo (min v hi) := by
  unfold clamp
  split
  · omega
  · split <;> omega

theorem patternOfCode_eq (m : Nat) :
    patternOfCode m = if m ≤ 2 then some (if m = 0 then .none else if m = 1 then .corner else .side2) else none := by
  match m with
  | 0 => rfl
  | 1 => rfl
  | 2 => rfl
  | m + 3 => rw [if_neg (by omega)]; rfl

/-- What a Load Assignment with its fields in range loads (R18, R19). -/
def loadedAssignment (count cover pattern : Byte) : Assignment :=
  { sheetCount := count.toNat, cover := decide (cover.toNat = 1),
    pattern := if pattern.toNat = 0 then .none else if pattern.toNat = 1 then .corner else .side2 }

theorem assignmentOfBody_eq (n count cover pattern : Byte) :
    assignmentOfBody [n, count, cover, pattern]
      = if h : n.toNat < 32 ∧ 1 ≤ count.toNat ∧ count.toNat ≤ 40 ∧ cover.toNat ≤ 1 ∧ pattern.toNat ≤ 2 then
          some (⟨n.toNat, h.1⟩, loadedAssignment count cover pattern)
        else none := by
  have h1 : byteAt [n, count, cover, pattern] 1 = count.toNat := rfl
  have h2 : byteAt [n, count, cover, pattern] 2 = cover.toNat := rfl
  have h3 : byteAt [n, count, cover, pattern] 3 = pattern.toNat := rfl
  unfold assignmentOfBody
  rw [byteAt_zero, h1, h2, h3, flagOfCode_eq, patternOfCode_eq]
  by_cases hn : n.toNat < 32
  · by_cases hc : cover.toNat ≤ 1
    · by_cases hp : pattern.toNat ≤ 2
      · by_cases hcount : 1 ≤ count.toNat ∧ count.toNat ≤ 40 <;>
          simp [finOf_of_lt hn, hn, hc, hp, hcount, loadedAssignment]
      · simp [hp]
    · simp [hc]
  · simp [finOf_of_le (Nat.not_lt.mp hn), hn]

/-- A request that writes the tables and is answered: what it leaves (R1, R145). -/
theorem writes_tables (l : Lane) (tag kind : Byte) (code : ReplyCode) (s : State) (v : Tables) :
    let t := reply l tag code kind [] ((frameCompleted l s).setTables v)
    Answers l tag code kind [] s t ∧ t.actions = [] ∧ OnlyChanges [.link l, .tables, .actions] s t ∧ t.tables = v := by
  refine ⟨answers_reply (by simp) (by simp) .., by simp, ?_, by simp⟩
  exact (((onlyChanges_frameCompleted l s).mono (by simp)).andThen (onlyChanges_setTables v _) (by simp)).andThen
    (onlyChanges_reply l tag code kind [] _) (by simp)

theorem onLoadAssignment_refused {n count cover pattern : Byte}
    (h : ¬(n.toNat < 32 ∧ 1 ≤ count.toNat ∧ count.toNat ≤ 40 ∧ cover.toNat ≤ 1 ∧ pattern.toNat ≤ 2)) (l : Lane) (tag : Byte)
    (s : State) :
    onLoadAssignment l tag [n, count, cover, pattern] s = reply l tag .field 0x15#8 [] s := by
  rw [onLoadAssignment, withLength_of_length rfl, assignmentOfBody_eq, dif_neg h]
  rfl

theorem onLoadAssignment_taken {n count cover pattern : Byte}
    (h : n.toNat < 32 ∧ 1 ≤ count.toNat ∧ count.toNat ≤ 40 ∧ cover.toNat ≤ 1 ∧ pattern.toNat ≤ 2) (l : Lane) (tag : Byte)
    (s : State) :
    onLoadAssignment l tag [n, count, cover, pattern] s
      = reply l tag .ok 0x15#8 [] (s.setTables { s.tables with
          assignments := put s.tables.assignments ⟨n.toNat, h.1⟩ (some (loadedAssignment count cover pattern)) }) := by
  rw [onLoadAssignment, withLength_of_length rfl, assignmentOfBody_eq, dif_pos h]
  rfl

theorem onLoadMedia_refused {n : Byte} (h : 16 ≤ n.toNat) (l : Lane) (tag hi lo : Byte) (s : State) :
    onLoadMedia l tag [n, hi, lo] s = reply l tag .field 0x16#8 [] s := by
  rw [onLoadMedia, withLength_of_length rfl, byteAt_zero, finOf_of_le h]
  rfl

/-- The code of the Reply to a taken Load Media of thickness `v` (R20). -/
theorem clampedCode_media (v : Nat) :
    clampedCode (decide (clamp 40 400 v ≠ v)) = if 40 ≤ v ∧ v ≤ 400 then .ok else .okClamped := by
  rw [clamp_eq (by decide)]
  by_cases hr : 40 ≤ v ∧ v ≤ 400
  · have : max 40 (min v 400) = v := by omega
    simp only [this, ne_eq, not_true, decide_false, clampedCode, if_pos hr]
    rfl
  · have : max 40 (min v 400) ≠ v := by omega
    simp [clampedCode, this, hr]

theorem onLoadMedia_taken {n : Byte} (h : n.toNat < 16) (l : Lane) (tag hi lo : Byte) (s : State) :
    onLoadMedia l tag [n, hi, lo] s
      = reply l tag (if 40 ≤ hi.toNat * 256 + lo.toNat ∧ hi.toNat * 256 + lo.toNat ≤ 400 then .ok else .okClamped) 0x16#8 []
          (s.setTables { s.tables with
            media := put s.tables.media ⟨n.toNat, h⟩ (some (clamp 40 400 (hi.toNat * 256 + lo.toNat))) }) := by
  rw [onLoadMedia, withLength_of_length rfl, byteAt_zero, finOf_of_lt h, ← clampedCode_media]
  rfl

/-- Settles O30: each request is turned away or writes one row of its table. -/
theorem loadAssignmentAndMediaReplaceTheRecord : Obligations.LoadAssignmentAndMediaReplaceTheRecord := by
  refine ⟨fun l tag n count cover pattern s => ?_, fun l tag n hi lo s => ?_⟩
  · intro ok
    refine ⟨_, rfl, fun hok => ?_, fun hok => ?_⟩
    · rw [onLoadAssignment_refused hok]
      exact turnedAway_reply ..
    · rw [onLoadAssignment_taken hok]
      obtain ⟨hanswers, hactions, honly, ht⟩ := writes_tables l tag 0x15#8 .ok s _
      refine ⟨hanswers, hactions, honly, ?_, ?_, fun i => ?_⟩ <;> rw [ht] <;> simp [loadedAssignment]
  · intro v
    refine ⟨_, rfl, fun hn => ?_, fun hn => ?_⟩
    · rw [onLoadMedia_refused hn]
      exact turnedAway_reply ..
    · rw [onLoadMedia_taken hn]
      obtain ⟨hanswers, hactions, honly, ht⟩ := writes_tables l tag 0x16#8 (if 40 ≤ v ∧ v ≤ 400 then .ok else .okClamped) s _
      refine ⟨hanswers, hactions, honly, ?_, ?_, fun i => ?_⟩ <;> rw [ht] <;> simp [clamp_eq, v]

end Sys2Proof.Requests

namespace Sys2Proof.Requests

open Sys2Proof.Machine Sys2Proof.Safety Sys2Proof.ClassTable

/-! # Set Roster Mark (R13 to R16) -/

/-- The last body byte of a Set Roster Mark with a mark (R151). -/
def markByte : RosterMark → Byte
  | .excuse => 0#8
  | .expect => 1#8
  | .retry => 2#8

theorem exec_markCommand (m : RosterMark) (l : Lane) (tag c k : Byte) (s : State) :
    exec (markCommand m l tag c k) s = .next (onSetRosterMark l tag [c, k, markByte m] (frameCompleted l s)) := by
  cases m <;> rfl

/-- A mark's own condition, by the mark (R14, R15, R16). -/
def Applies (s : State) (key : Key) : RosterMark → Prop
  | .excuse => s.rankAt key = some .waiting ∧ (s.classRec key.cls).cursor ≤ key.rank ∧ s.isUnplaced key = false
  | .expect => s.rankAt key = some .excused ∧ (s.classRec key.cls).cursor ≤ key.rank
  | .retry => s.rankAt key = some .missed ∧ s.packet key = none

theorem markAllowed_iff (key : Key) (s : State) (m : RosterMark) : markAllowed key s m = true ↔ Applies s key m := by
  cases m <;> simp [markAllowed, Applies, and_assoc]

section Checks

variable (l : Lane) (tag c k : Byte) (s : State)

/-- The answer to a Set Roster Mark of class `c` and rank `k`, in the order of the checks of R13. -/
theorem onSetRosterMark_mark (m : RosterMark) :
    onSetRosterMark l tag [c, k, markByte m] s
      = (let key : Key := { cls := c.toNat, rank := k.toNat }
         if 48 ≤ key.cls then reply l tag .field 0x13#8 [] s
         else if (s.classRec key.cls).state = .empty then reply l tag .state 0x13#8 [] s
         else if (s.classRec key.cls).size ≤ key.rank then reply l tag .field 0x13#8 [] s
         else if markAllowed key s m then applyMark l tag m key s
         else reply l tag .protectedState 0x13#8 [] s) := by
  have hm : rosterMarkOfCode (byteAt [c, k, markByte m] 2) = some m := by cases m <;> rfl
  rw [onSetRosterMark, withLength_of_length rfl]
  simp only [hm]
  rfl

/-- A mark byte that names no mark is refused FIELD, after the class number too (R13). -/
theorem onSetRosterMark_unknown {b : Byte} (hb : 3 ≤ b.toNat) :
    onSetRosterMark l tag [c, k, b] s = reply l tag .field 0x13#8 [] s := by
  have hm : rosterMarkOfCode (byteAt [c, k, b] 2) = none := by
    show rosterMarkOfCode b.toNat = none
    match b.toNat, hb with
    | n + 3, _ => rfl
  rw [onSetRosterMark, withLength_of_length rfl]
  simp only [hm]
  exact ite_self _

end Checks

/-- Settles O26: the chain of checks, each of which a turned away request meets. -/
theorem rosterMarkIsCheckedInOrder : Obligations.RosterMarkIsCheckedInOrder := by
  intro m l tag c k s key r applies
  have happlies : applies ↔ Applies s key m := by cases m <;> exact Iff.rfl
  have hallowed : markAllowed key (frameCompleted l s) m = true ↔ applies := by
    rw [markAllowed_iff, happlies]
    cases m <;> simp [Applies]
  refine ⟨_, exec_markCommand m l tag c k s, fun hc => ?_, fun hc he => ?_, fun hc he hk => ?_, fun hc he hk ha => ?_,
    fun b hb => ⟨_, rfl, ?_⟩⟩
  case refine_5 =>
    show TurnedAway l tag .field 0x13#8 s (onSetRosterMark l tag [c, k, b] (frameCompleted l s))
    rw [onSetRosterMark_unknown l tag c k _ hb]
    exact turnedAway_reply ..
  all_goals
    rw [onSetRosterMark_mark]
    simp only [frameCompleted_classRec]
  · rw [if_pos hc]
    exact turnedAway_reply ..
  · rw [if_neg (Nat.not_le.mpr hc), if_pos he]
    exact turnedAway_reply ..
  · rw [if_neg (Nat.not_le.mpr hc), if_neg he, if_pos hk]
    exact turnedAway_reply ..
  · rw [if_neg (Nat.not_le.mpr hc), if_neg he, if_neg (Nat.not_le.mpr hk), if_neg (fun h => ha (hallowed.mp h))]
    exact turnedAway_reply ..

/-! ## A taken mark -/

/-- A class at rest is not advanced (R79). -/
theorem cursorAdvance_of_atRest {c : Nat} {s : State} (hs : ClassShape (s.classRec c)) (hr : AtRest (s.classRec c)) :
    cursorAdvance c s = s := by
  unfold cursorAdvance
  cases (s.classRec c).size with
  | zero => rfl
  | succ fuel =>
    rw [advance_succ, if_neg]
    intro hp
    obtain e | e := hr (hs.cursor_lt hp) <;> simp [e, isPassed] at hp

/-- A class with a rank still to come is not done (R8). -/
theorem doneCheck_of_not_done {c : Nat} {s : State}
    (h : (s.classRec c).cursor ≠ (s.classRec c).size ∨ (s.classRec c).countOf .waiting ≠ 0) : doneCheck c s = s := by
  unfold doneCheck
  rw [if_neg]
  simp only [State.doneCondition, Bool.and_eq_true, decide_eq_true_eq, not_and]
  exact fun _ hcur hcount => h.elim (fun e => e hcur.1) (fun e => e hcount)

theorem countOf_ne_zero {r : ClassRec} {k : Nat} {x : RankState} (h : r.rankAt k = some x) : r.countOf x ≠ 0 := by
  unfold ClassRec.rankAt at h
  unfold ClassRec.countOf
  cases hb : r.body with
  | none => simp [hb] at h
  | some b =>
    rw [hb] at h
    have hmem : x ∈ b.roster.filter (fun y => y = x) := List.mem_filter.mpr ⟨List.mem_of_getElem? h, by simp⟩
    exact Nat.ne_of_gt (List.length_pos_iff.mpr (List.ne_nil_of_mem hmem))

/-- The record of its class after a taken mark, before the advance (R14, R15, R16). -/
def markedRec (r : ClassRec) (k : Nat) (m : RosterMark) : ClassRec :=
  { r.withRank k m.rankState with state := if m = .retry ∧ r.state = .done then .active else r.state }

theorem reopenDone_setRank {key : Key} (hc : key.cls < 48) (m : RosterMark) (s : State) :
    reopenDone m key.cls (setRank key m.rankState s)
      = s.setClassRec key.cls (markedRec (s.classRec key.cls) key.rank m) := by
  have hrec : (setRank key m.rankState s).classRec key.cls = (s.classRec key.cls).withRank key.rank m.rankState := by
    rw [classRec_setRank, if_pos ⟨rfl, hc⟩]
  unfold reopenDone markedRec
  simp only [hrec, withRank_state]
  split
  · unfold setClassState
    rw [hrec, setRank, setClassRec_setClassRec]
  · rfl

theorem sameLoad_markedRec {r : ClassRec} (hr : r.state ≠ .empty) (k : Nat) (m : RosterMark) : SameLoad r (markedRec r k m) := by
  refine (sameLoad_withRank r k m.rankState).trans (sameLoad_withState hr ?_)
  split
  · decide
  · exact hr

theorem rankAt_markedRec (r : ClassRec) (k j : Nat) (m : RosterMark) :
    (markedRec r k m).rankAt j = if j = k ∧ (r.rankAt k).isSome then some m.rankState else r.rankAt j :=
  ClassRec.rankAt_withRank r k j m.rankState

theorem markedRec_shape {r : ClassRec} (h : ClassShape r) (hr : r.state ≠ .empty) (k : Nat) (m : RosterMark) :
    ClassShape (markedRec r k m) := by
  have hx : m.rankState ≠ .released ∧ m.rankState ≠ .delivered := by cases m <;> decide
  obtain ⟨-, hcur, -, -, hk⟩ := h.withRank (k := k) (.inr hx)
  exact (sameLoad_markedRec hr k m).shape h (by simpa [markedRec] using hcur) hk

/-- A taken mark that leaves the cursor at rest and a rank of the class to come: one record written, one Reply (R13 to R16). -/
theorem applyMark_of_atRest {key : Key} {m : RosterMark} {s : State} (hc : key.cls < 48)
    (hs : ClassShape (markedRec (s.classRec key.cls) key.rank m)) (hr : AtRest (markedRec (s.classRec key.cls) key.rank m))
    (hcome : (markedRec (s.classRec key.cls) key.rank m).cursor ≠ (markedRec (s.classRec key.cls) key.rank m).size
      ∨ (markedRec (s.classRec key.cls) key.rank m).countOf .waiting ≠ 0) (l : Lane) (tag : Byte) :
    applyMark l tag m key s
      = reply l tag .ok 0x13#8 [] (s.setClassRec key.cls (markedRec (s.classRec key.cls) key.rank m)) := by
  have hrec : (reply l tag .ok 0x13#8 [] (s.setClassRec key.cls (markedRec (s.classRec key.cls) key.rank m))).classRec key.cls
      = markedRec (s.classRec key.cls) key.rank m := by
    rw [reply_classRec, State.classRec_setClassRec, if_pos ⟨rfl, hc⟩]
  have horder : orderStep key.cls (reply l tag .ok 0x13#8 []
      (s.setClassRec key.cls (markedRec (s.classRec key.cls) key.rank m)))
      = reply l tag .ok 0x13#8 [] (s.setClassRec key.cls (markedRec (s.classRec key.cls) key.rank m)) := by
    unfold orderStep
    rw [cursorAdvance_of_atRest (hrec.symm ▸ hs) (hrec.symm ▸ hr), doneCheck_of_not_done (hrec.symm ▸ hcome)]
  unfold applyMark
  simp only [reopenDone_setRank hc]
  refine (congrArg (endEvent s _) horder).trans ?_
  rw [endEvent_of_lists_eq (by simp) (by simp) (by simp)]
  rfl

/-- The first part of `TakenRosterMarkSetsTheRank`: a mark that moves no cursor writes one record. -/
theorem taken_mark_above_the_cursor (m : RosterMark) (l : Lane) (tag c k : Byte) (s : State) :
    let key : Key := { cls := c.toNat, rank := k.toNat }
    let r := s.classRec key.cls
    key.cls < 48 → r.state ≠ .empty → key.rank < r.size → ClassKept r → Applies s key m →
    (m = .excuse → r.cursor < key.rank) →
    ∃ t, exec (markCommand m l tag c k) s = .next t ∧ Answers l tag .ok 0x13#8 [] s t ∧ t.actions = []
      ∧ OnlyChanges [.link l, .classes, .actions] s t ∧ (∀ d, d ≠ key.cls → t.classRec d = s.classRec d)
      ∧ t.classRec key.cls = markedRec r key.rank m := by
  intro key r hc he hk hkept happ hex
  obtain ⟨hshape, hrest⟩ := (classKept_iff r).mp hkept
  have hwait : m ≠ .excuse → m.rankState = .waiting := by cases m <;> simp [RosterMark.rankState]
  have hrest' : AtRest (markedRec r key.rank m) := by
    have h : AtRest (r.withRank key.rank m.rankState) := by
      refine hrest.withRank ?_
      by_cases hm : m = .excuse
      · exact .inl (Nat.ne_of_gt (hex hm))
      · exact .inr (.inl (hwait hm))
    exact h
  have hcome : (markedRec r key.rank m).cursor ≠ (markedRec r key.rank m).size
      ∨ (markedRec r key.rank m).countOf .waiting ≠ 0 := by
    by_cases hm : m = .excuse
    · left
      rw [(sameLoad_markedRec he key.rank m).size]
      have hlt := hex hm
      show r.cursor ≠ r.size
      omega
    · right
      apply countOf_ne_zero (k := key.rank)
      rw [rankAt_markedRec, if_pos ⟨rfl, (hshape.rankAt_isSome _).mpr hk⟩, hwait hm]
  have hallowed : markAllowed key (frameCompleted l s) m = true := by
    rw [markAllowed_iff]
    cases m <;> simpa [Applies] using happ
  have hrec : (frameCompleted l s).classRec key.cls = r := frameCompleted_classRec l s _
  refine ⟨_, exec_markCommand m l tag c k s, ?_⟩
  rw [onSetRosterMark_mark]
  dsimp only
  rw [if_neg (Nat.not_le.mpr hc), if_neg (hrec.symm ▸ he), if_neg (hrec.symm ▸ Nat.not_le.mpr hk), if_pos hallowed,
    applyMark_of_atRest hc (hrec.symm ▸ markedRec_shape hshape he _ m) (hrec.symm ▸ hrest') (hrec.symm ▸ hcome), hrec]
  exact writes_record l tag 0x13#8 s hc _

/-! # Load Settings (R21 to R24) -/

/-! ## Hold conditions settled -/

/-- An evaluation of a lane's hold conditions may change the state of that lane, and nothing else of the lanes (R44). -/
theorem evalHold_lane (l m : Lane) (s : State) :
    ∃ x, (evalHold l s).lane m = { s.lane m with state := x } ∧ ((evalHold l s).lane m).inFault = (s.lane m).inFault
      ∧ (m ≠ l → x = (s.lane m).state) := by
  obtain ⟨e, -⟩ | ⟨hs, -, e⟩ | ⟨hs, -, e⟩ := evalHold_cases l s <;> rw [e]
  · exact ⟨(s.lane m).state, rfl, rfl, fun _ => rfl⟩
  · refine ⟨if m = l then .held else (s.lane m).state, ?_⟩
    by_cases hm : m = l <;> simp [setLaneState, LaneUnit.inFault, hs, hm]
  · refine ⟨if m = l then .running else (s.lane m).state, ?_⟩
    by_cases hm : m = l <;> simp [setLaneState, LaneUnit.inFault, hs, hm]

theorem evalHold_queue (l m : Lane) (s : State) : ((evalHold l s).lane m).queue = (s.lane m).queue := by
  obtain ⟨x, e, -⟩ := evalHold_lane l m s
  rw [e]

theorem evalHold_lane_of_ne {l m : Lane} (h : m ≠ l) (s : State) : (evalHold l s).lane m = s.lane m := by
  obtain ⟨x, e, -, hx⟩ := evalHold_lane l m s
  rw [e, hx h]

theorem evalHolds_queue (m : Lane) (s : State) : ((evalHolds s).lane m).queue = (s.lane m).queue :=
  (evalHold_queue .b m _).trans (evalHold_queue .a m s)

/-- The hold conditions of a lane read its queue, whether it is in FAULT, the tray and the Purge (R44). -/
theorem holdCondition_congr {s t : State} {m : Lane} (hq : (t.lane m).queue = (s.lane m).queue)
    (hf : (t.lane m).inFault = (s.lane m).inFault) (hset : t.settings = s.settings) (htray : t.tray = s.tray)
    (hp : t.purge = s.purge) : t.holdCondition m = s.holdCondition m := by
  have hpurging : t.purging = s.purging := by rw [State.purging, State.purging, hp]
  rw [State.holdCondition, State.holdCondition, State.trayThreshold, State.trayThreshold, hpurging, hset, htray, hq, hf]

theorem evalHold_holdCondition (l m : Lane) (s : State) : (evalHold l s).holdCondition m = s.holdCondition m := by
  obtain ⟨x, -, hf, -⟩ := evalHold_lane l m s
  exact holdCondition_congr (evalHold_queue l m s) hf (by simp) (by simp) (by simp)

/-- A RUNNING lane has no hold condition in force and a HELD lane has one. -/
def LaneSettled (s : State) (m : Lane) : Prop :=
  ((s.lane m).state = .running → s.holdCondition m = false) ∧ ((s.lane m).state = .held → s.holdCondition m = true)

theorem LaneSettled.congr {s t : State} {m : Lane} (h : LaneSettled s m) (hl : t.lane m = s.lane m)
    (hc : t.holdCondition m = s.holdCondition m) : LaneSettled t m := by
  unfold LaneSettled
  rw [hl, hc]
  exact h

/-- An evaluation of its hold conditions settles a lane (R44). -/
theorem evalHold_settles (l : Lane) (s : State) : LaneSettled (evalHold l s) l := by
  have hc := evalHold_holdCondition l l s
  obtain ⟨e, h⟩ | ⟨-, h, e⟩ | ⟨-, h, e⟩ := evalHold_cases l s
  · rw [e]
    unfold LaneSettled
    obtain hf | ⟨hs, h⟩ | ⟨hs, h⟩ := h
    · cases hs : (s.lane l).state <;> simp [LaneUnit.inFault, hs] at hf ⊢
    · simp [hs, h]
    · simp [hs, h]
  · unfold LaneSettled
    rw [hc, e]
    simp [setLaneState, h]
  · unfold LaneSettled
    rw [hc, e]
    simp [setLaneState, h]

theorem evalHolds_settles (s : State) (m : Lane) : LaneSettled (evalHolds s) m := by
  cases m with
  | a => exact (evalHold_settles .a s).congr (evalHold_lane_of_ne (by decide) _) (evalHold_holdCondition .b .a _)
  | b => exact evalHold_settles .b _

theorem onlyChanges_evalHolds (s : State) : OnlyChanges [.laneA, .laneB, .linkA, .linkB] s (evalHolds s) := by
  intro p hp
  cases p <;> simp [Part.Same] at hp ⊢

/-! ## The record and what follows from it -/

/-- The settings that a Load Settings body asks for, each brought within its range (R21, R22). -/
theorem clamped_settingsOfBody (body : List Byte) (report : Lane) :
    (settingsOfBody body report).clamped
      = { transitWindow := max 2 (min (byteAt body 0) 100), collectionWindow := max 10 (min (wordAt body 1) 900),
          loftPlain := max 16 (min (byteAt body 3) 40), loftStapled := max 16 (min (byteAt body 4) 40),
          scale := max 4 (min (byteAt body 5) 8), staplerCapacity := max 500 (min (wordAt body 6) 6000),
          cartridgeFull := max 100 (min (wordAt body 8) 5000), transferLimit := max 5 (min (byteAt body 10) 50),
          jogLimit := max 5 (min (byteAt body 11) 50), stapleLimit := max 5 (min (byteAt body 12) 50),
          ejectLimit := max 5 (min (byteAt body 13) 100), exceptionCapacity := max 50 (min (wordAt body 14) 500),
          reportLane := report } := by
  simp [Settings.clamped, settingsOfBody, clamp_eq]

theorem laneOfCode_of_le {n : Nat} (h : n ≤ 1) : laneOfCode n = some (if n = 0 then .a else .b) := by
  match n, h with
  | 0, _ => rfl
  | 1, _ => rfl

theorem laneOfCode_of_ge {n : Nat} (h : 2 ≤ n) : laneOfCode n = none := by
  match n, h with
  | n + 2, _ => rfl

theorem settingsRefused_iff (s : State) (t : Settings) :
    s.settingsRefused t = true ↔
      (t.scale ≠ s.settings.scale ∧ ∃ b, (s.bin b).fill ≠ 0 ∨ (s.bin b).reserved ≠ 0) ∨ t.exceptionCapacity < s.tray := by
  simp [State.settingsRefused, State.anyBinInUse]

/-- The settings written, and the supply lowered to a lower full count (R22, R24). -/
def settingsWritten (t : Settings) (s : State) : State :=
  (s.setTables { s.tables with settings := t }).setFin { s.fin with supply := min s.fin.supply t.cartridgeFull }

theorem applySettings_eq (t : Settings) (s : State) :
    applySettings t s
      = if t.exceptionCapacity = s.settings.exceptionCapacity then settingsWritten t s
        else evalHolds (if t.exceptionCapacity - 12 ≤ s.tray then raise .exceptionTrayFull (settingsWritten t s)
          else settingsWritten t s) := by
  have h : (if t.cartridgeFull < (s.setTables { s.tables with settings := t }).fin.supply then
        setSupply t.cartridgeFull (s.setTables { s.tables with settings := t })
      else s.setTables { s.tables with settings := t }) = settingsWritten t s := by
    unfold settingsWritten
    split
    · rename_i hlt
      have hlt : t.cartridgeFull < s.fin.supply := hlt
      rw [Nat.min_eq_right (Nat.le_of_lt hlt)]
      rfl
    · rename_i hlt
      have hlt : ¬t.cartridgeFull < s.fin.supply := hlt
      rw [Nat.min_eq_left (Nat.not_lt.mp hlt)]
      rfl
  unfold applySettings
  simp only [h]
  rfl

end Sys2Proof.Requests

namespace Sys2Proof.Requests

open Sys2Proof.Machine Sys2Proof.Safety Sys2Proof.ClassTable

/-! ## A taken Load Settings -/

theorem clampedCode_ne (t raw : Settings) : clampedCode (decide (t ≠ raw)) = if t = raw then .ok else .okClamped := by
  by_cases h : t = raw <;> simp [clampedCode, h]

theorem onlyChanges_settingsWritten (t : Settings) (s : State) : OnlyChanges [.tables, .fin] s (settingsWritten t s) := by
  intro p hp
  cases p <;> simp [Part.Same, settingsWritten] at hp ⊢

theorem onlyChanges_raise (c : Cause) (s : State) : OnlyChanges [.flags] s (raise c s) := by
  intro p hp
  cases p <;> simp [Part.Same, raise] at hp ⊢

theorem onlyChanges_applySettings (t : Settings) (s : State) :
    OnlyChanges [.tables, .fin, .flags, .laneA, .laneB, .linkA, .linkB] s (applySettings t s) := by
  have h := (onlyChanges_settingsWritten t s).mono (qs := [.tables, .fin, .flags, .laneA, .laneB, .linkA, .linkB]) (by simp)
  rw [applySettings_eq]
  split
  · exact h
  · refine OnlyChanges.andThen ?_ (onlyChanges_evalHolds _) (by simp)
    split
    · exact h.andThen (onlyChanges_raise _ _) (by simp)
    · exact h

/-- The records after the settings have been applied: the settings as asked for, the supply at most the full count (R22, R24). -/
theorem applySettings_records (t : Settings) (s : State) :
    (applySettings t s).tables = { s.tables with settings := t }
      ∧ (applySettings t s).fin = { s.fin with supply := min s.fin.supply t.cartridgeFull } := by
  rw [applySettings_eq]
  split
  · simp [settingsWritten]
  · split <;> simp [settingsWritten]

/-- With the same exception capacity nothing is compared (R24). -/
theorem applySettings_same {t : Settings} {s : State} (h : t.exceptionCapacity = s.settings.exceptionCapacity) :
    applySettings t s = settingsWritten t s := by
  rw [applySettings_eq, if_pos h]

/-- A changed exception capacity is compared with the count, and both lanes evaluate their hold conditions (R24, R138). -/
theorem applySettings_changed {t : Settings} {s : State} (h : t.exceptionCapacity ≠ s.settings.exceptionCapacity) :
    (applySettings t s).flags
        = (if t.exceptionCapacity - 12 ≤ s.tray then s.flags ||| BitVec.twoPow 12 3 else s.flags)
      ∧ ∀ m, ((applySettings t s).lane m).queue = (s.lane m).queue ∧ LaneSettled (applySettings t s) m := by
  rw [applySettings_eq, if_neg h]
  refine ⟨?_, fun m => ⟨?_, evalHolds_settles _ m⟩⟩
  · split <;> simp [settingsWritten, raise, Cause.bit]
  · rw [evalHolds_queue]
    split <;> simp [settingsWritten]

section

variable {body : List Byte} (hlen : body.length = 17) (l : Lane) (tag : Byte) (s : State)
include hlen

theorem onLoadSettings_badLane (h : 2 ≤ byteAt body 16) : onLoadSettings l tag body s = reply l tag .field 0x18#8 [] s := by
  rw [onLoadSettings, withLength_of_length hlen, laneOfCode_of_ge h]
  rfl

theorem onLoadSettings_refused {report : Lane} (h : laneOfCode (byteAt body 16) = some report)
    (hr : s.settingsRefused (settingsOfBody body report).clamped = true) :
    onLoadSettings l tag body s = reply l tag .state 0x18#8 [] s := by
  rw [onLoadSettings, withLength_of_length hlen, h]
  exact if_pos hr

theorem onLoadSettings_taken {report : Lane} (h : laneOfCode (byteAt body 16) = some report)
    (hr : ¬s.settingsRefused (settingsOfBody body report).clamped = true) :
    onLoadSettings l tag body s
      = selectionPass (reply l tag
          (if (settingsOfBody body report).clamped = settingsOfBody body report then .ok else .okClamped) 0x18#8 []
          (applySettings (settingsOfBody body report).clamped s)) := by
  rw [onLoadSettings, withLength_of_length hlen, h, ← clampedCode_ne]
  refine (if_neg hr).trans ?_
  rw [endEvent_of_lists_eq (by simp) (by simp) (by simp)]
  rfl

end

/-- Settles O31: the two refusals, and the record of a taken request with what acts at its taking. -/
theorem loadSettingsReplacesTheRecord : Obligations.LoadSettingsReplacesTheRecord := by
  intro l tag body s hlen at8 at16 new raw inUse refused same
  have hnew : (settingsOfBody body new.reportLane).clamped = new := clamped_settingsOfBody body _
  have hraw : settingsOfBody body new.reportLane = raw := rfl
  have hrefused : (frameCompleted l s).settingsRefused new = true ↔ refused := by
    rw [settingsRefused_iff]
    simp [refused, inUse, State.bin]
  refine ⟨fun h => ⟨_, rfl, ?_⟩, fun h hr => ⟨_, rfl, ?_⟩, fun h hr => ?_⟩
  · rw [onLoadSettings_badLane hlen l tag _ h]
    exact turnedAway_reply ..
  · rw [onLoadSettings_refused hlen l tag _ (laneOfCode_of_le h) (hnew ▸ hrefused.mpr hr)]
    exact turnedAway_reply ..
  · have hexec : exec (.loadSettings l tag body) s = .next (selectionPass (reply l tag
        (if new = raw then .ok else .okClamped) 0x18#8 [] (applySettings new (frameCompleted l s)))) := by
      have e := onLoadSettings_taken hlen l tag (frameCompleted l s) (laneOfCode_of_le h)
        (fun hc => hr (hrefused.mp (hnew ▸ hc)))
      exact congrArg _ (e.trans (by rw [← hnew]; rfl))
    obtain ⟨htables, hfin⟩ := applySettings_records new (frameCompleted l s)
    refine ⟨_, hexec, ?_, ?_, ?_, ?_, by simp, ?_, fun hsame => ?_, fun hchanged => ?_⟩
    · simp [State.settings, htables]
    · simp [htables]
    · simp [htables]
    · simp [hfin]
    · have hlink : Part.link l ∈ [Part.linkA, .linkB] := by cases l <;> decide
      have hlink : Part.link l ∈ [Part.tables, .fin, .flags, .laneA, .laneB, .linkA, .linkB, .actions] := by
        rcases List.mem_pair.mp hlink with e | e <;> simp [e]
      exact (((onlyChanges_frameCompleted l s).mono (by simpa using hlink)).andThen (onlyChanges_applySettings new _)
        (by simp)).andThen (onlyChanges_reply l tag _ 0x18#8 [] _) (by simpa using hlink)
    · have hother : otherLane l ≠ l := by cases l <;> decide
      rw [applySettings_same (by simpa using hsame)]
      refine ⟨by simp [settingsWritten], fun m => by simp [settingsWritten], ?_, ?_⟩
      · simp [reply_link, hother, settingsWritten, frameCompleted_link]
      · exact answers_reply (by simp [settingsWritten]) (by simp [settingsWritten]) ..
    · obtain ⟨hflags, hlanes⟩ := applySettings_changed (t := new) (s := frameCompleted l s) (by simpa using hchanged)
      refine ⟨by simpa using hflags, fun m => ?_⟩
      obtain ⟨hq, hsettled⟩ := hlanes m
      have hsettled := hsettled.congr (t := reply l tag (if new = raw then .ok else .okClamped) 0x18#8 []
        (applySettings new (frameCompleted l s))) (by simp) (holdCondition_congr (by simp) (by simp) (by simp) (by simp) (by simp))
      exact ⟨by simpa using hq, hsettled.1, hsettled.2⟩

end Sys2Proof.Requests

namespace Sys2Proof.ClassTable

open Sys2Proof.Machine Sys2Proof.Safety

/-! # Ranks under the Return Order Unit: only HELD ranks move (R77, R80, R85) -/

/-- Every key of the held list names a HELD rank (R84). -/
def HeldRanks (s : State) : Prop := ∀ k ∈ s.held, s.rankAt k = some .held

theorem heldRanks_of_towerKept {s : State} (h : TowerKept s) : HeldRanks s := by
  intro k hk
  obtain ⟨p, hp, rfl, hst⟩ := h.heldPackets k hk
  have := (h.packets p hp).rank
  rwa [hst] at this

/-- From `s` to `t` a rank moves only from HELD to RELEASED or RELIEVED, a class only from ACTIVE to DONE, and a cursor only up. -/
structure OrderMoves (s t : State) : Prop where
  heldRanks : HeldRanks s → HeldRanks t
  ranks : HeldRanks s → ∀ k, t.rankAt k = s.rankAt k
    ∨ (s.rankAt k = some .held ∧ (t.rankAt k = some .released ∨ t.rankAt k = some .relieved))
  states : ∀ c, (t.classRec c).state = (s.classRec c).state
    ∨ ((s.classRec c).state = .active ∧ (t.classRec c).state = .done)
  cursors : ∀ c, (s.classRec c).cursor ≤ (t.classRec c).cursor

namespace OrderMoves

variable {s t u : State}

/-- Class records and held list as they were, or keys gone from the list. -/
theorem of_classes_eq (hc : t.classes = s.classes) (hh : t.held ⊆ s.held) : OrderMoves s t := by
  have hrec := classRec_congr hc
  have hrank := rankAt_congr hc
  exact ⟨fun h k hk => (hrank k).trans (h k (hh hk)), fun _ k => .inl (hrank k), fun c => .inl (by rw [hrec]),
    fun c => by rw [hrec]⟩

theorem refl (s : State) : OrderMoves s s := of_classes_eq rfl (List.Subset.refl _)

theorem trans (h : OrderMoves s t) (h' : OrderMoves t u) : OrderMoves s u := by
  refine ⟨h'.heldRanks ∘ h.heldRanks, fun hs k => ?_, fun c => ?_, fun c => (h.cursors c).trans (h'.cursors c)⟩
  · obtain e' | ⟨hheld', hto'⟩ := h'.ranks (h.heldRanks hs) k
    · rw [e']
      exact h.ranks hs k
    · obtain e | ⟨-, hto⟩ := h.ranks hs k
      · exact .inr ⟨e ▸ hheld', hto'⟩
      · rw [hheld'] at hto
        simp at hto
  · obtain e' | ⟨ha', hd'⟩ := h'.states c
    · rw [e']
      exact h.states c
    · obtain e | ⟨-, hd⟩ := h.states c
      · exact .inr ⟨e ▸ ha', hd'⟩
      · rw [ha'] at hd
        simp at hd

theorem toState (h : OrderMoves s t) (hc : u.classes = t.classes) (hh : u.held = t.held) : OrderMoves s u :=
  h.trans (of_classes_eq hc (by rw [hh]; exact List.Subset.refl _))

end OrderMoves

/-- A HELD rank leaves the held list and becomes RELEASED or RELIEVED (R80, R87). -/
theorem setRank_moves {k : Key} {x : RankState} (hx : x = .released ∨ x = .relieved) {s t : State}
    (hk : HeldRanks s → s.rankAt k = some .held) (hc : t.classes = (setRank k x s).classes)
    (hh : t.held = s.held.filter (fun h => h ≠ k)) : OrderMoves s t := by
  have hrec := classRec_congr hc
  have hrank : HeldRanks s → ∀ j, t.rankAt j = if j = k then some x else s.rankAt j := fun hs j => by
    rw [rankAt_congr hc, rankAt_setRank, hk hs]
    simp
  refine ⟨fun hs j hj => ?_, fun hs j => ?_, fun c => .inl ?_, fun c => ?_⟩
  · rw [hh, List.mem_filter, decide_eq_true_eq] at hj
    rw [hrank hs, if_neg hj.2]
    exact hs j hj.1
  · rw [hrank hs]
    split
    · rename_i e
      subst e
      exact .inr ⟨hk hs, by simpa using hx⟩
    · exact .inl rfl
  · rw [hrec, classRec_setRank]
    split
    · rename_i e
      rw [e.1]
      rfl
    · rfl
  · rw [hrec, classRec_setRank]
    split
    · rename_i e
      rw [e.1]
      exact Nat.le_refl _
    · exact Nat.le_refl _

theorem setRank_classes_congr {s t : State} (h : t.classes = s.classes) (k : Key) (x : RankState) :
    (setRank k x t).classes = (setRank k x s).classes := by
  unfold setRank State.setClassRec
  rw [classRec_congr h]
  split
  · simp [h]
  · exact h

theorem release_moves {k : Key} {s : State} (hk : s.rankAt k = some .held) : OrderMoves s (release k s) :=
  setRank_moves (.inl rfl) (fun _ => hk) (by simp [release]) (by simp [release, leaveHeld])

theorem bumpCursor_moves (c : Nat) (s : State) : OrderMoves s (bumpCursor c s) := by
  have hrec : ∀ d, (bumpCursor c s).classRec d = if d = c ∧ c < 48 then { s.classRec c with cursor := (s.classRec c).cursor + 1 }
      else s.classRec d := fun d => State.classRec_setClassRec ..
  have hrank : ∀ k, (bumpCursor c s).rankAt k = s.rankAt k := fun k => by
    rw [State.rankAt, hrec]
    split
    · rename_i e
      rw [State.rankAt, e.1]
      rfl
    · rfl
  refine ⟨fun hs k hk => ?_, fun _ k => .inl (hrank k), fun d => .inl ?_, fun d => ?_⟩
  · rw [hrank]
    exact hs k (by simpa using hk)
  · rw [hrec]
    split
    · rename_i e
      rw [e.1]
    · rfl
  · rw [hrec]
    split
    · rename_i e
      rw [e.1]
      exact Nat.le_succ _
    · exact Nat.le_refl _

theorem passOver_moves (c : Nat) (s : State) : OrderMoves s (passOver c s) := by
  unfold passOver
  split
  · rename_i hh
    exact (release_moves (k := { cls := c, rank := (s.classRec c).cursor }) hh).trans (bumpCursor_moves c _)
  · exact bumpCursor_moves c s

theorem advance_moves (c fuel : Nat) (s : State) : OrderMoves s (advance c fuel s) := by
  induction fuel generalizing s with
  | zero => exact .refl s
  | succ fuel ih =>
    rw [advance_succ]
    split
    · exact (passOver_moves c s).trans (ih _)
    · exact .refl s

theorem doneCheck_moves (c : Nat) (s : State) : OrderMoves s (doneCheck c s) := by
  have hrank : ∀ k, (doneCheck c s).rankAt k = s.rankAt k := fun k => by
    rw [State.rankAt, classRec_doneCheck]
    split
    · rename_i e
      rw [State.rankAt, e.1]
      rfl
    · rfl
  refine ⟨fun hs k hk => ?_, fun _ k => .inl (hrank k), fun d => ?_, fun d => ?_⟩
  · rw [hrank]
    exact hs k (by simpa using hk)
  · rw [classRec_doneCheck]
    split
    · rename_i e
      rw [e.1]
      exact .inr ⟨e.2.1, rfl⟩
    · exact .inl rfl
  · rw [classRec_doneCheck]
    split
    · rename_i e
      rw [e.1]
    · exact Nat.le_refl _

theorem orderStep_moves (c : Nat) (s : State) : OrderMoves s (orderStep c s) :=
  (advance_moves c _ s).trans (doneCheck_moves c _)

theorem relieve_moves {k : Key} {s : State} (hk : k ∈ s.held) : OrderMoves s (relieve k s) := by
  unfold relieve
  extract_lets s1 s2
  have h2 : OrderMoves s s2 := by
    refine setRank_moves (.inr rfl) (fun hs => hs k hk) ?_ (by simp [s2, s1, leaveHeld])
    have e : s2.classes = (setRank k .relieved (leaveHeld k s1)).classes := by simp [s2]
    exact e.trans (setRank_classes_congr (by simp [s1]) _ _)
  exact (h2.toState (by simp) (by simp)).trans (orderStep_moves _ _)

theorem tryRelief_moves (s : State) : OrderMoves s (tryRelief s) := by
  unfold tryRelief
  split
  · split
    · rename_i k rest hheld
      exact relieve_moves (by simp [hheld])
    · exact .refl s
  · exact .refl s

theorem takePacket_moves (k : Key) (t : Target) (b : Budget) (s : State) : OrderMoves s (takePacket k t b s) := by
  unfold takePacket
  extract_lets c s1 s2 s3 s4
  have h4 : OrderMoves s s4 := .of_classes_eq (by simp [s1, s2, s3, s4]) (by simp [s1, s2, s3, s4])
  split
  · exact h4.trans (tryRelief_moves s4)
  · exact h4

theorem selectFrom_moves (qs : List Queued) (s : State) : OrderMoves s (selectFrom qs s) := by
  induction qs generalizing s with
  | nil => exact .refl s
  | cons q rest ih =>
    unfold selectFrom
    split
    · exact ih s
    · exact (OrderMoves.of_classes_eq (by simp) (by simp)).trans (ih _)
    · exact takePacket_moves _ _ _ s

theorem selectionPass_moves (s : State) : OrderMoves s (selectionPass s) := by
  unfold selectionPass
  split
  · exact selectFrom_moves _ s
  · exact .refl s

/-- An event's end moves ranks as the Return Order Unit does (R78, R86, R109). -/
theorem endEvent_moves (s0 : State) (o : Occasion) (s : State) : OrderMoves s (endEvent s0 o s) := by
  have relief : ∀ (b : Bool) (u : State), OrderMoves u (if b then tryRelief u else u) := fun b u => by
    cases b
    · exact .refl u
    · exact tryRelief_moves u
  have test : ∀ (b : Bool) (u : State), OrderMoves u (if b then purgeTest u else u) := fun b u => by
    cases b <;> exact .of_classes_eq (by simp) (by simp)
  have pass : ∀ (b : Bool) (u : State), OrderMoves u (if b then selectionPass u else u) := fun b u => by
    cases b
    · exact .refl u
    · exact selectionPass_moves u
  exact (relief _ s).trans ((test _ _).trans (pass _ _))

/-- An event that is no occasion of the Purge's test leaves the lanes and the Purge as its own effects have left them. -/
theorem endEvent_lanes (s0 : State) {o : Occasion} (ho : o.purge = false) (s : State) :
    (endEvent s0 o s).purge = s.purge ∧ ∀ m, (endEvent s0 o s).lane m = s.lane m := by
  have relief : ∀ (b : Bool) (u : State), (if b then tryRelief u else u).purge = u.purge
      ∧ ∀ m, (if b then tryRelief u else u).lane m = u.lane m := fun b u => by
    cases b <;> simp
  have pass : ∀ (b : Bool) (u : State), (if b then selectionPass u else u).purge = u.purge
      ∧ ∀ m, (if b then selectionPass u else u).lane m = u.lane m := fun b u => by
    cases b <;> simp
  unfold endEvent
  rw [ho]
  extract_lets s1 s2
  obtain ⟨hp, hl⟩ := pass (o.pass || queuedSince s0 s2) s2
  obtain ⟨hp', hl'⟩ := relief (o.relief || giftedSince s0 s || heldSince s0 s) s
  exact ⟨hp.trans hp', fun m => (hl m).trans (hl' m)⟩

end Sys2Proof.ClassTable

namespace Sys2Proof.Requests

open Sys2Proof.Machine Sys2Proof.Safety Sys2Proof.ClassTable

/-! # EXCUSE at the cursor, and Close Class -/

/-! ## EXCUSE of the WAITING rank at the cursor (R14) -/

/-- A rank that is not HELD may be set: no key of the held list names it. -/
theorem heldRanks_setRank {s : State} {k : Key} {x : RankState} (h : HeldRanks s) (hk : s.rankAt k ≠ some .held) :
    HeldRanks (setRank k x s) := by
  intro j hj
  have hj' : j ∈ s.held := by simpa using hj
  have hjk : j ≠ k := fun e => hk (e ▸ h j hj')
  rw [rankAt_setRank, if_neg (fun e => hjk e.1)]
  exact h j hj'

/-- The advance moves the cursor past an EXCUSED rank that it stands on (R79). -/
theorem advanced_past_excused {r : ClassRec} (h : ClassShape r) (hx : r.rankAt r.cursor = some .excused) :
    r.cursor < (advanced r.size r).cursor := by
  obtain ⟨hle, -, hrank⟩ := advanced_spec r.size r
  refine Nat.lt_of_le_of_ne hle fun e => ?_
  have hlt : r.cursor < r.size := (h.rankAt_isSome _).mp (by simp [hx])
  have hrest := h.advanced_atRest (fuel := r.size) (by omega)
    (by rw [(sameLoad_advanced _ _).size, ← e]; exact hlt)
  rw [← e, hrank, hx] at hrest
  simp at hrest

theorem heldRanks_frameCompleted {s : State} (h : HeldRanks s) (l : Lane) : HeldRanks (frameCompleted l s) := fun j hj => by
  rw [frameCompleted_rankAt]
  exact h j (by simpa using hj)

theorem applyMark_excuse_at_the_cursor {s : State} {key : Key} (hheld : HeldRanks s) (hkept : ClassKept (s.classRec key.cls))
    (hrank : s.rankAt key = some .waiting) (hcur : (s.classRec key.cls).cursor = key.rank) (l : Lane) (tag : Byte) :
    (applyMark l tag .excuse key s).rankAt key = some .excused
      ∧ key.rank < ((applyMark l tag .excuse key s).classRec key.cls).cursor := by
  have hc : key.cls < 48 := lt_of_rankAt hrank
  have hshape := ((classKept_iff _).mp hkept).1
  have hmark : (setRank key .excused s).rankAt key = some .excused := by
    rw [rankAt_setRank, hrank]
    simp
  have hheld' := heldRanks_setRank (x := .excused) hheld (by rw [hrank]; decide)
  have hrec : (setRank key .excused s).classRec key.cls = (s.classRec key.cls).withRank key.rank .excused := by
    rw [classRec_setRank, if_pos ⟨rfl, hc⟩]
  have hpast : key.rank < ((cursorAdvance key.cls (setRank key .excused s)).classRec key.cls).cursor := by
    rw [classRec_cursorAdvance, if_pos rfl, hrec, ← hcur]
    refine advanced_past_excused (hshape.withRank (.inr (by decide))) ?_
    rw [withRank_cursor, hcur, ← hrec]
    exact hmark
  unfold applyMark
  extract_lets s1
  have hs1 : s1 = setRank key .excused s := by simp [s1, reopenDone, RosterMark.rankState]
  rw [hs1]
  have hreply : (reply l tag .ok DownKind.setRosterMark.code [] (setRank key .excused s)).classes
      = (setRank key .excused s).classes := by simp
  have horder := orderStep_moves key.cls (reply l tag .ok DownKind.setRosterMark.code [] (setRank key .excused s))
  have hmoves := (OrderMoves.of_classes_eq hreply (by simp)).trans (horder.trans
    (endEvent_moves s { relief := false, purge := false, pass := false } _))
  refine ⟨?_, ?_⟩
  · obtain e | ⟨e, -⟩ := hmoves.ranks hheld' key
    · rw [e, hmark]
    · rw [hmark] at e
      simp at e
  · have hdone := (doneCheck_moves key.cls (cursorAdvance key.cls
      (reply l tag .ok DownKind.setRosterMark.code [] (setRank key .excused s)))).trans
      (endEvent_moves s { relief := false, purge := false, pass := false } _)
    refine Nat.lt_of_lt_of_le ?_ (hdone.cursors key.cls)
    rw [classRec_cursorAdvance, if_pos rfl, classRec_congr hreply]
    rwa [classRec_cursorAdvance, if_pos rfl] at hpast

/-- Settles O27: a mark that leaves the cursor at rest writes one record; EXCUSE at the cursor is followed by the advance. -/
theorem takenRosterMarkSetsTheRank : Obligations.TakenRosterMarkSetsTheRank := by
  refine ⟨fun m l tag c k s => ?_, fun l tag c k s => ?_⟩
  · intro key r applies hc he hk hkept happ
    obtain ⟨t, ht, hanswers, hactions, honly, hothers, hrec⟩ := taken_mark_above_the_cursor m l tag c k s hc he hk hkept
      (by
        cases m with
        | excuse => exact ⟨happ.1, Nat.le_of_lt happ.2.1, happ.2.2⟩
        | expect => exact happ
        | retry => exact happ)
      (by rintro rfl; exact happ.2.1)
    refine ⟨t, ht, hanswers, hactions, honly, hothers, hrec.trans ?_⟩
    cases m <;> rfl
  · intro key htower hkept hc hrank hcur hun
    have hshape := ((classKept_iff _).mp (hkept key.cls)).1
    have hlt : key.rank < (s.classRec key.cls).size := (hshape.rankAt_isSome _).mp (by
      show (s.rankAt key).isSome = true
      simp [hrank])
    have he : (s.classRec key.cls).state ≠ .empty := fun e => by
      have hnone := hshape.1.mp e
      simp [ClassRec.size, hnone] at hlt
    have hallowed : markAllowed key (frameCompleted l s) .excuse = true := by
      rw [markAllowed_iff]
      simp [Applies, hrank, hcur, hun]
    refine ⟨_, exec_markCommand .excuse l tag c k s, ?_⟩
    rw [onSetRosterMark_mark]
    simp only [frameCompleted_classRec]
    rw [if_neg (Nat.not_le.mpr hc), if_neg he, if_neg (Nat.not_le.mpr hlt), if_pos hallowed]
    refine applyMark_excuse_at_the_cursor (s := frameCompleted l s) (key := key)
      (heldRanks_frameCompleted (heldRanks_of_towerKept htower) l) ?_ ?_ ?_ l tag
    · simpa using hkept key.cls
    · simpa using hrank
    · simpa using hcur

/-! ## Close Class (R17) -/

/-- The queues after Close Class: its UNPLACED entries that it abandons are DIVERT RANK_CLOSED (R17 step 3). -/
theorem closeClass_queue (c : Nat) (s : State) (m : Lane) :
    ((closeClass c s).lane m).queue = (s.lane m).queue.map (Entry.closedBy s c) := by
  unfold closeClass
  extract_lets s1 s2 s3 s4
  rw [evalHolds_queue]
  cases m <;> simp [s1, s2, s3, s4, setQueue]

theorem closeClass_unplaced (c : Nat) (s : State) :
    (closeClass c s).unplaced = s.unplaced.filter (fun u => !s.abandons c u.key) := by
  simp [closeClass]

/-- In a state whose unplaced keys wait, Close Class abandons the unplaced keys of its class (R17, R56). -/
theorem abandons_iff {s : State} (h : TowerKept s) (c : Nat) (k : Key) :
    s.abandons c k = true ↔ k.cls = c ∧ s.isUnplaced k = true := by
  have hwait : s.isUnplaced k = true → s.rankAt k = some .waiting := fun hu => by
    obtain ⟨u, hu, hk⟩ := List.any_eq_true.mp hu
    exact of_decide_eq_true hk ▸ (h.waiting u hu).2.1
  simp only [State.abandons, Bool.and_eq_true, decide_eq_true_eq]
  exact ⟨fun ⟨⟨h1, _⟩, h3⟩ => ⟨h1, h3⟩, fun ⟨h1, h3⟩ => ⟨⟨h1, hwait h3⟩, h3⟩⟩

/-- Close Class gives up a WAITING rank and keeps every other (R17). -/
theorem map_closed_of_ne_waiting {o : Option RankState} (h : o ≠ some .waiting) : o.map RankState.closed = o := by
  match o with
  | none => rfl
  | some x => cases x <;> simp_all [RankState.closed]

/-- In such a state the unplaced keys that Close Class keeps are those of the other classes (R17 step 3). -/
theorem not_abandons_of_unplaced {s : State} (h : TowerKept s) (c : Nat) {u : Waiting} (hu : u ∈ s.unplaced) :
    (!s.abandons c u.key) = decide (u.key.cls ≠ c) := by
  have hun : s.isUnplaced u.key = true := List.any_eq_true.mpr ⟨u, hu, by simp⟩
  rw [Bool.eq_iff_iff, Bool.not_eq_true', decide_eq_true_eq, ← Bool.not_eq_true, abandons_iff h]
  exact not_congr (and_iff_left hun)

theorem frameCompleted_abandons (l : Lane) (s : State) (c : Nat) (k : Key) :
    (frameCompleted l s).abandons c k = s.abandons c k := by
  simp [State.abandons]

/-- The record of its class after the four steps of Close Class (R7, R17). -/
theorem closeClass_record {c : Nat} (hc : c < 48) (s : State) (k : Nat) :
    ((closeClass c s).classRec c).rankAt k = ((s.classRec c).rankAt k).map RankState.closed
      ∧ ((closeClass c s).classRec c).state
          = if (s.classRec c).state = .loaded then .active else (s.classRec c).state := by
  rw [classRec_closeClass hc, if_pos rfl, rankAt_closeRanks]
  unfold activate
  split
  · simp only [classRec_setClassState, hc, and_self, if_true]
    exact ⟨rfl, rfl⟩
  · exact ⟨rfl, rfl⟩

/-- Close Class makes no HELD rank and takes none away. -/
theorem heldRanks_closeClass {c : Nat} (hc : c < 48) {s : State} (h : HeldRanks s) : HeldRanks (closeClass c s) := by
  intro k hk
  have hk' := h k (by simpa using hk)
  rw [State.rankAt] at hk' ⊢
  rcases eq_or_ne k.cls c with e | e
  · rw [e] at hk' ⊢
    rw [(closeClass_record hc s k.rank).1, hk']
    rfl
  · rw [classRec_closeClass hc, if_neg e]
    unfold activate
    split
    · rwa [classRec_setClassState, if_neg (fun e' => e e'.1)]
    · exact hk'

theorem onCloseClass_badClass {c : Byte} (hc : 48 ≤ c.toNat) (s : State) (l : Lane) (tag : Byte) :
    onCloseClass l tag [c] s = reply l tag .field 0x14#8 [] s := by
  rw [onCloseClass, withLength_of_length rfl]
  exact if_pos hc

theorem onCloseClass_refused {c : Byte} {s : State} (hc : c.toNat < 48)
    (hs : (s.classRec c.toNat).state = .empty ∨ (s.classRec c.toNat).state = .done) (l : Lane) (tag : Byte) :
    onCloseClass l tag [c] s = reply l tag .state 0x14#8 [] s := by
  rw [onCloseClass, withLength_of_length rfl]
  exact (if_neg (Nat.not_le.mpr hc)).trans (if_pos hs)

theorem onCloseClass_taken {c : Byte} {s : State} (hc : c.toNat < 48)
    (hs : ¬((s.classRec c.toNat).state = .empty ∨ (s.classRec c.toNat).state = .done)) (l : Lane) (tag : Byte) :
    onCloseClass l tag [c] s = endEvent s { relief := false, purge := false, pass := false }
      (orderStep c.toNat (reply l tag .ok 0x14#8 [] (closeClass c.toNat s))) := by
  rw [onCloseClass, withLength_of_length rfl]
  exact (if_neg (Nat.not_le.mpr hc)).trans (if_neg hs)

/-- What a taken Close Class leaves of the ranks of its class and of its stage (R17, R78). -/
theorem closeClass_moves {c : Nat} (hc : c < 48) {s : State} (h : HeldRanks s) (l : Lane) (tag : Byte) (o : Occasion) (k : Nat) :
    let t := endEvent s o (orderStep c (reply l tag .ok 0x14#8 [] (closeClass c s)))
    ((t.classRec c).rankAt k = ((s.classRec c).rankAt k).map RankState.closed
      ∨ ((s.classRec c).rankAt k = some .held
        ∧ ((t.classRec c).rankAt k = some .released ∨ (t.classRec c).rankAt k = some .relieved)))
      ∧ ((s.classRec c).state = .loaded ∨ (s.classRec c).state = .active →
          (t.classRec c).state = .active ∨ (t.classRec c).state = .done) := by
  intro t
  have hmoves : OrderMoves (closeClass c s) t :=
    (OrderMoves.of_classes_eq (by simp) (by simp)).trans ((orderStep_moves c _).trans (endEvent_moves s o _))
  obtain ⟨hrank, hstate⟩ := closeClass_record hc s k
  refine ⟨?_, fun hst => ?_⟩
  · have hm := hmoves.ranks (heldRanks_closeClass hc h) { cls := c, rank := k }
    simp only [State.rankAt, hrank] at hm
    refine hm.imp_right fun ⟨hh, hto⟩ => ⟨?_, hto⟩
    cases hx : (s.classRec c).rankAt k with
    | none => simp [hx] at hh
    | some x => cases x <;> simp_all [RankState.closed]
  · have hact : ((closeClass c s).classRec c).state = .active := by
      rw [hstate]
      rcases hst with e | e <;> simp [e]
    obtain e | ⟨-, e⟩ := hmoves.states c
    · exact .inl (e.trans hact)
    · exact .inr e

/-- Settles O29: the four steps of R17, then the Return Order Unit and the end of the event, which move HELD ranks only. -/
theorem closeClassGivesUpWaitingRanks : Obligations.CloseClassGivesUpWaitingRanks := by
  intro l tag c s r
  refine ⟨fun hc => ⟨_, rfl, ?_⟩, fun hc hs => ⟨_, rfl, ?_⟩, fun hc hs htower => ⟨_, rfl, ?_⟩⟩
  · rw [onCloseClass_badClass hc]
    exact turnedAway_reply ..
  · rw [onCloseClass_refused hc (by simpa using hs)]
    exact turnedAway_reply ..
  · have hs' : ¬(((frameCompleted l s).classRec c.toNat).state = .empty ∨ ((frameCompleted l s).classRec c.toNat).state = .done) := by
      rw [frameCompleted_classRec]
      show ¬(r.state = .empty ∨ r.state = .done)
      rcases hs with e | e <;> simp [e]
    rw [onCloseClass_taken hc hs']
    have hheld := heldRanks_frameCompleted (heldRanks_of_towerKept htower) l
    have hmoves := closeClass_moves hc hheld l tag { relief := false, purge := false, pass := false }
    simp only [frameCompleted_classRec] at hmoves
    obtain ⟨hpurge, hlanes⟩ := endEvent_lanes (frameCompleted l s) (o := { relief := false, purge := false, pass := false })
      rfl (orderStep c.toNat (reply l tag .ok 0x14#8 [] (closeClass c.toNat (frameCompleted l s))))
    refine ⟨fun k hk => ?_, fun k hw hh => ?_, fun k hk => ?_, (hmoves 0).2 hs, ?_, fun m => ?_, by simp, by simp, by simp,
      by simp [hpurge], by simp, by simp⟩
    · obtain e | ⟨e, -⟩ := (hmoves k).1
      · exact e.trans (congrArg (Option.map RankState.closed) hk)
      · cases e.symm.trans hk
    · obtain e | ⟨e, -⟩ := (hmoves k).1
      · exact e.trans (map_closed_of_ne_waiting hw)
      · exact absurd e hh
    · obtain e | ⟨-, e⟩ := (hmoves k).1
      · exact .inl ((e.trans (map_closed_of_ne_waiting (hk.trans_ne (by decide)))).trans hk)
      · exact .inr e
    · simp only [endEvent_frame, orderStep_frame, reply_frame, closeClass_unplaced, frameCompleted_frame]
      refine List.filter_congr fun u hu => ?_
      rw [frameCompleted_abandons, not_abandons_of_unplaced htower c.toNat hu]
    · rw [hlanes]
      simp only [orderStep_frame, reply_frame, closeClass_queue, frameCompleted_frame]
      refine List.map_congr_left fun e _ => ?_
      simp only [Entry.closedBy, frameCompleted_abandons, abandons_iff htower]

/-! # Power-on -/

/-- Settles O3: each law as a check that evaluates on the written-out state. -/
theorem resetSatisfiesTheLaws : Obligations.ResetSatisfiesTheLaws := by
  obtain ⟨hholds, htransit, hlisted, hbounded⟩ := lanesKept_of_check (s := State.reset) (by decide)
  exact ⟨tablesInRange_of_check (by decide), hbounded, classesKept_reset, binsKept_of_check (by decide), rfl, htransit, hholds,
    timersFrozen_of_check (by decide), hlisted, towerKept_of_check (by decide), heightsKept_of_check (by decide),
    keysWait_of_check (by decide)⟩

/-- Settles O4: `State.reset` is written out, and each record of a table is the one that fills it. -/
theorem powerOnGivesThePowerOnValues : Obligations.PowerOnGivesThePowerOnValues := by
  refine ⟨fun _ => rfl, ?_⟩
  intro s
  have hrec : ∀ c, c < 48 → s.classRec c = .emptyWith 0#8 := fun c hc => by
    simp [s, State.classRec, finOf_of_lt hc, State.reset]
  refine ⟨fun c hc => by rw [hrec c hc]; exact ⟨rfl, rfl, rfl, rfl, rfl, rfl⟩, fun i => by simp [s, State.reset],
    fun i => by simp [s, State.reset], rfl, fun l => by cases l <;> rfl, rfl, fun n => by simp [s, State.slot, State.reset], rfl, rfl,
    rfl, rfl, rfl, fun b => by simp [s, State.bin, State.reset, Bin.reset], rfl, fun l => by cases l <;> rfl, rfl, rfl, rfl⟩

end Sys2Proof.Requests

namespace Sys2Proof.Events

open Sys2Proof.Machine Sys2Proof.Safety Sys2Proof.ClassTable Sys2Proof.Requests

/-! # What every event keeps of the lanes, the tables and the packets' sheets

The laws of O6 and O7 in one bundle, `Keeps`: a shared operation is said once to keep it, and an event keeps it because its
operations do. -/

/-! ## The laws, one lane or one key at a time -/

/-- The transit timer of a lane watches its queue head (R36). -/
def LaneWatches (u : LaneUnit) : Prop := u.transit = if u.inFault then none else u.queue.head?.map Entry.deadline

/-- Each key of the unplaced list but `o` has an UNPLACED entry in a queue. Inside an event, between the two halves of a joining
or a leaving of the list, `o` is the key concerned. -/
def KeysWaitBut (o : Option Key) (s : State) : Prop :=
  (s.unplaced.map Waiting.key).Nodup ∧ (s.purge ≠ .idle → s.unplaced = [])
    ∧ ∀ u ∈ s.unplaced, o ≠ some u.key → ∃ l, ∃ e ∈ (s.lane l).queue, e.key = u.key ∧ e.verdict = .unplaced

theorem keysWaitBut_none (s : State) : KeysWaitBut none s ↔ KeysWaitInQueues s := by simp [KeysWaitBut, KeysWaitInQueues]

/-- Two Lane Units alike but for the state RUNNING or HELD and the expected sequence. -/
structure LaneAlike (u v : LaneUnit) : Prop where
  queue : v.queue = u.queue
  transit : v.transit = u.transit
  inFault : v.inFault = u.inFault

/-- What only some commands may do: which lanes they may clear, and whether they may empty the exception tray and change the
sheet stamp. -/
structure Licence where
  clears : Lane → Prop
  empties : Prop
  stamps : Prop

/-- The licence of an operation that does none of it. -/
def Licence.none : Licence := ⟨fun _ => False, False, False⟩

/-- The laws of the announce queues from `s` to `t`; the law of the waiting keys leaves out `o` before and `o'` after. -/
structure KeepsQueues (lic : Licence) (o o' : Option Key) (s t : State) : Prop where
  watches : ∀ l, LaneWatches (s.lane l) → LaneWatches (t.lane l)
  listed : UnplacedEntriesListed s → UnplacedEntriesListed t
  waits : KeysWaitBut o s → KeysWaitBut o' t
  fault : ∀ l, (s.lane l).inFault = true → (t.lane l).inFault = true ∨ lic.clears l
  room : ∀ l, (s.lane l).queue.length ≤ Config.queueRoom → (t.lane l).queue.length ≤ Config.queueRoom

/-- The laws of the links, the tables, the packets' sheets and the two counts from `s` to `t`. -/
structure KeepsStores (lic : Licence) (s t : State) : Prop where
  room : ∀ l, (s.link l).tx.length ≤ Config.txRoom → (t.link l).tx.length ≤ Config.txRoom
  tables : TablesInRange s → TablesInRange t
  heights : TablesInRange s → HeightsKept s → HeightsKept t
  tray : s.tray ≤ t.tray ∨ lic.empties
  stamp : t.stamp = s.stamp ∨ lic.stamps

/-- All the laws but that of the hold conditions, which an operation leaves to an evaluation that follows it. -/
structure KeepsBut (lic : Licence) (o o' : Option Key) (s t : State) : Prop where
  queues : KeepsQueues lic o o' s t
  stores : KeepsStores lic s t

/-- All the laws from `s` to `t`: a lane with its hold conditions settled stays so, too (R44). -/
structure Keeps (lic : Licence) (o o' : Option Key) (s t : State) : Prop extends KeepsBut lic o o' s t where
  settled : ∀ l, LaneSettled s l → LaneSettled t l

section
variable {lic : Licence} {o o' o'' : Option Key} {s t u : State}

theorem KeepsQueues.trans (h : KeepsQueues lic o o' s t) (h' : KeepsQueues lic o' o'' t u) : KeepsQueues lic o o'' s u where
  watches l := h'.watches l ∘ h.watches l
  listed := h'.listed ∘ h.listed
  waits := h'.waits ∘ h.waits
  fault l hl := (h.fault l hl).elim (h'.fault l) .inr
  room l := h'.room l ∘ h.room l

theorem KeepsStores.trans (h : KeepsStores lic s t) (h' : KeepsStores lic t u) : KeepsStores lic s u where
  room l := h'.room l ∘ h.room l
  tables := h'.tables ∘ h.tables
  heights ht := h'.heights (h.tables ht) ∘ h.heights ht
  tray := h.tray.elim (fun a => h'.tray.imp_left (a.trans ·)) .inr
  stamp := h'.stamp.elim (fun a => h.stamp.imp_left a.trans) .inr

theorem KeepsBut.trans (h : KeepsBut lic o o' s t) (h' : KeepsBut lic o' o'' t u) : KeepsBut lic o o'' s u :=
  ⟨h.queues.trans h'.queues, h.stores.trans h'.stores⟩

theorem Keeps.trans (h : Keeps lic o o' s t) (h' : Keeps lic o' o'' t u) : Keeps lic o o'' s u :=
  ⟨h.toKeepsBut.trans h'.toKeepsBut, fun l => h'.settled l ∘ h.settled l⟩

/-- Queues that stay, with their timers, under the same list; a Purge may end. -/
theorem KeepsQueues.of_alike (hl : ∀ l, LaneAlike (s.lane l) (t.lane l)) (hu : t.unplaced = s.unplaced)
    (hp : t.purge ≠ .idle → s.purge ≠ .idle) : KeepsQueues lic o o s t where
  watches l := by
    unfold LaneWatches
    rw [(hl l).queue, (hl l).transit, (hl l).inFault]
    exact id
  listed h l e he := by
    rw [(hl l).queue] at he
    simpa [State.isUnplaced, hu] using h l e he
  waits h := by
    refine ⟨hu ▸ h.1, fun hb => hu ▸ h.2.1 (hp hb), fun w hw ho => ?_⟩
    obtain ⟨l, e, he, hk⟩ := h.2.2 w (hu ▸ hw) ho
    exact ⟨l, e, (hl l).queue ▸ he, hk⟩
  fault l h := .inl ((hl l).inFault ▸ h)
  room l := by
    rw [(hl l).queue]
    exact id

theorem KeepsStores.of_parts (hlink : ∀ l, (s.link l).tx.length ≤ Config.txRoom → (t.link l).tx.length ≤ Config.txRoom)
    (htables : t.tables = s.tables) (hsupply : t.fin.supply ≤ s.fin.supply)
    (hh : TablesInRange s → HeightsKept s → HeightsKept t)
    (htray : s.tray ≤ t.tray) (hstamp : t.stamp = s.stamp) : KeepsStores lic s t where
  room := hlink
  tables h := by
    unfold TablesInRange State.settings at h ⊢
    rw [htables]
    exact ⟨h.1, h.2.1, h.2.2.1, hsupply.trans h.2.2.2⟩
  heights := hh
  tray := .inl htray
  stamp := .inl hstamp

theorem settled_of_lane_eq (hl : ∀ l, t.lane l = s.lane l) (hset : t.settings = s.settings) (htray : t.tray = s.tray)
    (hp : t.purge = s.purge) (l : Lane) (h : LaneSettled s l) : LaneSettled t l :=
  h.congr (hl l) (holdCondition_congr (by rw [hl]) (by rw [hl]) hset htray hp)

/-- An operation that touches none of what the laws read; simp finds each of these facts by the frame lemmas. -/
theorem Keeps.of_same (hlane : ∀ l, t.lane l = s.lane l := by simp) (hu : t.unplaced = s.unplaced := by simp)
    (hp : t.purge = s.purge := by simp) (htables : t.tables = s.tables := by simp) (htray : t.tray = s.tray := by simp)
    (hstamp : t.stamp = s.stamp := by simp) (hsupply : t.fin.supply ≤ s.fin.supply := by simp)
    (hlink : ∀ l, (s.link l).tx.length ≤ Config.txRoom → (t.link l).tx.length ≤ Config.txRoom := by simp)
    (hh : TablesInRange s → HeightsKept s → HeightsKept t := by simp [HeightsKept]) : Keeps lic o o s t where
  queues := .of_alike (fun l => hlane l ▸ ⟨rfl, rfl, rfl⟩) hu (hp ▸ id)
  stores := .of_parts hlink htables hsupply hh htray.ge hstamp
  settled := settled_of_lane_eq hlane (by unfold State.settings; rw [htables]) htray hp

theorem Keeps.refl (s : State) : Keeps lic o o s s := .of_same

/-! ## Operations that touch nothing of this -/

theorem act_keeps (x : Action) (s : State) : Keeps lic o o s (act x s) := .of_same
theorem beginEvent_keeps (s : State) : Keeps lic o o s (beginEvent s) := .of_same
theorem setClassRec_keeps (c : Nat) (r : ClassRec) (s : State) : Keeps lic o o s (s.setClassRec c r) := .of_same
theorem setRank_keeps (k : Key) (x : RankState) (s : State) : Keeps lic o o s (setRank k x s) := .of_same
theorem endRank_keeps (k : Key) (x : RankState) (s : State) : Keeps lic o o s (endRank k x s) := .of_same
theorem activate_keeps (c : Nat) (s : State) : Keeps lic o o s (activate c s) := .of_same
theorem setSlot_keeps (n : Fin 24) (x : Slot) (s : State) : Keeps lic o o s (setSlot n x s) := .of_same
theorem setHeld_keeps (v : List Key) (s : State) : Keeps lic o o s (s.setHeld v) := .of_same
theorem leaveHeld_keeps (k : Key) (s : State) : Keeps lic o o s (leaveHeld k s) := .of_same
theorem joinFinishing_keeps (q : QueueName) (k : Key) (s : State) : Keeps lic o o s (joinFinishing q k s) := .of_same
theorem leaveFinishing_keeps (k : Key) (s : State) : Keeps lic o o s (leaveFinishing k s) := .of_same
theorem setBin_keeps (b : Fin 17) (x : Bin) (s : State) : Keeps lic o o s (setBin b x s) := .of_same
theorem reserve_keeps (t : Target) (n : Nat) (s : State) : Keeps lic o o s (reserve t n s) := .of_same
theorem unreserve_keeps (t : Target) (n : Nat) (s : State) : Keeps lic o o s (unreserve t n s) := .of_same
theorem raise_keeps (c : Cause) (s : State) : Keeps lic o o s (raise c s) := .of_same

/-- A change of the Finishing Unit's state that adds no staples. -/
theorem setFin_keeps {f : Finisher} (hf : f.supply ≤ s.fin.supply) : Keeps lic o o s (s.setFin f) := .of_same (hsupply := hf)

theorem setCurrent_keeps (c : Option Current) (s : State) : Keeps lic o o s (setCurrent c s) := setFin_keeps (le_refl _)
theorem freeUnit_keeps (m : Bool) (s : State) : Keeps lic o o s (freeUnit m s) := setFin_keeps (le_refl _)
theorem startStage_keeps (g : Stage) (s : State) : Keeps lic o o s (startStage g s) := setFin_keeps (le_refl _)

theorem enterTransfer_keeps (k : Key) (s : State) : Keeps lic o o s (enterTransfer k s) := by
  unfold enterTransfer
  split
  · exact (act_keeps ..).trans (startStage_keeps ..)
  · exact startStage_keeps ..

theorem enterJog_keeps (s : State) : Keeps lic o o s (enterJog s) := (act_keeps ..).trans (startStage_keeps ..)

theorem fireStaple_keeps (c : Current) (s : State) : Keeps lic o o s (fireStaple c s) := by
  unfold fireStaple
  split
  · exact (act_keeps ..).trans (startStage_keeps ..)
  · exact startStage_keeps ..

theorem enterEject_keeps (c : Current) (s : State) : Keeps lic o o s (enterEject c s) := (act_keeps ..).trans (startStage_keeps ..)

/-! ## Frames on the links (R147, R149) -/

theorem length_dropNewest_add_one {p : Frame → Bool} {tx : List Frame} (h : tx.any p = true) :
    (dropNewest p tx).length + 1 = tx.length := by
  obtain ⟨f, hf, hp⟩ := List.any_eq_true.mp h
  have hlen := List.length_eraseP_of_mem (List.mem_reverse.mpr hf) hp
  have hpos := List.length_pos_of_mem hf
  simp only [List.length_reverse] at hlen
  simp only [dropNewest, List.length_reverse, hlen]
  omega

/-- A full transmit queue grows no longer (R149). -/
theorem length_displace (f : Frame) (tx : List Frame) : (displace f tx).length ≤ tx.length := by
  unfold displace
  split
  · rename_i h
    simpa using (length_dropNewest_add_one h).le
  · split
    · rename_i h
      simpa using (length_dropNewest_add_one h).le
    · simp

theorem length_joinTx {f : Frame} {tx : List Frame} (h : tx.length ≤ Config.txRoom) :
    (joinTx f tx).length ≤ Config.txRoom := by
  unfold joinTx
  split
  · simpa using ‹tx.length < Config.txRoom›
  · split <;> first | exact (length_displace f tx).trans h | exact h

theorem sendUnsolicited_room (l m : Lane) (kind : UpKind) (body : List Byte) (s : State)
    (h : (s.link m).tx.length ≤ Config.txRoom) : ((sendUnsolicited l kind body s).link m).tx.length ≤ Config.txRoom := by
  by_cases hm : m = l
  · subst hm
    simpa [sendUnsolicited] using length_joinTx h
  · simpa [sendUnsolicited, hm] using h

theorem sendUnsolicited_keeps (l : Lane) (kind : UpKind) (body : List Byte) (s : State) :
    Keeps lic o o s (sendUnsolicited l kind body s) :=
  .of_same (hlink := fun m => sendUnsolicited_room l m kind body s)

theorem sendReport_keeps (kind : UpKind) (body : List Byte) (s : State) : Keeps lic o o s (sendReport kind body s) :=
  sendUnsolicited_keeps ..

theorem reply_keeps (l : Lane) (tag : Byte) (code : ReplyCode) (kind : Byte) (data : List Byte) (s : State) :
    Keeps lic o o s (reply l tag code kind data s) := by
  refine .of_same (hlink := fun m h => ?_)
  rw [reply_link]
  split
  · subst m
    simpa using length_joinTx h
  · exact h

theorem setRx_keeps (l : Lane) (r : Receiver) (s : State) : Keeps lic o o s (setRx l r s) := by
  refine .of_same (hlink := fun m h => ?_)
  by_cases hm : m = l
  · subst hm
    simpa [setRx] using h
  · simpa [setRx, hm] using h

theorem frameCompleted_keeps (l : Lane) (s : State) : Keeps lic o o s (frameCompleted l s) :=
  (Keeps.of_same (t := beginEvent s)).trans (setRx_keeps ..)

/-! ## Packets and their sheets (R63, R96) -/

/-- Two packets with the same sheets. -/
structure SameSheets (p q : Packet) : Prop where
  snapshot : q.snapshot = p.snapshot
  nextBody : q.nextBody = p.nextBody
  coverReceived : q.coverReceived = p.coverReceived
  sheetsHeld : q.sheetsHeld = p.sheetsHeld
  height : q.height = p.height

/-- What the law of the heights says of one packet. -/
def SheetsKept (p : Packet) : Prop := Packet.sheetsFit p ∧ p.height ≤ 400 * p.sheetsHeld

theorem SheetsKept.of_same {p q : Packet} (h : SheetsKept p) (e : SameSheets p q) : SheetsKept q := by
  unfold SheetsKept Packet.sheetsFit at *
  rwa [e.snapshot, e.nextBody, e.coverReceived, e.sheetsHeld, e.height]

theorem mem_updatePacket {k : Key} {f : Packet → Packet} {p : Packet} :
    p ∈ (updatePacket k f s).packets ↔ ∃ q ∈ s.packets, (if q.key = k then f q else q) = p := by
  simp [updatePacket]

theorem updatePacket_keeps {k : Key} {f : Packet → Packet}
    (hf : TablesInRange s → HeightsKept s → ∀ p ∈ s.packets, SheetsKept (f p)) : Keeps lic o o s (updatePacket k f s) := by
  refine .of_same (hh := fun ht h p hp => ?_)
  obtain ⟨q, hq, rfl⟩ := mem_updatePacket.mp hp
  split
  · exact hf ht h q hq
  · exact h q hq

/-- A change of a packet that leaves its sheets. -/
theorem updatePacket_same_keeps {k : Key} {f : Packet → Packet} (hf : ∀ p, SameSheets p (f p)) (s : State) :
    Keeps lic o o s (updatePacket k f s) := updatePacket_keeps fun _ h p hp => SheetsKept.of_same (h p hp) (hf p)

theorem updateFlags_keeps (k : Key) (f : PacketFlags → PacketFlags) (s : State) : Keeps lic o o s (updateFlags k f s) :=
  updatePacket_same_keeps (f := fun p => { p with flags := f p.flags }) (fun _ => ⟨rfl, rfl, rfl, rfl, rfl⟩) s

theorem movePacket_keeps (k : Key) (h : SlotHold) (s : State) : Keeps lic o o s (movePacket k h s) := by
  have move : ∀ u, Keeps lic o o u (updatePacket k (fun p => { p with state := h.packetState }) u) :=
    updatePacket_same_keeps fun _ => ⟨rfl, rfl, rfl, rfl, rfl⟩
  unfold movePacket
  split
  · exact .trans (.of_same) (move _)
  · exact move s

theorem removePacket_keeps (k : Key) (s : State) : Keeps lic o o s (removePacket k s) :=
  .of_same (hh := fun _ h p hp => h p (List.mem_of_mem_filter (l := s.packets) (p := fun q : Packet => decide (q.key ≠ k)) hp))

theorem mapTimers_heights (f : CollectTimer → CollectTimer) (s : State) (h : HeightsKept s) : HeightsKept (mapTimers f s) := by
  intro p hp
  simp only [mapTimers, State.setPackets_packets, List.mem_map] at hp
  obtain ⟨q, hq, rfl⟩ := hp
  exact SheetsKept.of_same (h q hq) ⟨rfl, rfl, rfl, rfl, rfl⟩

theorem mapTimers_keeps (f : CollectTimer → CollectTimer) (s : State) : Keeps lic o o s (mapTimers f s) :=
  .of_same (hh := fun _ => mapTimers_heights f s)

/-- A new packet takes its sheet count from a LOADED assignment (R18, R55). -/
theorem newPacket_sheetsKept (k : Key) (g : BitVec 8) (n : Fin 24) {a : Assignment} (j : BitVec 16)
    (ha : 1 ≤ a.sheetCount ∧ a.sheetCount ≤ 40) : SheetsKept (newPacket k g n a j) := by
  unfold SheetsKept Packet.sheetsFit newPacket
  cases a.cover <;> simp <;> omega

theorem addPacket_keeps {p : Packet} (hp : TablesInRange s → SheetsKept p) : Keeps lic o o s (addPacket p s) := by
  refine .of_same (hh := fun ht h q hq => ?_)
  rcases (mem_insertByKey p q s.packets).mp (by simpa [addPacket] using hq) with rfl | hq
  · exact hp ht
  · exact h q hq

/-! ## The Return Order Unit (chapter 4) -/

theorem release_keeps (k : Key) (s : State) : Keeps lic o o s (release k s) :=
  (setRank_keeps ..).trans ((leaveHeld_keeps ..).trans ((movePacket_keeps ..).trans (joinFinishing_keeps ..)))

theorem advance_keeps (c fuel : Nat) (s : State) : Keeps lic o o s (advance c fuel s) := by
  induction fuel generalizing s with
  | zero => exact .refl s
  | succ fuel ih =>
    have bump : ∀ u, Keeps lic o o u (advance c fuel (bumpCursor c u)) := fun u => (setClassRec_keeps ..).trans (ih _)
    unfold advance
    dsimp only
    split
    · exact bump s
    · exact bump s
    · exact bump s
    · exact (release_keeps ..).trans (bump _)
    all_goals exact .refl s

theorem doneCheck_keeps (c : Nat) (s : State) : Keeps lic o o s (doneCheck c s) := by
  unfold doneCheck
  split
  · exact (setClassRec_keeps ..).trans ((sendReport_keeps ..).trans (raise_keeps ..))
  · exact .refl s

theorem orderStep_keeps (c : Nat) (s : State) : Keeps lic o o s (orderStep c s) :=
  (advance_keeps c _ s).trans (doneCheck_keeps c _)

theorem handCompleted_keeps (k : Key) (s : State) : Keeps lic o o s (handCompleted k s) := by
  unfold handCompleted
  split
  · exact (updateFlags_keeps ..).trans ((setRank_keeps ..).trans ((movePacket_keeps ..).trans ((joinFinishing_keeps ..).trans
      (orderStep_keeps ..))))
  · exact (setRank_keeps ..).trans ((movePacket_keeps ..).trans ((setHeld_keeps ..).trans (orderStep_keeps ..)))

theorem queueForTray_keeps (k : Key) (s : State) : Keeps lic o o s (queueForTray k s) :=
  (movePacket_keeps ..).trans ((joinFinishing_keeps ..).trans ((setRank_keeps ..).trans (orderStep_keeps ..)))

theorem relieve_keeps (k : Key) (s : State) : Keeps lic o o s (relieve k s) :=
  (updateFlags_keeps ..).trans ((leaveHeld_keeps ..).trans ((setRank_keeps ..).trans ((movePacket_keeps ..).trans
    ((joinFinishing_keeps ..).trans ((raise_keeps ..).trans (orderStep_keeps ..))))))

theorem tryRelief_keeps (s : State) : Keeps lic o o s (tryRelief s) := by
  unfold tryRelief
  split
  · split
    · exact relieve_keeps _ s
    · exact .refl s
  · exact .refl s

theorem becomeStale_keeps (k : Key) (s : State) : Keeps lic o o s (becomeStale k s) := by
  have h := updatePacket_same_keeps (lic := lic) (o := o) (k := k)
    (f := fun p => { p with timer := .stopped, flags := { p.flags with stale := true } }) (fun _ => ⟨rfl, rfl, rfl, rfl, rfl⟩) s
  exact h.trans ((queueForTray_keeps ..).trans (raise_keeps ..))

/-! ## The selection pass (chapter 6) -/

theorem takePacket_keeps (k : Key) (t : Target) (b : Budget) (s : State) : Keeps lic o o s (takePacket k t b s) := by
  have finish : ∀ u, Keeps lic o o u (updatePacket k (fun p => { p with state := .finishing }) u) :=
    updatePacket_same_keeps fun _ => ⟨rfl, rfl, rfl, rfl, rfl⟩
  unfold takePacket
  dsimp only
  split
  · exact (updateFlags_keeps ..).trans ((reserve_keeps ..).trans ((leaveFinishing_keeps ..).trans ((finish _).trans
      ((setCurrent_keeps ..).trans ((enterTransfer_keeps ..).trans (tryRelief_keeps _))))))
  · exact (updateFlags_keeps ..).trans ((reserve_keeps ..).trans ((leaveFinishing_keeps ..).trans ((finish _).trans
      ((setCurrent_keeps ..).trans (enterTransfer_keeps ..)))))

theorem selectFrom_keeps (qs : List Queued) (s : State) : Keeps lic o o s (selectFrom qs s) := by
  induction qs generalizing s with
  | nil => exact .refl s
  | cons q rest ih =>
    unfold selectFrom
    split
    · exact ih s
    · exact (raise_keeps ..).trans (ih _)
    · exact takePacket_keeps _ _ _ s

theorem selectionPass_keeps (s : State) : Keeps lic o o s (selectionPass s) := by
  unfold selectionPass
  split
  · exact selectFrom_keeps _ s
  · exact .refl s

end
end Sys2Proof.Events

namespace Sys2Proof.Events

open Sys2Proof.Machine Sys2Proof.Safety Sys2Proof.ClassTable Sys2Proof.Requests

/-! # Holds, faults and gifts keep the laws -/

section
variable {lic : Licence} {o o' : Option Key} {s t v : State} {l m : Lane}

/-! ## An evaluation of hold conditions (R44) -/

theorem evalHold_alike (l m : Lane) (s : State) : LaneAlike (s.lane m) ((evalHold l s).lane m) := by
  obtain ⟨x, e, hf, -⟩ := evalHold_lane l m s
  exact ⟨by rw [e], by rw [e], hf⟩

/-- An evaluation settles its lane whatever came before, and leaves the other lane as settled as it was. -/
theorem evalHold_settled_of (hl : m ≠ l → v.lane m = s.lane m) (hset : v.settings = s.settings := by simp)
    (htray : v.tray = s.tray := by simp) (hp : v.purge = s.purge := by simp) (h : LaneSettled s m) :
    LaneSettled (evalHold l v) m := by
  by_cases hm : m = l
  · exact hm ▸ evalHold_settles l v
  · refine h.congr ((evalHold_lane_of_ne hm v).trans (hl hm)) ?_
    rw [evalHold_holdCondition]
    exact holdCondition_congr (by rw [hl hm]) (by rw [hl hm]) hset htray hp

theorem evalHold_keeps (l : Lane) (s : State) : Keeps lic o o s (evalHold l s) where
  queues := .of_alike (fun m => evalHold_alike l m s) (by simp) (by simp)
  stores := by
    obtain ⟨e, -⟩ | ⟨-, -, e⟩ | ⟨-, -, e⟩ := evalHold_cases l s <;> rw [e]
    · exact (Keeps.refl (o := o) s).stores
    · exact .of_parts (fun m h => sendUnsolicited_room l m .hold [] _ (by simpa using h)) (by simp) (by simp)
        (by simp [HeightsKept]) (by simp) (by simp)
    · exact .of_parts (fun m h => sendUnsolicited_room l m .release [] _ (by simpa using h)) (by simp) (by simp)
        (by simp [HeightsKept]) (by simp) (by simp)
  settled _ := evalHold_settled_of fun _ => rfl

theorem evalHolds_keeps (s : State) : Keeps lic o o s (evalHolds s) := (evalHold_keeps .a s).trans (evalHold_keeps .b _)

/-! ## The exception tray count (R138) -/

/-- The hold conditions read of the tray only whether its count is at the threshold (R44). -/
theorem holdCondition_of_tray_iff (hl : t.lane m = s.lane m)
    (htray : t.trayThreshold ≤ t.tray ↔ s.trayThreshold ≤ s.tray) (hp : t.purge = s.purge) :
    t.holdCondition m = s.holdCondition m := by
  have hpurging : t.purging = s.purging := by rw [State.purging, State.purging, hp]
  rw [State.holdCondition, State.holdCondition, hpurging, hl, decide_eq_decide.mpr htray]

theorem setTray_keepsBut {n : Nat} (h : s.tray ≤ n ∨ lic.empties) : KeepsBut lic o o s (s.setTray n) where
  queues := .of_alike (fun m => by simpa using ⟨rfl, rfl, rfl⟩) (by simp) (by simp)
  stores :=
    { room := by simp
      tables := id
      heights := fun _ => id
      tray := h
      stamp := .inl rfl }

theorem addTray_keeps (n : Nat) (s : State) : Keeps lic o o s (addTray n s) := by
  have h : KeepsBut lic o o s (s.setTray (s.tray + n)) := setTray_keepsBut (.inl (Nat.le_add_right ..))
  have same (hiff : s.trayThreshold ≤ s.tray + n ↔ s.trayThreshold ≤ s.tray) : Keeps lic o o s (s.setTray (s.tray + n)) :=
    ⟨h, fun m hm => hm.congr (by simp) (holdCondition_of_tray_iff (by simp) hiff rfl)⟩
  unfold addTray
  dsimp only
  split
  · rename_i hle
    replace hle : s.trayThreshold ≤ s.tray + n := hle
    split
    · rename_i hle'
      exact (same (by simp [hle, hle'])).trans (raise_keeps ..)
    · exact ⟨(h.trans (raise_keeps ..).toKeepsBut).trans (evalHolds_keeps _).toKeepsBut, fun m _ => evalHolds_settles _ m⟩
  · rename_i hlt
    replace hlt : ¬s.trayThreshold ≤ s.tray + n := hlt
    exact same (by simp only [hlt, false_iff]; omega)

/-! ## Lanes written -/

theorem setLane_stores (l : Lane) (u : LaneUnit) (s : State) : KeepsStores lic s (s.setLane l u) :=
  .of_parts (by simp) (by simp) (by simp) (by simp [HeightsKept]) (by simp) (by simp)

theorem setQueue_lane (l m : Lane) (q : List Entry) (s : State) :
    (setQueue l q s).lane m = if m = l then { s.lane l with queue := q } else s.lane m := by
  simp [setQueue]

theorem retime_lane (l m : Lane) (s : State) :
    (retime l s).lane m
      = if m = l then
          { s.lane l with transit := if (s.lane l).inFault then none else (s.lane l).queue.head?.map Entry.deadline }
        else s.lane m := by
  simp [retime]

/-- The other lane as it was, one lane's queue within that of before, its timer on its head and its FAULT as it was: the laws of
the queues but the one of the waiting keys. -/
theorem KeepsQueues.of_lane (hm : ∀ m, m ≠ l → t.lane m = s.lane m) (hwatch : LaneWatches (s.lane l) → LaneWatches (t.lane l))
    (hsub : ∀ e ∈ (t.lane l).queue, e.verdict = .unplaced → e ∈ (s.lane l).queue)
    (hfault : (s.lane l).inFault = true → (t.lane l).inFault = true ∨ lic.clears l)
    (hlen : (s.lane l).queue.length ≤ Config.queueRoom → (t.lane l).queue.length ≤ Config.queueRoom)
    (hu : t.unplaced = s.unplaced) (hwaits : KeysWaitBut o s → KeysWaitBut o' t) : KeepsQueues lic o o' s t where
  watches m := by
    by_cases h : m = l
    · exact h ▸ hwatch
    · rw [hm m h]
      exact id
  listed h m e he hv := by
    have he' : e ∈ (s.lane m).queue := by
      by_cases hml : m = l
      · subst hml
        exact hsub e he hv
      · exact hm m hml ▸ he
    simpa [State.isUnplaced, hu] using h m e he' hv
  waits := hwaits
  fault m := by
    by_cases h : m = l
    · exact h ▸ hfault
    · rw [hm m h]
      exact .inl
  room m := by
    by_cases h : m = l
    · exact h ▸ hlen
    · rw [hm m h]
      exact id

/-! ## Entry into FAULT (R26, R47) -/

theorem enterFault_lane (l m : Lane) (c : LaneCause) (s : State) :
    (enterFault l c s).lane m
      = if m = l then
          { s.lane l with state := .fault c, transit := none, queue := if s.purging then [] else (s.lane l).queue }
        else s.lane m := by
  unfold enterFault
  dsimp only
  split <;> simp

theorem enterFault_keeps (l : Lane) (c : LaneCause) (s : State) : Keeps lic o o s (enterFault l c s) where
  queues := by
    have e := fun m => enterFault_lane l m c s
    refine .of_lane (l := l) (fun m h => by simp [e, h]) (fun _ => by simp [e, LaneWatches, LaneUnit.inFault]) ?_
      (fun _ => .inl (by simp [e, LaneUnit.inFault])) ?_ (by simp) ?_
    · intro x hx _
      rw [e, if_pos rfl] at hx
      dsimp only at hx
      split at hx
      · cases hx
      · exact hx
    · intro h
      rw [e, if_pos rfl]
      dsimp only
      split
      · exact Nat.zero_le _
      · exact h
    · intro ⟨h1, h2, h3⟩
      refine ⟨by simpa using h1, by simpa using h2, fun u hu ho => ?_⟩
      obtain ⟨m, x, hx, hk⟩ := h3 u (by simpa using hu) ho
      have hidle : s.purging = false := by
        by_contra hp
        have : s.unplaced = [] := h2 fun hidle => hp (by simp [State.purging, hidle])
        simp [this] at hu
      refine ⟨m, x, ?_, hk⟩
      rw [e]
      split
      · rename_i hm
        simpa [hidle, hm] using hx
      · exact hx
  stores := by
    have fault : ∀ u : State, KeepsStores lic u (mapTimers CollectTimer.freeze u) := fun u => (mapTimers_keeps (o := o) _ u).stores
    unfold enterFault
    dsimp only
    split
    · exact (setLane_stores ..).trans ((raise_keeps (o := o) ..).stores.trans ((sendUnsolicited_keeps (o := o) ..).stores.trans (fault _)))
    · exact (setLane_stores ..).trans ((raise_keeps (o := o) ..).stores.trans (fault _))
  settled m h := by
    have e := enterFault_lane l m c s
    by_cases hm : m = l
    · unfold LaneSettled
      rw [e, if_pos hm]
      exact ⟨nofun, nofun⟩
    · rw [if_neg hm] at e
      exact h.congr e (holdCondition_congr (by rw [e]) (by rw [e]) (by simp) (by simp) (by simp))

/-- A jam on a lane in FAULT (R27). -/
theorem setLaneState_fault_keeps (c : LaneCause) (hf : (s.lane l).inFault = true) :
    Keeps lic o o s (setLaneState l (.fault c) s) where
  queues := by
    refine .of_alike (fun m => ?_) (by simp) (by simp)
    by_cases hm : m = l
    · subst hm
      exact ⟨by simp [setLaneState], by simp [setLaneState], by rw [hf]; simp [setLaneState, LaneUnit.inFault]⟩
    · simpa [setLaneState, hm] using ⟨rfl, rfl, rfl⟩
  stores := setLane_stores ..
  settled m h := by
    by_cases hm : m = l
    · unfold LaneSettled
      simp [setLaneState, hm]
    · have e : (setLaneState l (.fault c) s).lane m = s.lane m := by simp [setLaneState, hm]
      exact h.congr e (holdCondition_congr (by rw [e]) (by rw [e]) (by simp) (by simp) (by simp))

/-! ## The allocator (R35, R59) -/

theorem waitsFor_iff (k : Key) (e : Entry) : e.waitsFor k = true ↔ e.key = k ∧ e.verdict = .unplaced := by
  simp [Entry.waitsFor]

theorem laneWaits_iff (s : State) (k : Key) (l : Lane) :
    s.laneWaits k l = true ↔ ∃ e ∈ (s.lane l).queue, e.key = k ∧ e.verdict = .unplaced := by
  simp [State.laneWaits, waitsFor_iff]

theorem given_deadline (k : Key) (n : Fin 24) (e : Entry) : (e.given k n).deadline = e.deadline := by
  unfold Entry.given
  split <;> rfl

theorem given_of_unplaced {k : Key} {n : Fin 24} {e : Entry} (h : (e.given k n).verdict = .unplaced) :
    e.given k n = e ∧ e.key ≠ k := by
  unfold Entry.given at h ⊢
  by_cases hw : e.waitsFor k = true
  · simp [hw] at h
  · rw [if_neg hw] at h ⊢
    exact ⟨rfl, fun hk => hw ((waitsFor_iff k e).mpr ⟨hk, h⟩)⟩

theorem given_of_ne {k : Key} (n : Fin 24) {e : Entry} (h : e.key ≠ k) : e.given k n = e := by
  simp [Entry.given, Entry.waitsFor, h]

/-- What a gift leaves of the lanes: UNPLACED entries of the key become PLACE entries (R35). -/
theorem giveLane_lane (k : Key) (n : Fin 24) (l m : Lane) (s : State) :
    ((giveLane k n l s).lane m).queue
        = (if m = l then (s.lane m).queue.map (Entry.given k n) else (s.lane m).queue)
      ∧ ((giveLane k n l s).lane m).transit = (s.lane m).transit
      ∧ ((giveLane k n l s).lane m).inFault = (s.lane m).inFault := by
  unfold giveLane
  split
  · obtain ⟨hq, ht, hf⟩ := evalHold_alike l m (setQueue l ((s.lane l).queue.map (Entry.given k n)) s)
    rw [hq, ht, hf, setQueue_lane]
    by_cases hm : m = l
    · subst hm
      simp [LaneUnit.inFault]
    · simp [hm]
  · rename_i hw
    refine ⟨?_, rfl, rfl⟩
    split
    · subst m
      refine ((List.map_congr_left fun e he => ?_).trans (List.map_id _)).symm
      by_contra hne
      refine hw ((laneWaits_iff s k _).mpr ⟨e, he, ?_⟩)
      by_contra hk
      exact hne (by rw [Entry.given, if_neg (by rwa [waitsFor_iff]), id])
    · rfl

theorem giveLane_stores (k : Key) (n : Fin 24) (l : Lane) (s : State) : KeepsStores lic s (giveLane k n l s) := by
  unfold giveLane
  split
  · exact (setLane_stores ..).trans (evalHold_keeps (o := none) ..).stores
  · exact (Keeps.refl (o := none) s).stores

theorem giveLane_settled (k : Key) (n : Fin 24) (l : Lane) (h : LaneSettled s m) : LaneSettled (giveLane k n l s) m := by
  unfold giveLane
  split
  · exact evalHold_settled_of (fun hm => by simp [setQueue_lane, hm]) (h := h)
  · exact h

theorem createPacket_keeps (k : Key) (n : Fin 24) {a : Assignment} (j : BitVec 16) {s : State} (ha : s.assignmentOf k.cls = some a) :
    Keeps lic o o s (createPacket k n a j s) := by
  have hp : TablesInRange s → SheetsKept (newPacket k (s.classRec k.cls).generation n a j) := fun ht => by
    refine newPacket_sheetsKept k _ n j ?_
    unfold State.assignmentOf at ha
    split at ha
    · exact ht.2.2.1 _ a ha
    · cases ha
  exact (addPacket_keeps hp).trans ((setSlot_keeps ..).trans ((setRank_keeps ..).trans ((activate_keeps ..).trans
    (orderStep_keeps ..))))

/-- The laws of the queues where each lane's queue is rewritten entry by entry, and the list loses keys. -/
theorem KeepsQueues.of_map {f : Entry → Entry} (hf : ∀ e, (f e).deadline = e.deadline)
    (hlane : ∀ m, (t.lane m).queue = (s.lane m).queue.map f ∧ (t.lane m).transit = (s.lane m).transit
      ∧ (t.lane m).inFault = (s.lane m).inFault)
    (hlisted : ∀ e, (f e).verdict = .unplaced → f e = e ∧ (s.isUnplaced e.key = true → t.isUnplaced e.key = true))
    (hsub : t.unplaced.Sublist s.unplaced) (hp : t.purge = s.purge)
    (hkeep : (s.unplaced.map Waiting.key).Nodup → ∀ u ∈ t.unplaced, ∀ e, e.key = u.key → e.verdict = .unplaced → f e = e) :
    KeepsQueues lic o o s t where
  watches m := by
    obtain ⟨hq, ht, hi⟩ := hlane m
    unfold LaneWatches
    rw [hq, ht, hi]
    cases (s.lane m).queue <;> simp [hf]
  listed h m e he hv := by
    obtain ⟨x, hx, rfl⟩ := List.mem_map.mp ((hlane m).1 ▸ he)
    obtain ⟨e, hkey⟩ := hlisted x hv
    rw [e] at hv ⊢
    exact hkey (h m x hx hv)
  waits h := by
    refine ⟨h.1.sublist (hsub.map _), fun hb => ?_, fun u hu ho => ?_⟩
    · exact List.sublist_nil.mp (h.2.1 (hp ▸ hb) ▸ hsub)
    · obtain ⟨m, e, he, hk, hv⟩ := h.2.2 u (hsub.subset hu) ho
      refine ⟨m, e, (hlane m).1 ▸ List.mem_map.mpr ⟨e, he, hkeep h.1 u hu e hk hv⟩, hk, hv⟩
  fault m h := .inl ((hlane m).2.2 ▸ h)
  room m h := by
    rw [(hlane m).1, List.length_map]
    exact h

theorem allocate_keeps (n : Fin 24) (s : State) : Keeps lic o o s (allocate n s) := by
  unfold allocate
  split
  · exact .refl s
  · rename_i u rest hun
    split
    · rename_i a ha
      have hc := createPacket_keeps (lic := lic) (o := o) u.key n u.jobTag (s := s.setUnplaced rest) (a := a) ha
      refine ⟨⟨?_, ?_⟩, fun m hm => ?_⟩
      · refine .of_map (given_deadline u.key n) (fun m => ?_) (fun e he => ?_) ?_ (by simp) (fun hnd w hw e hk _ => ?_)
        · obtain ⟨hq, ht, hi⟩ := giveLane_lane u.key n .b m (giveLane u.key n .a (createPacket u.key n a u.jobTag (s.setUnplaced rest)))
          obtain ⟨hq', ht', hi'⟩ := giveLane_lane u.key n .a m (createPacket u.key n a u.jobTag (s.setUnplaced rest))
          rw [hq, ht, hi, hq', ht', hi']
          cases m <;> simp
        · obtain ⟨e1, hne⟩ := given_of_unplaced he
          refine ⟨e1, ?_⟩
          simp [State.isUnplaced, hun, hne.symm]
        · simp [hun]
        · refine given_of_ne n (hk ▸ fun hwu => ?_)
          rw [hun] at hnd
          have hw : w ∈ rest := by simpa using hw
          simp only [List.map_cons, List.nodup_cons] at hnd
          exact hnd.1 (hwu ▸ List.mem_map_of_mem hw)
      · exact .trans (.of_parts (t := s.setUnplaced rest) (by simp) (by simp) (by simp) (by simp [HeightsKept]) (by simp) (by simp))
          (hc.stores.trans ((giveLane_stores ..).trans (giveLane_stores ..)))
      · exact giveLane_settled _ _ _ (giveLane_settled _ _ _ (hc.settled m
          (settled_of_lane_eq (t := s.setUnplaced rest) (by simp) (by simp) (by simp) (by simp) m hm)))
    · exact .refl s

/-! ## Slots that free (R58, R70, R73) -/

theorem freeSlot_keeps (n : Fin 24) (s : State) : Keeps lic o o s (freeSlot n s) := by
  unfold freeSlot
  split
  · split
    · exact setSlot_keeps ..
    · exact (setSlot_keeps ..).trans (allocate_keeps ..)
  · exact .refl s
  · exact .refl s

theorem leaveSlot_keeps (k : Key) (s : State) : Keeps lic o o s (leaveSlot k s) := by
  have leave : Keeps lic o o s (updatePacket k (fun p => { p with slot := none }) s) :=
    updatePacket_same_keeps (f := fun p => { p with slot := none }) (fun _ => ⟨rfl, rfl, rfl, rfl, rfl⟩) s
  unfold leaveSlot
  split
  · exact leave.trans (freeSlot_keeps ..)
  · exact .refl s

theorem dropPacket_keeps (k : Key) (n : Fin 24) (s : State) : Keeps lic o o s (dropPacket k n s) :=
  (removePacket_keeps ..).trans ((freeSlot_keeps ..).trans ((setRank_keeps ..).trans (orderStep_keeps ..)))

/-! ## The end of a Purge and of an event (R48, R163) -/

theorem purgeLaneEnd_settled (l : Lane) (h : LaneSettled s m) : LaneSettled (purgeLaneEnd l s) m :=
  evalHold_settled_of (fun hm => by simp [hm]) (h := h)

theorem purgeTest_keeps (s : State) : Keeps lic o o s (purgeTest s) := by
  have lane : ∀ l u, KeepsBut lic o o u (purgeLaneEnd l u) := fun l u => by
    refine ⟨(KeepsQueues.of_alike (t := u.setLane l { u.lane l with expected := none }) (fun m => ?_) (by simp) (by simp)).trans
      (evalHold_keeps ..).queues, (setLane_stores ..).trans (evalHold_keeps (o := o) ..).stores⟩
    by_cases hm : m = l
    · subst hm
      simpa using ⟨rfl, rfl, rfl⟩
    · simpa [hm] using ⟨rfl, rfl, rfl⟩
  have start : KeepsBut lic o o s (s.setPurge .idle) :=
    ⟨.of_alike (fun m => by simpa using ⟨rfl, rfl, rfl⟩) (by simp) (by simp),
      .of_parts (by simp) (by simp) (by simp) (by simp [HeightsKept]) (by simp) (by simp)⟩
  unfold purgeTest
  split
  · exact .refl s
  · split
    · refine Keeps.trans ⟨start.trans ((lane .a _).trans (lane .b _)), fun m _ => ?_⟩ (reply_keeps ..)
      cases m with
      | a => exact purgeLaneEnd_settled .b (evalHold_settles .a _)
      | b => exact evalHold_settles .b _
    · exact .refl s

theorem endEvent_keeps (s0 : State) (x : Occasion) (s : State) : Keeps lic o o s (endEvent s0 x s) := by
  have relief : ∀ (b : Bool) (u : State), Keeps lic o o u (if b then tryRelief u else u) := fun b u => by
    cases b
    · exact .refl u
    · exact tryRelief_keeps u
  have test : ∀ (b : Bool) (u : State), Keeps lic o o u (if b then purgeTest u else u) := fun b u => by
    cases b
    · exact .refl u
    · exact purgeTest_keeps u
  have pass : ∀ (b : Bool) (u : State), Keeps lic o o u (if b then selectionPass u else u) := fun b u => by
    cases b
    · exact .refl u
    · exact selectionPass_keeps u
  exact (relief _ s).trans ((test _ _).trans (pass _ _))

/-- An event keeps the laws when its own effects do. -/
theorem Keeps.endEvent (h : Keeps lic o o' s t) (s0 : State) (x : Occasion) : Keeps lic o o' s (endEvent s0 x t) :=
  h.trans (endEvent_keeps s0 x t)

end
end Sys2Proof.Events

namespace Sys2Proof.Events

open Sys2Proof.Machine Sys2Proof.Safety Sys2Proof.ClassTable Sys2Proof.Requests

/-! # The events of the lanes keep the laws -/

section
variable {lic : Licence} {o o' : Option Key} {s t : State} {l m : Lane}

/-! ## Sheets placed and diverted (R42, R61 to R65) -/

theorem divertSheet_keeps (l : Lane) (r : Reason) (e : Option Entry) (s : State) : Keeps lic o o s (divertSheet l r e s) :=
  (act_keeps ..).trans ((addTray_keeps ..).trans ((sendReport_keeps ..).trans (raise_keeps ..)))

/-- A placed sheet fits the packet's indices and adds at most 400 um (R61 to R63, R96). -/
theorem SheetsKept.withSheet {p q : Packet} (h : SheetsKept p) {i : Nat} (hq : decidePlacement p i = .placed q) {th : Nat}
    (hth : th ≤ 400) (timer : CollectTimer) : SheetsKept (q.withSheet th timer) := by
  obtain ⟨⟨h1, h2, h3, h4, h5⟩, h6⟩ := h
  unfold decidePlacement at hq
  split at hq
  · rename_i hc
    simp only [Bool.and_eq_true, decide_eq_true_eq] at hc
    split at hq
    · cases hq
    · rename_i hr
      cases hq
      simp only [hc.1, hr, if_true, Bool.false_eq_true, if_false] at h4
      refine ⟨⟨h1, h2, h3, ?_, fun _ => hc.1⟩, ?_⟩ <;> simp [Packet.withSheet, hc.1] <;> omega
  · split at hq
    · cases hq
    · rename_i hle
      have body : ∀ f : PacketFlags, p.nextBody ≤ i →
          SheetsKept (({ p with nextBody := i + 1, flags := f } : Packet).withSheet th timer) := fun f hi => by
        have held : p.sheetsHeld + 1 + (if p.snapshot.cover then 2 else 1) ≤ i + 1 + (if p.coverReceived then 1 else 0) := by
          omega
        refine ⟨⟨h1, h2, ?_, held, h5⟩, ?_⟩ <;> simp only [Packet.withSheet] <;> omega
      split at hq
      · rename_i hi
        cases hq
        exact body _ hi.ge
      · split at hq
        · cases hq
        · cases hq
          exact body _ (by omega)

theorem settlePlaced_keeps {p : Packet} (hp : TablesInRange s → HeightsKept s → SheetsKept p) :
    Keeps lic o o s (settlePlaced p s) := by
  have put : ∀ q : Packet, SameSheets p q → Keeps lic o o s (updatePacket p.key (fun _ => q) s) := fun q hq =>
    updatePacket_keeps fun ht hh _ _ => (hp ht hh).of_same hq
  unfold settlePlaced
  split
  · dsimp only
    split
    · exact (put { p with timer := .stopped } ⟨rfl, rfl, rfl, rfl, rfl⟩).trans (queueForTray_keeps ..)
    · exact (put { p with timer := .stopped } ⟨rfl, rfl, rfl, rfl, rfl⟩).trans (handCompleted_keeps ..)
  · exact put p ⟨rfl, rfl, rfl, rfl, rfl⟩

theorem thickness_le (h : TablesInRange s) (code : Nat) : (s.thickness code).getD 0 ≤ 400 := by
  cases ht : s.thickness code with
  | none => exact Nat.zero_le _
  | some th =>
    unfold State.thickness at ht
    split at ht
    · exact (h.2.1 _ th ht).2
    · cases ht

theorem placeSheet_keeps (l : Lane) (e : Entry) (n : Fin 24) {p : Packet} (hp : p ∈ s.packets) :
    Keeps lic o o s (placeSheet l e n p s) := by
  unfold placeSheet
  split
  · rename_i q hq
    exact (act_keeps ..).trans (settlePlaced_keeps fun ht hh => SheetsKept.withSheet (hh p (by simpa using hp)) hq
      (thickness_le ht e.media.toNat) _)
  · dsimp only
    split
    · exact (divertSheet_keeps ..).trans (dropPacket_keeps ..)
    · exact divertSheet_keeps ..

theorem mem_of_packetIn {n : Fin 24} {p : Packet} (h : s.packetIn n = some p) : p ∈ s.packets := by
  unfold State.packetIn at h
  split at h
  · exact (mem_of_packet h).1
  · cases h
  · cases h

theorem arrivePlaced_keeps (l : Lane) (e : Entry) (n : Fin 24) (s : State) : Keeps lic o o s (arrivePlaced l e n s) := by
  unfold arrivePlaced
  split
  · exact divertSheet_keeps ..
  · rename_i p hp
    split
    · split
      · exact placeSheet_keeps l e n (mem_of_packetIn hp)
      all_goals exact divertSheet_keeps ..
    · exact divertSheet_keeps ..

/-! ## Entries that leave a queue (R38, R40, R46) -/

/-- The key an entry waits for. -/
def waitingKey (e : Entry) : Option Key := if e.verdict = .unplaced then some e.key else none

/-- The keys that wait once the head of a queue has left it. -/
theorem KeysWaitBut.of_tail {e : Entry} {rest : List Entry} (hq : (s.lane l).queue = e :: rest)
    (hm : ∀ m, m ≠ l → (t.lane m).queue = (s.lane m).queue) (hl : (t.lane l).queue = rest) (hu : t.unplaced = s.unplaced)
    (hp : t.purge = s.purge) (h : KeysWaitBut none s) : KeysWaitBut (waitingKey e) t := by
  refine ⟨hu ▸ h.1, fun hb => hu ▸ h.2.1 (hp ▸ hb), fun u huu ho => ?_⟩
  obtain ⟨m, x, hx, hk, hv⟩ := h.2.2 u (hu ▸ huu) nofun
  refine ⟨m, x, ?_, hk, hv⟩
  by_cases hml : m = l
  · subst hml
    rw [hl]
    rcases List.mem_cons.mp (hq ▸ hx) with rfl | hx
    · exact absurd (by rw [waitingKey, if_pos hv, hk]) ho
    · exact hx
  · exact hm m hml ▸ hx

/-- A popped entry (R36, R38). -/
theorem pop_keeps {e : Entry} {rest : List Entry} (hq : (s.lane l).queue = e :: rest) :
    Keeps lic none (waitingKey e) s (evalHold l (retime l (setQueue l rest s))) where
  queues := by
    refine KeepsQueues.trans ?_ (evalHold_keeps l _).queues
    have hl : ∀ m, m ≠ l → (retime l (setQueue l rest s)).lane m = s.lane m := fun m h => by simp [retime_lane, setQueue_lane, h]
    refine .of_lane hl (fun _ => ?_) (fun x hx _ => ?_) (fun h => .inl ?_) (fun h => ?_) (by simp)
      (.of_tail hq (fun m h => by rw [hl m h]) (by simp [retime_lane, setQueue_lane]) (by simp) (by simp))
    · simp [LaneWatches, retime_lane, setQueue_lane, LaneUnit.inFault]
    · rw [hq]
      exact List.mem_cons_of_mem _ (by simpa [retime_lane, setQueue_lane] using hx)
    · simpa [retime_lane, setQueue_lane, LaneUnit.inFault] using h
    · simp only [hq, List.length_cons] at h
      simp only [retime_lane, setQueue_lane, if_true]
      omega
  stores := (setLane_stores ..).trans ((setLane_stores ..).trans (evalHold_keeps (o := none) ..).stores)
  settled m h := evalHold_settled_of (fun hm => by simp [retime_lane, setQueue_lane, hm]) (h := h)

/-- An entry discarded from the queue of a lane in FAULT (R45). -/
theorem discard_keeps {e : Entry} {rest : List Entry} (hq : (s.lane l).queue = e :: rest) (hf : (s.lane l).inFault = true) :
    Keeps lic none (waitingKey e) s (setQueue l rest s) where
  queues := by
    have hl : ∀ m, m ≠ l → (setQueue l rest s).lane m = s.lane m := fun m h => by simp [setQueue_lane, h]
    have hfault : ((setQueue l rest s).lane l).inFault = true := by simpa [setQueue_lane, LaneUnit.inFault] using hf
    refine .of_lane hl (fun h => ?_) (fun x hx _ => ?_) (fun _ => .inl hfault) (fun h => ?_) (by simp)
      (.of_tail hq (fun m h => by rw [hl m h]) (by simp [setQueue_lane]) (by simp) (by simp))
    · unfold LaneWatches at h ⊢
      rw [hfault]
      simpa [setQueue_lane, hf] using h
    · rw [hq]
      exact List.mem_cons_of_mem _ (by simpa [setQueue_lane] using hx)
    · simp only [hq, List.length_cons] at h
      simp only [setQueue_lane, if_true]
      omega
  stores := setLane_stores ..
  settled m h := by
    by_cases hm : m = l
    · have : (s.lane l).state ≠ .running ∧ (s.lane l).state ≠ .held := by
        constructor <;> intro e <;> simp [LaneUnit.inFault, e] at hf
      simp [LaneSettled, setQueue_lane, hm, this]
    · have e : (setQueue l rest s).lane m = s.lane m := by simp [setQueue_lane, hm]
      exact h.congr e (holdCondition_congr (by rw [e]) (by rw [e]) (by simp) (by simp) (by simp))

/-- A key whose entry has gone leaves the list where no other entry waits for it (R40, R46). -/
theorem giveUp_keeps (k : Key) (s : State) :
    Keeps lic (some k) none s (if s.laneWaits k .a || s.laneWaits k .b then s else leaveUnplaced k s) := by
  split
  · rename_i hw
    have h : Keeps lic (some k) (some k) s s := .refl s
    refine ⟨⟨{ h.queues with waits := fun hs => ⟨hs.1, hs.2.1, fun u hu _ => ?_⟩ }, h.stores⟩, h.settled⟩
    by_cases hk : some k = some u.key
    · have hw : ∃ l, s.laneWaits u.key l = true := by
        rw [← Option.some.inj hk]
        exact ((Bool.or_eq_true _ _).mp hw).elim (⟨.a, ·⟩) (⟨.b, ·⟩)
      exact hw.imp fun l hl => (laneWaits_iff s u.key l).mp hl
    · exact hs.2.2 u hu hk
  · rename_i hw
    have hw : ∀ l, s.laneWaits k l = false := fun l => by
      simp only [Bool.or_eq_true, not_or, Bool.not_eq_true] at hw
      cases l
      · exact hw.1
      · exact hw.2
    have same : ∀ l, (leaveUnplaced k s).lane l = s.lane l := fun l => by simp
    have hmem : ∀ u, u ∈ (leaveUnplaced k s).unplaced ↔ u ∈ s.unplaced ∧ u.key ≠ k := by simp [leaveUnplaced]
    refine ⟨⟨?_, ?_⟩, settled_of_lane_eq same (by simp) (by simp) (by simp)⟩
    · refine ⟨fun l => by rw [same]; exact id, fun h l e he hv => ?_, fun h => ⟨?_, fun hb => ?_, fun u hu _ => ?_⟩,
        fun l => by rw [same]; exact .inl, fun l => by rw [same]; exact id⟩
      · rw [same] at he
        obtain ⟨u, hu, hk⟩ := List.any_eq_true.mp (h l e he hv)
        have hk : u.key = e.key := by simpa using hk
        refine List.any_eq_true.mpr ⟨u, (hmem u).mpr ⟨hu, fun huk => ?_⟩, by simpa using hk⟩
        have := (laneWaits_iff s k l).mpr ⟨e, he, hk ▸ huk, hv⟩
        simp [hw] at this
      · exact h.1.sublist ((List.filter_sublist).map _)
      · simp [leaveUnplaced, h.2.1 (by simpa using hb)]
      · obtain ⟨hu, hne⟩ := (hmem u).mp hu
        obtain ⟨l, e, he, hk⟩ := h.2.2 u hu (fun e => hne (Option.some.inj e).symm)
        exact ⟨l, e, by rwa [same], hk⟩
    · exact .of_parts (by simp) (by simp) (by simp) (by simp [HeightsKept]) (by simp) (by simp)

theorem arrive_keeps (l : Lane) (e : Entry) (s : State) : Keeps lic (waitingKey e) none s (arrive l e s) := by
  cases hv : e.verdict with
  | divert r =>
    simp only [arrive, waitingKey, hv, reduceCtorEq, if_false]
    exact divertSheet_keeps ..
  | unplaced =>
    simp only [arrive, waitingKey, hv, if_true]
    exact (divertSheet_keeps ..).trans (giveUp_keeps ..)
  | place n =>
    simp only [arrive, waitingKey, hv, reduceCtorEq, if_false]
    exact arrivePlaced_keeps ..

theorem arriveHead_keeps {e : Entry} {rest : List Entry} (hq : (s.lane l).queue = e :: rest) :
    Keeps lic none none s (arriveHead l e rest s) := by
  have h : Keeps lic none none s _ := (pop_keeps hq).trans (arrive_keeps l e _)
  unfold arriveHead
  dsimp only
  split
  · exact h.trans (enterFault_keeps ..)
  · exact h

end
end Sys2Proof.Events

namespace Sys2Proof.Events

open Sys2Proof.Machine Sys2Proof.Safety Sys2Proof.ClassTable Sys2Proof.Requests

section
variable {lic : Licence} {o o' : Option Key} {s t : State} {l m : Lane}

/-! ## Announcements (R29 to R34) -/

theorem isUnplaced_iff (s : State) (k : Key) : s.isUnplaced k = true ↔ k ∈ s.unplaced.map Waiting.key := by
  simp [State.isUnplaced]

/-- A key joins the unplaced list (R56); its entry is still to come. -/
theorem join_keeps {w : Waiting} (hp : s.purge = .idle) (hw : s.isUnplaced w.key = false) :
    Keeps lic none (some w.key) s (s.setUnplaced (s.unplaced ++ [w])) where
  queues := by
    refine ⟨fun l => by simp, fun h l e he hv => ?_, fun h => ⟨?_, fun hb => absurd hp (by simpa using hb), fun u hu ho => ?_⟩,
      fun l => by simpa using .inl, fun l => by simp⟩
    · have := h l e (by simpa using he) hv
      rw [isUnplaced_iff] at this ⊢
      simp only [State.setUnplaced_unplaced, List.map_append, List.mem_append]
      exact .inl this
    · simp only [State.setUnplaced_unplaced, List.map_append, List.map_cons, List.map_nil]
      refine List.nodup_append.mpr ⟨h.1, by simp, fun a ha b hb => ?_⟩
      rintro rfl
      rw [List.mem_singleton.mp hb, ← isUnplaced_iff, hw] at ha
      cases ha
    · simp only [State.setUnplaced_unplaced, List.mem_append, List.mem_singleton] at hu
      rcases hu with hu | rfl
      · simpa using h.2.2 u hu nofun
      · exact absurd rfl ho
  stores := .of_parts (by simp) (by simp) (by simp) (by simp [HeightsKept]) (by simp) (by simp)
  settled := settled_of_lane_eq (by simp) (by simp) (by simp) (by simp)

/-- What a verdict sets up keeps the laws; an UNPLACED one finds or puts its key in the list, and the entry is still to come. -/
def SetsUp (lic : Licence) (x : Announcement) (s : State) (v : Verdict × State) : Prop :=
  ∃ o, Keeps lic none o s v.2 ∧ (o = none ∨ (o = some x.key ∧ v.1 = .unplaced))
    ∧ (v.1 = .unplaced → v.2.isUnplaced x.key = true)

theorem SetsUp.of_divert (x : Announcement) (r : Reason) (s : State) : SetsUp lic x s (.divert r, s) :=
  ⟨none, .refl s, .inl rfl, nofun⟩

theorem waitingVerdict_setsUp (x : Announcement) (hp : s.purge = .idle) : SetsUp lic x s (waitingVerdict x s) := by
  unfold waitingVerdict
  split
  · exact .of_divert ..
  · rename_i a ha
    split
    · exact .of_divert ..
    · split
      · rename_i hw
        exact ⟨none, .refl s, .inl rfl, fun _ => hw⟩
      · rename_i hw
        split
        · exact ⟨none, createPacket_keeps _ _ _ ha, .inl rfl, nofun⟩
        · refine ⟨some x.key, (join_keeps (w := { key := x.key, jobTag := x.jobTag }) hp (by simpa using hw)).trans
            (activate_keeps ..), .inr ⟨rfl, rfl⟩, fun _ => ?_⟩
          simp [State.isUnplaced]

theorem purging_eq_false_iff (s : State) : s.purging = false ↔ s.purge = .idle := by
  unfold State.purging
  split <;> simp_all

theorem verdictOf_setsUp (x : Announcement) (s : State) : SetsUp lic x s (verdictOf x s) := by
  unfold verdictOf
  split
  · exact .of_divert ..
  · rename_i hid
    have hp : s.purge = .idle := by
      rw [← purging_eq_false_iff]
      by_contra hb
      simp [identityReason, eq_true_of_ne_false hb] at hid
    split
    case h_7 =>
      refine ⟨none, .refl s, .inl rfl, fun hv => ?_⟩
      unfold openVerdict at hv
      split at hv
      · cases hv
      · split at hv <;> cases hv
    case h_8 => exact waitingVerdict_setsUp x hp
    all_goals exact .of_divert ..

/-- The entry of an announcement stands at the end of its queue (R29, R30, R36, R44). -/
theorem appendEntry_keeps {x : Announcement} {v : Verdict} (hroom : (s.lane l).queue.length < Config.queueRoom)
    (ho : o = none ∨ (o = some x.key ∧ v = .unplaced)) (hv : v = .unplaced → s.isUnplaced x.key = true) :
    Keeps lic o none s (appendEntry l x v s) := by
  unfold appendEntry
  dsimp only
  refine ⟨⟨KeepsQueues.trans (o' := none) ?_ (evalHold_keeps l _).queues, ?_⟩, fun m h => ?_⟩
  · generalize hn : x.entry v ((s.lane l).counter + 1#32) s.newDeadline = n
    have hkey : n.key = x.key := by rw [← hn]; rfl
    have hver : n.verdict = v := by rw [← hn]; rfl
    refine ⟨fun m h => ?_, fun h m e he hu => ?_, fun h => ⟨by simpa using h.1, by simpa using h.2.1, fun u hu _ => ?_⟩,
      fun m h => .inl ?_, fun m h => ?_⟩
    · by_cases hm : m = l
      · simp [LaneWatches, retime_lane, hm, LaneUnit.inFault]
      · simpa [retime_lane, hm] using h
    · by_cases hm : m = l
      · simp only [retime_lane, hm, if_true, State.setLane_lane_ite, List.mem_append, List.mem_singleton] at he
        rcases he with he | rfl
        · simpa [State.isUnplaced] using h l e he hu
        · simpa [State.isUnplaced, hkey] using hv (hver ▸ hu)
      · simpa [State.isUnplaced] using h m e (by simpa [retime_lane, hm] using he) hu
    · by_cases hk : o = some u.key
      · rcases ho with ho | ⟨ho, hvu⟩
        · simp [ho] at hk
        · refine ⟨l, n, by simp [retime_lane], ?_, hver.trans hvu⟩
          rw [hkey]
          simpa [ho] using hk
      · obtain ⟨m, e, he, hke⟩ := h.2.2 u (by simpa using hu) hk
        refine ⟨m, e, ?_, hke⟩
        by_cases hm : m = l
        · subst hm
          simp [retime_lane, he]
        · simpa [retime_lane, hm] using he
    · by_cases hm : m = l
      · simpa [retime_lane, hm, LaneUnit.inFault] using h
      · simpa [retime_lane, hm] using h
    · by_cases hm : m = l
      · simpa [retime_lane, hm] using hroom
      · simpa [retime_lane, hm] using h
  · exact (setLane_stores ..).trans ((setLane_stores ..).trans (evalHold_keeps (o := none) ..).stores)
  · exact evalHold_settled_of (fun hm => by simp [retime_lane, hm]) (h := h)

@[simp] theorem waitingVerdict_frame (x : Announcement) (s : State) :
    (waitingVerdict x s).2.now = s.now ∧ (waitingVerdict x s).2.stamp = s.stamp ∧ (waitingVerdict x s).2.tables = s.tables
      ∧ (waitingVerdict x s).2.settings = s.settings ∧ (waitingVerdict x s).2.pending = s.pending
      ∧ (waitingVerdict x s).2.actions = s.actions ∧ (waitingVerdict x s).2.bins = s.bins
      ∧ (waitingVerdict x s).2.fin = s.fin ∧ (waitingVerdict x s).2.tray = s.tray
      ∧ (waitingVerdict x s).2.purge = s.purge ∧ (∀ m, (waitingVerdict x s).2.lane m = s.lane m) := by
  unfold waitingVerdict
  (repeat' split) <;> simp

@[simp] theorem verdictOf_frame (x : Announcement) (s : State) :
    (verdictOf x s).2.now = s.now ∧ (verdictOf x s).2.stamp = s.stamp ∧ (verdictOf x s).2.tables = s.tables
      ∧ (verdictOf x s).2.settings = s.settings ∧ (verdictOf x s).2.pending = s.pending
      ∧ (verdictOf x s).2.actions = s.actions ∧ (verdictOf x s).2.bins = s.bins ∧ (verdictOf x s).2.fin = s.fin
      ∧ (verdictOf x s).2.tray = s.tray ∧ (verdictOf x s).2.purge = s.purge
      ∧ (∀ m, (verdictOf x s).2.lane m = s.lane m) := by
  unfold verdictOf
  split
  · simp
  · split <;> simp

theorem takeAnnouncement_keeps {x : Announcement} (hroom : (s.lane l).queue.length < Config.queueRoom) :
    Keeps lic none none s (takeAnnouncement l x s) := by
  obtain ⟨o, hset, ho, hlisted⟩ := verdictOf_setsUp (lic := lic) x s
  unfold takeAnnouncement
  refine Keeps.endEvent ?_ _ _
  split
  · rename_i hv
    refine hset.trans ((raise_keeps .slotsExhausted _).trans (appendEntry_keeps (by simpa using hroom) ho fun _ => ?_))
    simpa [State.isUnplaced] using hlisted hv
  · exact hset.trans (appendEntry_keeps (by simpa using hroom) ho hlisted)

theorem onSheetAnnounce_keeps (l : Lane) (body : List Byte) (s : State) :
    Keeps lic none none s (onSheetAnnounce l body s) := by
  unfold onSheetAnnounce
  split
  · exact raise_keeps ..
  · split
    · exact .refl s
    · split
      · exact (enterFault_keeps ..).endEvent _ _
      · split
        · exact (enterFault_keeps ..).endEvent _ _
        · rename_i hroom
          exact takeAnnouncement_keeps (Nat.lt_of_not_le hroom)

/-! ## Arrivals, jams, expiries -/

/-- An arrival keeps the laws once the stamp has counted it (R28). -/
theorem onLaneEntry_keeps (l : Lane) (s : State) : Keeps lic none none (s.setStamp (s.stamp + 1#32)) (onLaneEntry l s) := by
  unfold onLaneEntry
  dsimp only
  split
  · exact divertSheet_keeps ..
  · split
    · exact divertSheet_keeps ..
    · rename_i hq
      exact (arriveHead_keeps hq).endEvent _ _

theorem onLaneJam_keeps (l : Lane) (s : State) : Keeps lic o o s (onLaneJam l s) := by
  unfold onLaneJam
  split
  · rename_i hf
    exact (setLaneState_fault_keeps _ hf).trans (raise_keeps ..)
  · exact (enterFault_keeps ..).endEvent _ _

theorem onTransitExpiry_keeps (l : Lane) (s : State) : Keeps lic o o s (onTransitExpiry l s) := by
  unfold onTransitExpiry
  split
  · exact (enterFault_keeps ..).endEvent _ _
  · exact .refl s

/-! ## Lane Clear (R45, R46) -/

theorem discardEffect_keeps (l : Lane) (e : Entry) (s : State) : Keeps lic (waitingKey e) none s (discardEffect l e s) := by
  cases hv : e.verdict with
  | divert r =>
    simp only [discardEffect, waitingKey, hv, reduceCtorEq, if_false]
    exact .refl s
  | unplaced =>
    simp only [discardEffect, waitingKey, hv, if_true]
    exact giveUp_keeps ..
  | place n =>
    simp only [discardEffect, waitingKey, hv, reduceCtorEq, if_false]
    split
    · split
      · exact dropPacket_keeps ..
      · exact .refl s
    · exact .refl s

/-- A lane whose UNPLACED entries may have been given slots: as many entries, the same counter and expected sequence. -/
structure LaneGiven (u v : LaneUnit) : Prop where
  length : v.queue.length = u.queue.length
  counter : v.counter = u.counter
  expected : v.expected = u.expected

theorem LaneGiven.trans {u v w : LaneUnit} (h : LaneGiven u v) (h' : LaneGiven v w) : LaneGiven u w :=
  ⟨h'.length.trans h.length, h'.counter.trans h.counter, h'.expected.trans h.expected⟩

theorem LaneGiven.of_eq {u v : LaneUnit} (h : v = u) : LaneGiven u v := h ▸ ⟨rfl, rfl, rfl⟩

theorem giveLane_given (k : Key) (n : Fin 24) (l m : Lane) (s : State) :
    LaneGiven (s.lane m) ((giveLane k n l s).lane m) := by
  refine ⟨?_, ?_, ?_⟩
  · rw [(giveLane_lane k n l m s).1]
    split <;> simp
  all_goals
    unfold giveLane
    split
    · obtain ⟨x, e, -⟩ := evalHold_lane l m (setQueue l ((s.lane l).queue.map (Entry.given k n)) s)
      by_cases hm : m = l
      · subst hm
        simp [e, setQueue_lane]
      · simp [e, setQueue_lane, hm]
    · rfl

theorem allocate_given (n : Fin 24) (s : State) (m : Lane) : LaneGiven (s.lane m) ((allocate n s).lane m) := by
  unfold allocate
  split
  · exact .of_eq rfl
  · split
    · exact .trans (.of_eq (by simp)) ((giveLane_given _ _ .a m _).trans (giveLane_given _ _ .b m _))
    · exact .of_eq rfl

theorem freeSlot_given (n : Fin 24) (s : State) (m : Lane) : LaneGiven (s.lane m) ((freeSlot n s).lane m) := by
  unfold freeSlot
  split
  · split
    · exact .of_eq (by simp)
    · exact .trans (.of_eq (by simp)) (allocate_given n _ m)
  · exact .of_eq rfl
  · exact .of_eq rfl

theorem dropPacket_given (k : Key) (n : Fin 24) (s : State) (m : Lane) :
    LaneGiven (s.lane m) ((dropPacket k n s).lane m) :=
  .trans (.of_eq (v := (removePacket k s).lane m) (by simp)) ((freeSlot_given n _ m).trans (.of_eq (by simp [dropPacket])))

theorem discardEffect_given (l : Lane) (e : Entry) (s : State) (m : Lane) :
    LaneGiven (s.lane m) ((discardEffect l e s).lane m) := by
  unfold discardEffect
  split
  · exact .of_eq rfl
  · split <;> exact .of_eq (by simp)
  · split
    · split
      · exact dropPacket_given ..
      · exact .of_eq rfl
    · exact .of_eq rfl

/-- The entries of a lane in FAULT discarded: the laws are kept, the lane stays in FAULT with its counter, and with fuel for all of
them no entry is left (R45, step 1). -/
theorem discardEntries_keeps (l : Lane) (fuel : Nat) (s : State) (hf : (s.lane l).inFault = true) :
    Keeps lic none none s (discardEntries l fuel s) ∧ ((discardEntries l fuel s).lane l).inFault = true
      ∧ ((discardEntries l fuel s).lane l).counter = (s.lane l).counter
      ∧ ((s.lane l).queue.length ≤ fuel → ((discardEntries l fuel s).lane l).queue = []) := by
  induction fuel generalizing s with
  | zero => exact ⟨.refl s, hf, rfl, fun h => List.length_eq_zero_iff.mp (Nat.le_zero.mp h)⟩
  | succ fuel ih =>
    unfold discardEntries
    split
    · rename_i hq
      exact ⟨.refl s, hf, rfl, fun _ => hq⟩
    · rename_i e rest hq
      have hf1 : ((setQueue l rest s).lane l).inFault = true := by simpa [setQueue_lane, LaneUnit.inFault] using hf
      have hf2 := (discardEffect_keeps (lic := .none) l e (setQueue l rest s)).queues.fault l hf1
      obtain ⟨h1, h2, h3, h4⟩ := ih _ (hf2.resolve_right not_false)
      have hg := discardEffect_given l e (setQueue l rest s) l
      refine ⟨((discard_keeps hq hf).trans (discardEffect_keeps ..)).trans h1, h2, ?_, fun hlen => h4 ?_⟩
      · rw [h3, hg.counter]
        simp [setQueue_lane]
      · rw [hg.length]
        simpa [setQueue_lane, hq] using hlen

theorem thawTimers_keeps (s : State) : Keeps lic o o s (thawTimers s) := by
  unfold thawTimers
  split
  · exact .refl s
  · exact mapTimers_keeps ..

/-- A cleared lane leaves FAULT (R45); only a command with the licence for it does so. -/
theorem clearLane_keeps (hl : lic.clears l) (hf : (s.lane l).inFault = true) : Keeps lic none none s (clearLane l s) := by
  obtain ⟨hd, -, -, hq⟩ := discardEntries_keeps (lic := lic) l (s.lane l).queue.length s hf
  replace hq := hq le_rfl
  unfold clearLane
  dsimp only
  generalize discardEntries l (s.lane l).queue.length s = d at hd hq
  have hm : ∀ u m, m ≠ l → (d.setLane l u).lane m = d.lane m := fun u m h => by simp [h]
  have clear : KeepsBut lic none none d (d.setLane l { d.lane l with state := .held, queue := [], expected := none, transit := none }) :=
    ⟨.of_lane (hm _) (fun _ => by simp [LaneWatches]) (by simp) (fun _ => .inr hl) (fun _ => by simp) (by simp)
      (fun ⟨h1, h2, h3⟩ => ⟨by simpa using h1, by simpa using h2, fun u hu ho => by
        obtain ⟨m, e, he, hk⟩ := h3 u (by simpa using hu) ho
        refine ⟨m, e, ?_, hk⟩
        by_cases h : m = l
        · simp [h, hq] at he
        · simpa [h] using he⟩), setLane_stores ..⟩
  refine ⟨(hd.toKeepsBut.trans clear).trans ((thawTimers_keeps _).toKeepsBut.trans (evalHold_keeps ..).toKeepsBut), fun m h => ?_⟩
  exact evalHold_settled_of (fun h => by simp [h]) (h := hd.settled m h)

end
end Sys2Proof.Events

namespace Sys2Proof.Events

open Sys2Proof.Machine Sys2Proof.Safety Sys2Proof.ClassTable Sys2Proof.Requests

/-! # The other events keep the laws -/

section
variable {lic : Licence} {o o' : Option Key} {s t : State} {l m : Lane}

/-- A request that its length turns away is only answered (R143). -/
theorem withLength_keeps {k : DownKind} {tag : Byte} {body : List Byte} {f : State → State} (h : Keeps lic o o s (f s)) :
    Keeps lic o o s (withLength k l tag body f s) := by
  unfold withLength
  split
  · exact h
  · exact reply_keeps ..

theorem onLaneClear_keeps (link : Lane) (tag : Byte) (body : List Byte) (s : State)
    (hl : ∀ l, body = [laneCode l] → lic.clears l) : Keeps lic none none s (onLaneClear link tag body s) := by
  unfold onLaneClear withLength
  split
  · rename_i hlen
    split
    · exact reply_keeps ..
    · rename_i l hcode
      dsimp only
      split
      · rename_i hf
        have hbody : body = [laneCode l] := by
          obtain ⟨b, rfl⟩ := List.length_eq_one_iff.mp hlen
          have hb : laneOfCode b.toNat = some l := hcode
          have : b.toNat < 2 := by
            by_contra hge
            rw [laneOfCode_of_ge (by omega)] at hb
            cases hb
          rw [laneOfCode_of_le (by omega)] at hb
          have hb := Option.some.inj hb
          refine congrArg (· :: []) (BitVec.eq_of_toNat_eq ?_)
          split at hb <;> subst hb <;> simp [laneCode] <;> omega
        exact ((clearLane_keeps (hl l hbody) hf).trans (reply_keeps ..)).endEvent _ _
      · exact reply_keeps ..
  · exact reply_keeps ..

/-! ## Bins and the exception tray -/

theorem onLoadBin_keeps (link : Lane) (tag : Byte) (body : List Byte) (s : State) :
    Keeps lic o o s (onLoadBin link tag body s) := by
  apply withLength_keeps
  split
  · exact reply_keeps ..
  · dsimp only
    split
    · exact reply_keeps ..
    · exact ((setBin_keeps ..).trans (reply_keeps ..)).endEvent _ _

theorem onBinReplaced_keeps (b : Fin 17) (s : State) : Keeps lic o o s (onBinReplaced b s) := (setBin_keeps ..).endEvent _ _

theorem onTrayEmptied_keeps (he : lic.empties) (s : State) : Keeps lic o o s (onTrayEmptied s) := by
  have h : KeepsBut lic o o s (s.setTray 0) := setTray_keepsBut (.inr he)
  unfold onTrayEmptied
  refine Keeps.endEvent ?_ _ _
  split
  · exact ⟨h.trans (evalHolds_keeps _).toKeepsBut, fun m _ => evalHolds_settles _ m⟩
  · rename_i hlt
    have hiff : s.trayThreshold ≤ 0 ↔ s.trayThreshold ≤ s.tray := by omega
    exact ⟨h, fun m hm => hm.congr (by simp) (holdCondition_of_tray_iff (by simp) hiff rfl)⟩

/-! ## The Finishing Unit -/

theorem onTransferDone_keeps (s : State) : Keeps lic o o s (onTransferDone s) := by
  unfold onTransferDone
  split
  · exact ((leaveSlot_keeps ..).trans (enterJog_keeps _)).endEvent _ _
  · exact .refl s

theorem onJogDone_keeps (s : State) : Keeps lic o o s (onJogDone s) := by
  unfold onJogDone
  split
  · split
    · exact fireStaple_keeps ..
    · exact enterEject_keeps ..
  · exact .refl s

theorem onStapleDone_keeps (s : State) : Keeps lic o o s (onStapleDone s) := by
  have fired : Keeps lic o o s (setSupply (s.fin.supply - 1) s) := setFin_keeps (Nat.sub_le ..)
  unfold onStapleDone
  split
  · dsimp only
    split
    · exact fired.trans ((setCurrent_keeps ..).trans (enterEject_keeps ..))
    · exact fired.trans ((setCurrent_keeps ..).trans (fireStaple_keeps ..))
  · exact .refl s

theorem commit_keeps (c : Current) (p : Packet) (s : State) : Keeps lic o o s (commit c p s) := by
  unfold commit
  split
  · exact setBin_keeps ..
  · exact addTray_keeps ..

theorem onEjectDone_keeps (s : State) : Keeps lic o o s (onEjectDone s) := by
  unfold onEjectDone
  split
  · split
    · have stop : Keeps lic o o s (stopStageTimer s) := setFin_keeps (le_refl _)
      have flip : ∀ c p u, Keeps lic o o u (flipJogSide c p u) := fun c p u => .of_same
      exact (stop.trans ((commit_keeps ..).trans ((flip ..).trans ((sendReport_keeps ..).trans ((endRank_keeps ..).trans
        ((removePacket_keeps ..).trans ((setCurrent_keeps ..).trans ((orderStep_keeps ..).trans (freeUnit_keeps ..))))))))).endEvent _ _
    · exact .refl s
  · exact .refl s

theorem enterUnitFault_keeps (c : UnitCause) (s : State) : Keeps lic o o s (enterUnitFault c s) :=
  (setFin_keeps (f := { s.fin with unit := .fault c s.fin.unit.marksSuspend, timer := none }) (le_refl _)).trans (raise_keeps ..)

theorem onMisfire_keeps (s : State) : Keeps lic o o s (onMisfire s) := by
  unfold onMisfire
  split
  · exact enterUnitFault_keeps ..
  · exact .refl s

theorem onStageLimit_keeps (s : State) : Keeps lic o o s (onStageLimit s) := by
  unfold onStageLimit
  split
  · exact enterUnitFault_keeps ..
  · exact .refl s

theorem removeCurrent_keeps (mark : Bool) (c : Current) (p : Packet) (s : State) :
    Keeps lic o o s (removeCurrent mark c p s) :=
  (updateFlags_keeps ..).trans ((unreserve_keeps ..).trans ((leaveSlot_keeps ..).trans ((sendReport_keeps ..).trans
    ((endRank_keeps ..).trans ((removePacket_keeps ..).trans ((setCurrent_keeps ..).trans ((orderStep_keeps ..).trans
      (freeUnit_keeps ..))))))))

theorem retryPacket_keeps (mark : Bool) (c : Current) (s : State) : Keeps lic o o s (retryPacket mark c s) := by
  have retry : ∀ g, Keeps lic o o s (retryUnit mark g s) := fun g => setFin_keeps (le_refl _)
  unfold retryPacket
  split
  · exact (retry _).trans (enterTransfer_keeps ..)
  · exact (retry _).trans (enterJog_keeps _)

theorem onFinisherClear_keeps (link : Lane) (tag : Byte) (body : List Byte) (s : State) :
    Keeps lic o o s (onFinisherClear link tag body s) := by
  apply withLength_keeps
  dsimp only
  split
  · exact reply_keeps ..
  · split
    · exact ((freeUnit_keeps ..).trans (reply_keeps ..)).endEvent _ _
    · split
      · exact (retryPacket_keeps ..).trans (reply_keeps ..)
      · exact ((removeCurrent_keeps ..).trans (reply_keeps ..)).endEvent _ _
      · exact ((unreserve_keeps ..).trans ((setCurrent_keeps ..).trans ((freeUnit_keeps ..).trans (reply_keeps ..)))).endEvent _ _
  all_goals exact reply_keeps ..

theorem setUnit_keeps (u : UnitState) (s : State) : Keeps lic o o s (setUnit u s) := setFin_keeps (le_refl _)

theorem onSuspendFinishing_keeps (link : Lane) (tag : Byte) (body : List Byte) (s : State) :
    Keeps lic o o s (onSuspendFinishing link tag body s) :=
  withLength_keeps ((setUnit_keeps ..).trans (reply_keeps ..))

theorem onResumeFinishing_keeps (link : Lane) (tag : Byte) (body : List Byte) (s : State) :
    Keeps lic o o s (onResumeFinishing link tag body s) :=
  withLength_keeps (((setUnit_keeps ..).trans (reply_keeps ..)).endEvent _ _)

/-- A new cartridge holds as many staples as the settings say (R106, R125). -/
theorem onCartridgeInserted_keeps (s : State) : Keeps lic o o s (onCartridgeInserted s) := by
  refine Keeps.endEvent ⟨⟨.of_alike (fun m => ?_) (by simp) (by simp), ?_⟩, settled_of_lane_eq (by simp) (by simp) (by simp) (by simp)⟩ _ _
  · simpa using ⟨rfl, rfl, rfl⟩
  · exact ⟨by simp, fun h => ⟨h.1, h.2.1, h.2.2.1, le_refl _⟩, fun _ => id, .inl (le_refl _), .inl rfl⟩

/-! ## Purge (R47, R74, R162) -/

/-- A lane at a Purge's start (R47). -/
theorem purgeLaneStart_lane (l m : Lane) (s : State) :
    ((purgeLaneStart l s).lane m).queue
        = (if m = l then
            if (s.lane m).inFault then [] else (s.lane m).queue.map (fun e => { e with verdict := .divert .purging })
          else (s.lane m).queue)
      ∧ ((purgeLaneStart l s).lane m).transit = (s.lane m).transit
      ∧ ((purgeLaneStart l s).lane m).inFault = (s.lane m).inFault := by
  unfold purgeLaneStart
  dsimp only
  obtain ⟨hq, ht, hf⟩ := evalHold_alike l m (setQueue l (if (s.lane l).inFault then []
    else (s.lane l).queue.map (fun e => { e with verdict := .divert .purging })) s)
  rw [hq, ht, hf, setQueue_lane]
  by_cases hm : m = l
  · subst hm
    simp [LaneUnit.inFault]
  · simp [hm]

theorem purgeLaneStart_stores (l : Lane) (s : State) : KeepsStores lic s (purgeLaneStart l s) :=
  (setLane_stores ..).trans (evalHold_keeps (o := none) ..).stores

theorem purgeLaneStart_settled (l : Lane) (h : LaneSettled s m) : LaneSettled (purgeLaneStart l s) m :=
  evalHold_settled_of (fun hm => by simp [setQueue_lane, hm]) (h := h)

/-- A Purge's start: every entry is diverted or discarded, and the unplaced list is emptied (R47, R74). -/
theorem purgeStart_keeps (p : PurgeState) (s : State) :
    Keeps lic o o s ((purgeLaneStart .b (purgeLaneStart .a (s.setPurge p))).setUnplaced []) where
  queues := by
    have hlane : ∀ m, (((purgeLaneStart .b (purgeLaneStart .a (s.setPurge p))).setUnplaced []).lane m).queue
          = (if (s.lane m).inFault then [] else (s.lane m).queue.map (fun e => { e with verdict := .divert .purging }))
        ∧ (((purgeLaneStart .b (purgeLaneStart .a (s.setPurge p))).setUnplaced []).lane m).transit = (s.lane m).transit
        ∧ (((purgeLaneStart .b (purgeLaneStart .a (s.setPurge p))).setUnplaced []).lane m).inFault = (s.lane m).inFault := by
      intro m
      obtain ⟨h1, h2, h3⟩ := purgeLaneStart_lane .b m (purgeLaneStart .a (s.setPurge p))
      obtain ⟨h4, h5, h6⟩ := purgeLaneStart_lane .a m (s.setPurge p)
      rw [State.setUnplaced_lane, h1, h2, h3, h4, h5, h6]
      cases m <;> simp
    refine ⟨fun m h => ?_, fun _ m e he hv => ?_, fun _ => ⟨by simp, by simp, by simp⟩, fun m h => .inl ?_, fun m h => ?_⟩
    · obtain ⟨h1, h2, h3⟩ := hlane m
      unfold LaneWatches at h ⊢
      rw [h1, h2, h3, h]
      split
      · rfl
      · cases (s.lane m).queue <;> rfl
    · rw [(hlane m).1] at he
      split at he
      · cases he
      · obtain ⟨x, -, rfl⟩ := List.mem_map.mp he
        cases hv
    · rw [(hlane m).2.2]
      exact h
    · rw [(hlane m).1]
      split
      · exact Nat.zero_le _
      · rwa [List.length_map]
  stores := by
    have h1 : KeepsStores lic s (s.setPurge p) :=
      .of_parts (by simp) (by simp) (by simp) (by simp [HeightsKept]) (by simp) (by simp)
    refine (h1.trans ((purgeLaneStart_stores .a _).trans (purgeLaneStart_stores .b _))).trans ?_
    exact .of_parts (by simp) (by simp) (by simp) (by simp [HeightsKept]) (by simp) (by simp)
  settled m _ := by
    refine settled_of_lane_eq (s := purgeLaneStart .b (purgeLaneStart .a (s.setPurge p))) (by simp) (by simp) (by simp) (by simp) m ?_
    cases m with
    | a => exact purgeLaneStart_settled .b (evalHold_settles .a _)
    | b => exact evalHold_settles .b _

theorem dumpPacket_keeps (n : Fin 24) (p : Packet) (s : State) : Keeps lic o o s (dumpPacket n p s) :=
  (act_keeps ..).trans ((leaveHeld_keeps ..).trans ((leaveFinishing_keeps ..).trans ((addTray_keeps ..).trans
    ((sendReport_keeps ..).trans ((removePacket_keeps ..).trans ((freeSlot_keeps ..).trans ((setRank_keeps ..).trans
      (orderStep_keeps ..))))))))

theorem dumpSlot_keeps (n : Fin 24) (s : State) : Keeps lic o o s (dumpSlot s n) := by
  unfold dumpSlot
  split
  · split
    · exact .refl s
    · exact dumpPacket_keeps ..
  · exact .refl s

theorem foldl_dumpSlot_keeps (ns : List (Fin 24)) (s : State) : Keeps lic o o s (ns.foldl dumpSlot s) := by
  induction ns generalizing s with
  | nil => exact .refl s
  | cons n ns ih => exact (dumpSlot_keeps n s).trans (ih _)

theorem onPurge_keeps (link : Lane) (tag : Byte) (body : List Byte) (s : State) :
    Keeps lic o o s (onPurge link tag body s) := by
  apply withLength_keeps
  split
  · exact reply_keeps ..
  · exact (purgeStart_keeps _ s).trans ((foldl_dumpSlot_keeps _ _).trans (purgeTest_keeps _))

/-! ## The Staging Tower's requests and events -/

theorem onFenceSlot_keeps (link : Lane) (tag : Byte) (body : List Byte) (s : State) :
    Keeps lic o o s (onFenceSlot link tag body s) := by
  apply withLength_keeps
  split
  · exact reply_keeps ..
  · split
    · exact ((setSlot_keeps ..).trans (reply_keeps ..)).endEvent _ _
    · exact (setSlot_keeps ..).trans (reply_keeps ..)
    · exact reply_keeps ..

theorem onUnfenceSlot_keeps (link : Lane) (tag : Byte) (body : List Byte) (s : State) :
    Keeps lic o o s (onUnfenceSlot link tag body s) := by
  apply withLength_keeps
  split
  · exact reply_keeps ..
  · split
    · exact ((setSlot_keeps ..).trans ((allocate_keeps ..).trans (reply_keeps ..))).endEvent _ _
    · split
      · exact (setSlot_keeps ..).trans (reply_keeps ..)
      · exact reply_keeps ..
    · exact reply_keeps ..

theorem onCollectionExpiry_keeps (n : Fin 24) (s : State) : Keeps lic o o s (onCollectionExpiry n s) := by
  unfold onCollectionExpiry
  split
  · split
    · exact (becomeStale_keeps ..).endEvent _ _
    · exact .refl s
  · exact .refl s

theorem onSlotGift_keeps (n : Fin 24) (s : State) : Keeps lic o o s (onSlotGift n s) := by
  unfold onSlotGift
  split
  · exact (allocate_keeps ..).endEvent _ _
  · exact .refl s
  · exact .refl s

/-! ## Queries and the Table Store -/

theorem onReadClass_keeps (link : Lane) (tag : Byte) (body : List Byte) (s : State) :
    Keeps lic o o s (onReadClass link tag body s) := by
  apply withLength_keeps
  split <;> exact reply_keeps ..

theorem onReadSlot_keeps (link : Lane) (tag : Byte) (body : List Byte) (s : State) :
    Keeps lic o o s (onReadSlot link tag body s) := by
  apply withLength_keeps
  split <;> exact reply_keeps ..

theorem onReadBin_keeps (link : Lane) (tag : Byte) (body : List Byte) (s : State) :
    Keeps lic o o s (onReadBin link tag body s) := by
  apply withLength_keeps
  split <;> exact reply_keeps ..

theorem onReadAttention_keeps (link : Lane) (tag : Byte) (body : List Byte) (s : State) :
    Keeps lic o o s (onReadAttention link tag body s) := by
  have clear : ∀ f, Keeps lic o o s (s.setFlags f) := fun f => .of_same
  apply withLength_keeps
  split
  · exact (clear _).trans (reply_keeps ..)
  · exact reply_keeps ..

theorem onReadStatus_keeps (link : Lane) (tag : Byte) (body : List Byte) (s : State) :
    Keeps lic o o s (onReadStatus link tag body s) := withLength_keeps (reply_keeps ..)

theorem onLoadClass_keeps (link : Lane) (tag : Byte) (body : List Byte) (s : State) :
    Keeps lic o o s (onLoadClass link tag body s) := by
  apply withLength_keeps
  split
  · exact reply_keeps ..
  · dsimp only
    split
    · exact reply_keeps ..
    · exact ((setClassRec_keeps ..).trans ((reply_keeps ..).trans (advance_keeps ..))).endEvent _ _

theorem onUnloadClass_keeps (link : Lane) (tag : Byte) (body : List Byte) (s : State) :
    Keeps lic o o s (onUnloadClass link tag body s) := by
  apply withLength_keeps
  dsimp only
  split
  · exact reply_keeps ..
  · split
    · exact reply_keeps ..
    · exact (setClassRec_keeps ..).trans (reply_keeps ..)

theorem onLockClass_keeps (link : Lane) (tag : Byte) (body : List Byte) (s : State) :
    Keeps lic o o s (onLockClass link tag body s) := by
  apply withLength_keeps
  dsimp only
  split
  · exact reply_keeps ..
  · split
    · exact reply_keeps ..
    · exact (setClassRec_keeps ..).trans (reply_keeps ..)

theorem onSetRosterMark_keeps (link : Lane) (tag : Byte) (body : List Byte) (s : State) :
    Keeps lic o o s (onSetRosterMark link tag body s) := by
  have reopen : ∀ m c u, Keeps lic o o u (reopenDone m c u) := fun m c u => .of_same
  apply withLength_keeps
  dsimp only
  split
  · exact reply_keeps ..
  · split
    · exact reply_keeps ..
    · split
      · exact reply_keeps ..
      · split
        · exact reply_keeps ..
        · split
          · exact ((setRank_keeps ..).trans ((reopen ..).trans ((reply_keeps ..).trans (orderStep_keeps ..)))).endEvent _ _
          · exact reply_keeps ..

theorem closedBy_deadline (c : Nat) (e : Entry) : (e.closedBy s c).deadline = e.deadline := by
  unfold Entry.closedBy
  split <;> rfl

theorem closedBy_of_not_abandons {c : Nat} {e : Entry} (h : s.abandons c e.key = false) : e.closedBy s c = e := by
  simp [Entry.closedBy, h]

/-- Close Class gives up keys and their entries together (R17). -/
theorem closeClass_keeps (c : Nat) (s : State) : Keeps lic o o s (closeClass c s) where
  queues := by
    refine .of_map (f := Entry.closedBy s c) (closedBy_deadline c) (fun m => ⟨closeClass_queue c s m, ?_⟩) (fun e he => ?_) ?_
      (by simp) (fun _ u hu e hk _ => closedBy_of_not_abandons ?_)
    · unfold closeClass
      extract_lets s1 s2 s3 s4
      have h1 := evalHold_alike .b m (evalHold .a (setQueue .b ((s4.lane .b).queue.map (Entry.closedBy s c)) s4))
      have h2 := evalHold_alike .a m (setQueue .b ((s4.lane .b).queue.map (Entry.closedBy s c)) s4)
      have e : evalHolds = fun u => evalHold .b (evalHold .a u) := rfl
      rw [e]
      dsimp only
      rw [h1.transit, h1.inFault, h2.transit, h2.inFault]
      cases m <;> simp [s1, s2, s3, s4, setQueue, LaneUnit.inFault]
    · have hne : s.abandons c e.key = false ∨ e.verdict ≠ .unplaced := by
        by_contra hc
        simp only [not_or, Bool.not_eq_false, not_not] at hc
        simp [Entry.closedBy, hc] at he
      have e1 : e.closedBy s c = e := hne.elim closedBy_of_not_abandons fun h => by simp [Entry.closedBy, h]
      have hn : s.abandons c e.key = false := hne.resolve_right (by rw [← e1, he]; simp)
      refine ⟨e1, fun hu => ?_⟩
      rw [isUnplaced_iff, closeClass_unplaced]
      obtain ⟨u, hu, hk⟩ := List.mem_map.mp ((isUnplaced_iff s e.key).mp hu)
      exact List.mem_map.mpr ⟨u, List.mem_filter.mpr ⟨hu, by simp [hk, hn]⟩, hk⟩
    · rw [closeClass_unplaced]
      exact List.filter_sublist
    · rw [closeClass_unplaced] at hu
      simpa [hk] using (List.mem_filter.mp hu).2
  stores := by
    have list : ∀ (u : State) v, KeepsStores lic u (u.setUnplaced v) := fun u v =>
      .of_parts (by simp) (by simp) (by simp) (by simp [HeightsKept]) (by simp) (by simp)
    exact (activate_keeps (o := o) ..).stores.trans ((setClassRec_keeps (o := o) ..).stores.trans ((list ..).trans
      ((setLane_stores ..).trans ((setLane_stores ..).trans (evalHolds_keeps (o := o) _).stores))))
  settled m _ := evalHolds_settles _ m

theorem onCloseClass_keeps (link : Lane) (tag : Byte) (body : List Byte) (s : State) :
    Keeps lic o o s (onCloseClass link tag body s) := by
  apply withLength_keeps
  dsimp only
  split
  · exact reply_keeps ..
  · split
    · exact reply_keeps ..
    · exact ((closeClass_keeps ..).trans ((reply_keeps ..).trans (orderStep_keeps ..))).endEvent _ _

/-- Other tables with the same settings. -/
theorem setTables_keeps {v : Tables} (hset : v.settings = s.settings) (h : TablesInRange s → TablesInRange (s.setTables v)) :
    Keeps lic o o s (s.setTables v) :=
  ⟨⟨.of_alike (fun m => by simpa using ⟨rfl, rfl, rfl⟩) (by simp) (by simp), ⟨by simp, h, fun _ => id, .inl (le_refl _), .inl rfl⟩⟩,
    settled_of_lane_eq (by simp) hset (by simp) (by simp)⟩

theorem tablesInRange_putAssignment {n : Fin 32} {a : Assignment} (ha : 1 ≤ a.sheetCount ∧ a.sheetCount ≤ 40)
    (h : TablesInRange s) : TablesInRange (s.setTables { s.tables with assignments := put s.tables.assignments n (some a) }) := by
  refine ⟨h.1, h.2.1, fun i b hb => ?_, h.2.2.2⟩
  simp only [State.setTables_tables, put_getElem] at hb
  split at hb
  · exact Option.some.inj hb ▸ ha
  · exact h.2.2.1 i b hb

theorem onLoadAssignment_keeps (link : Lane) (tag : Byte) (body : List Byte) (s : State) :
    Keeps lic o o s (onLoadAssignment link tag body s) := by
  apply withLength_keeps
  split
  · exact reply_keeps ..
  · rename_i n a hb
    have ha : 1 ≤ a.sheetCount ∧ a.sheetCount ≤ 40 := by
      unfold assignmentOfBody at hb
      split at hb
      · split at hb
        · rename_i hcount
          cases hb
          exact hcount
        · cases hb
      · cases hb
    have loaded : Keeps lic o o s (s.setTables { s.tables with assignments := put s.tables.assignments n (some a) }) :=
      setTables_keeps rfl (tablesInRange_putAssignment ha)
    exact loaded.trans (reply_keeps ..)

theorem tablesInRange_putMedia {n : Fin 16} {v : Nat} (hv : 40 ≤ v ∧ v ≤ 400) (h : TablesInRange s) :
    TablesInRange (s.setTables { s.tables with media := put s.tables.media n (some v) }) := by
  refine ⟨h.1, fun i b hb => ?_, h.2.2⟩
  simp only [State.setTables_tables, put_getElem] at hb
  split at hb
  · exact Option.some.inj hb ▸ hv
  · exact h.2.1 i b hb

theorem clamp_range {lo hi : Nat} (h : lo ≤ hi) (v : Nat) : lo ≤ clamp lo hi v ∧ clamp lo hi v ≤ hi := by
  rw [clamp_eq h]
  omega

theorem onLoadMedia_keeps (link : Lane) (tag : Byte) (body : List Byte) (s : State) :
    Keeps lic o o s (onLoadMedia link tag body s) := by
  apply withLength_keeps
  split
  · exact reply_keeps ..
  · rename_i n _
    have loaded : Keeps lic o o s
        (s.setTables { s.tables with media := put s.tables.media n (some (clamp 40 400 (wordAt body 1))) }) :=
      setTables_keeps rfl (tablesInRange_putMedia (clamp_range (by decide) _))
    exact loaded.trans (reply_keeps ..)

theorem settingsInRange_clamped (t : Settings) : SettingsInRange t.clamped :=
  ⟨clamp_range (by decide) _, clamp_range (by decide) _, clamp_range (by decide) _, clamp_range (by decide) _,
    clamp_range (by decide) _, clamp_range (by decide) _, clamp_range (by decide) _, clamp_range (by decide) _,
    clamp_range (by decide) _, clamp_range (by decide) _, clamp_range (by decide) _, clamp_range (by decide) _⟩

theorem settingsWritten_keepsBut {t : Settings} (ht : SettingsInRange t) (s : State) :
    KeepsBut lic o o s (settingsWritten t s) where
  queues := .of_alike (fun m => by simpa [settingsWritten] using ⟨rfl, rfl, rfl⟩) (by simp [settingsWritten])
    (by simp [settingsWritten])
  stores := ⟨by simp [settingsWritten], fun h => ⟨ht, h.2.1, h.2.2.1, Nat.min_le_right ..⟩, fun _ => id, .inl (le_refl _), .inl rfl⟩

/-- Other settings: a changed exception capacity has the hold conditions evaluated (R22, R24). -/
theorem applySettings_keeps {t : Settings} (ht : SettingsInRange t) (s : State) : Keeps lic o o s (applySettings t s) := by
  have hw := settingsWritten_keepsBut (lic := lic) (o := o) ht s
  rw [applySettings_eq]
  split
  · rename_i he
    refine ⟨hw, fun m hm => hm.congr (by simp [settingsWritten]) ?_⟩
    have e : (settingsWritten t s).trayThreshold = s.trayThreshold := congrArg (· - Config.trayMargin) he
    have htray : (settingsWritten t s).tray = s.tray := by simp [settingsWritten]
    exact holdCondition_of_tray_iff (by simp [settingsWritten]) (by rw [e, htray]) (by simp [settingsWritten])
  · refine ⟨KeepsBut.trans ?_ (evalHolds_keeps _).toKeepsBut, fun m _ => evalHolds_settles _ m⟩
    split
    · exact hw.trans (raise_keeps ..).toKeepsBut
    · exact hw

theorem onLoadSettings_keeps (link : Lane) (tag : Byte) (body : List Byte) (s : State) :
    Keeps lic o o s (onLoadSettings link tag body s) := by
  apply withLength_keeps
  split
  · exact reply_keeps ..
  · dsimp only
    split
    · exact reply_keeps ..
    · exact ((applySettings_keeps (settingsInRange_clamped _) s).trans (reply_keeps ..)).endEvent _ _

/-! ## Every command -/

/-- The lane that a Lane Clear body clears may leave FAULT by such a frame (R45). -/
theorem handOver_keeps (k : DownKind) (link : Lane) (tag : Byte) (body : List Byte) (s : State)
    (hl : ∀ l, k = .laneClear → body = [laneCode l] → lic.clears l) : Keeps lic none none s (handOver k link tag body s) := by
  cases k with
  | sheetAnnounce => exact onSheetAnnounce_keeps ..
  | loadClass => exact onLoadClass_keeps ..
  | unloadClass => exact onUnloadClass_keeps ..
  | lockClass => exact onLockClass_keeps ..
  | setRosterMark => exact onSetRosterMark_keeps ..
  | closeClass => exact onCloseClass_keeps ..
  | loadAssignment => exact onLoadAssignment_keeps ..
  | loadMedia => exact onLoadMedia_keeps ..
  | loadBin => exact onLoadBin_keeps ..
  | loadSettings => exact onLoadSettings_keeps ..
  | laneClear => exact onLaneClear_keeps _ _ _ _ fun l => hl l rfl
  | finisherClear => exact onFinisherClear_keeps ..
  | suspendFinishing => exact onSuspendFinishing_keeps ..
  | resumeFinishing => exact onResumeFinishing_keeps ..
  | fenceSlot => exact onFenceSlot_keeps ..
  | unfenceSlot => exact onUnfenceSlot_keeps ..
  | purge => exact onPurge_keeps ..
  | readAttention => exact onReadAttention_keeps ..
  | readClass => exact onReadClass_keeps ..
  | readSlot => exact onReadSlot_keeps ..
  | readBin => exact onReadBin_keeps ..
  | readStatus => exact onReadStatus_keeps ..

theorem testKind_keeps (link : Lane) (kind tag : Byte) (body : List Byte) (s : State)
    (hl : ∀ l, kind = 0x20#8 → body = [laneCode l] → lic.clears l) : Keeps lic none none s (testKind link kind tag body s) := by
  unfold testKind
  split
  · rename_i k hk
    refine handOver_keeps k link tag body s fun l hclear => hl l ?_
    subst hclear
    simpa [DownKind.code, eq_comm] using List.find?_some hk
  · exact reply_keeps ..

theorem onByte_keeps (link : Lane) (b : Byte) (s : State) (hl : ∀ l, lic.clears l) :
    Keeps lic none none s (onByte link b s) := by
  unfold onByte
  split
  · split
    · exact setRx_keeps ..
    · exact .refl s
  · unfold takeByte
    dsimp only
    split
    · exact setRx_keeps ..
    · split
      · exact setRx_keeps ..
      · unfold completeFrame
        dsimp only
        split
        · exact (setRx_keeps ..).trans (testKind_keeps _ _ _ _ _ fun l _ _ => hl l)
        · exact (setRx_keeps ..).trans (raise_keeps ..)

/-- One millisecond keeps the laws; only the clock, timers and actions change (log entry 1). -/
theorem passTime_keeps (s : State) : Keeps lic o o s (passTime s) := by
  have now : Keeps lic o o s (s.setNow (s.now + 1)) := .of_same
  have timer : ∀ u : State, Keeps lic o o u (u.setFin { u.fin with timer := u.fin.timer.map (fun t => t - 1) }) :=
    fun u => setFin_keeps (le_refl _)
  exact now.trans ((beginEvent_keeps _).trans ((mapTimers_keeps ..).trans ((timer _).trans ((setRx_keeps ..).trans (setRx_keeps ..)))))

/-- The licence of a command: a Lane Clear for its lane, in the two rows that can carry one, or a byte that may complete one; the
emptying of the tray; an arrival. -/
def licenceOf (i : Instr) : Licence where
  clears l := isByte i = true ∨ (∃ link tag, i = .laneClear link tag [laneCode l])
    ∨ ∃ link tag, i = .unknownKindFrame link 0x20#8 tag [laneCode l]
  empties := i = .exceptionTrayEmptied
  stamps := ∃ l, i = .laneEntry l

/-- Only the stamp written, by an arrival (R28). -/
theorem setStamp_keeps (h : lic.stamps) (v : BitVec 32) (s : State) : Keeps lic o o s (s.setStamp v) :=
  ⟨⟨.of_alike (fun m => by simpa using ⟨rfl, rfl, rfl⟩) (by simp) (by simp), ⟨by simp, id, fun _ => id, .inl le_rfl, .inr h⟩⟩,
    settled_of_lane_eq (by simp) (by simp) (by simp) (by simp)⟩

/-- Every command but power-on keeps the laws, within its licence. -/
theorem exec_keeps {i : Instr} (h : exec i s = .next t) (hi : i ≠ .powerOn) : Keeps (licenceOf i) none none s t := by
  have frame : ∀ (k : DownKind) (link : Lane) (tag : Byte) (body : List Byte), k ≠ .laneClear →
      Keeps (licenceOf i) none none s (handOver k link tag body (frameCompleted link s)) := fun k link tag body hk =>
    (frameCompleted_keeps ..).trans (handOver_keeps k link tag body _ fun _ e => absurd e hk)
  cases i with
  | powerOn => exact absurd rfl hi
  | sheetAnnounce link body => cases h; exact frame .sheetAnnounce link 0#8 body (by decide)
  | loadClass link tag body => cases h; exact frame .loadClass link tag body (by decide)
  | unloadClass link tag body => cases h; exact frame .unloadClass link tag body (by decide)
  | lockClass link tag body => cases h; exact frame .lockClass link tag body (by decide)
  | setRosterMarkExcuse link tag fields => cases h; exact frame .setRosterMark link tag _ (by decide)
  | setRosterMarkExpect link tag fields => cases h; exact frame .setRosterMark link tag _ (by decide)
  | setRosterMarkRetry link tag fields => cases h; exact frame .setRosterMark link tag _ (by decide)
  | closeClass link tag body => cases h; exact frame .closeClass link tag body (by decide)
  | loadAssignment link tag body => cases h; exact frame .loadAssignment link tag body (by decide)
  | loadMedia link tag body => cases h; exact frame .loadMedia link tag body (by decide)
  | loadSettings link tag body => cases h; exact frame .loadSettings link tag body (by decide)
  | loadBin link tag body => cases h; exact frame .loadBin link tag body (by decide)
  | laneClear link tag body =>
    cases h
    exact (frameCompleted_keeps ..).trans (onLaneClear_keeps _ _ _ _ fun l hb => .inr (.inl ⟨link, tag, by rw [hb]⟩))
  | finisherClearRetry link tag fields => cases h; exact frame .finisherClear link tag _ (by decide)
  | finisherClearRemoved link tag fields => cases h; exact frame .finisherClear link tag _ (by decide)
  | fenceSlot link tag body => cases h; exact frame .fenceSlot link tag body (by decide)
  | unfenceSlot link tag body => cases h; exact frame .unfenceSlot link tag body (by decide)
  | suspendFinishing link tag body => cases h; exact frame .suspendFinishing link tag body (by decide)
  | resumeFinishing link tag body => cases h; exact frame .resumeFinishing link tag body (by decide)
  | purge link tag body => cases h; exact frame .purge link tag body (by decide)
  | readClass link tag body => cases h; exact frame .readClass link tag body (by decide)
  | readSlot link tag body => cases h; exact frame .readSlot link tag body (by decide)
  | readBin link tag body => cases h; exact frame .readBin link tag body (by decide)
  | readAttention link tag body => cases h; exact frame .readAttention link tag body (by decide)
  | readStatus link tag body => cases h; exact frame .readStatus link tag body (by decide)
  | badCheckFrame link => cases h; exact (frameCompleted_keeps ..).trans (raise_keeps ..)
  | unknownKindFrame link kind tag body =>
    cases h
    refine (frameCompleted_keeps ..).trans (testKind_keeps _ _ _ _ _ fun l hk hb => .inr (.inr ⟨link, tag, ?_⟩))
    rw [hk, hb]
  | frameGapExpiry link =>
    cases h
    refine (beginEvent_keeps s).trans ?_
    unfold onFrameGap
    split
    · exact .refl _
    · exact (setRx_keeps ..).trans (raise_keeps ..)
  | frameSent link =>
    cases h
    refine (beginEvent_keeps s).trans (.of_same (by simp [onFrameSent]) (by simp [onFrameSent]) (by simp [onFrameSent])
      (by simp [onFrameSent]) (by simp [onFrameSent]) (by simp [onFrameSent]) (by simp [onFrameSent]) (fun m h => ?_)
      (by simp [onFrameSent, HeightsKept]))
    by_cases hm : m = link
    · subst hm
      simp only [onFrameSent, State.setLink_link, List.length_tail]
      omega
    · simpa [onFrameSent, hm] using h
  | laneEntry l =>
    cases h
    exact (beginEvent_keeps s).trans ((setStamp_keeps (lic := licenceOf (.laneEntry l)) ⟨l, rfl⟩ _ _).trans (onLaneEntry_keeps l _))
  | laneJam l => cases h; exact (beginEvent_keeps s).trans (onLaneJam_keeps l _)
  | transitTimerExpiry l => cases h; exact (beginEvent_keeps s).trans (onTransitExpiry_keeps l _)
  | collectionTimerExpiry n => cases h; exact (beginEvent_keeps s).trans (onCollectionExpiry_keeps n _)
  | transferDone => cases h; exact (beginEvent_keeps s).trans (onTransferDone_keeps _)
  | jogDone => cases h; exact (beginEvent_keeps s).trans (onJogDone_keeps _)
  | stapleDone => cases h; exact (beginEvent_keeps s).trans (onStapleDone_keeps _)
  | stapleMisfire => cases h; exact (beginEvent_keeps s).trans (onMisfire_keeps _)
  | ejectDone => cases h; exact (beginEvent_keeps s).trans (onEjectDone_keeps _)
  | finisherJam => cases h; exact (beginEvent_keeps s).trans (enterUnitFault_keeps ..)
  | stageLimitExpiry => cases h; exact (beginEvent_keeps s).trans (onStageLimit_keeps _)
  | binFull b => cases h; exact (beginEvent_keeps s).trans (setBin_keeps ..)
  | binRemoved b => cases h; exact (beginEvent_keeps s).trans (setBin_keeps ..)
  | binReplaced b => cases h; exact (beginEvent_keeps s).trans (onBinReplaced_keeps b _)
  | exceptionTrayEmptied => cases h; exact (beginEvent_keeps s).trans (onTrayEmptied_keeps rfl _)
  | cartridgeInserted => cases h; exact (beginEvent_keeps s).trans (onCartridgeInserted_keeps _)
  | take => cases h; exact (beginEvent_keeps s).trans (selectionPass_keeps _)
  | slotGift n => cases h; exact (beginEvent_keeps s).trans (onSlotGift_keeps n _)
  | purgeCompletion => cases h; exact (beginEvent_keeps s).trans (purgeTest_keeps _)
  | byteReceived link b => cases h; exact (beginEvent_keeps s).trans (onByte_keeps _ _ _ fun _ => .inl rfl)

end
end Sys2Proof.Events

namespace Sys2Proof.Events

open Sys2Proof.Machine Sys2Proof.Safety Sys2Proof.ClassTable Sys2Proof.Requests

/-! # The laws of the lanes and the bounds, for every step and every command -/

/-- A step keeps the laws from the state it begins in, or, at power-on, from the reset state. -/
theorem step_keeps {s t : State} (h : step s = .next t) :
    ∃ lic s', (s' = s ∨ s' = State.reset) ∧ Keeps lic none none s' t := by
  have wait : ∀ (lic : Licence) (u : State) v, Keeps lic none none u (u.setPending v) := fun lic u v => .of_same
  unfold step at h
  split at h
  · cases h
    exact ⟨.none, s, .inl rfl, passTime_keeps s⟩
  · rename_i i rest _
    by_cases hi : i = .powerOn
    · subst hi
      cases h
      exact ⟨.none, State.reset, .inr rfl, wait ..⟩
    · exact ⟨licenceOf i, s, .inl rfl, (wait ..).trans (exec_keeps h hi)⟩

/-- A law that the bundle keeps, and that holds at reset, is kept by every step. -/
theorem law_of_step {P : State → Prop} (hreset : P State.reset) (hkeeps : ∀ lic s t, Keeps lic none none s t → P s → P t)
    (s t : State) (hs : P s) (h : step s = .next t) : P t := by
  obtain ⟨lic, s', hs' | hs', hk⟩ := step_keeps h
  · exact hkeeps lic s' t hk (hs' ▸ hs)
  · exact hkeeps lic s' t hk (hs' ▸ hreset)

/-- Keys without repetition that all wait in the two queues are at most as many as the entries of both (R25, R56). -/
theorem length_unplaced_le {s : State} (h : KeysWaitInQueues s) :
    s.unplaced.length ≤ (s.lane .a).queue.length + (s.lane .b).queue.length := by
  have hsub : s.unplaced.map Waiting.key ⊆ ((s.lane .a).queue ++ (s.lane .b).queue).map Entry.key := by
    intro k hk
    obtain ⟨u, hu, rfl⟩ := List.mem_map.mp hk
    obtain ⟨l, e, he, hek, -⟩ := h.2.2 u hu
    refine List.mem_map.mpr ⟨e, List.mem_append.mpr ?_, hek⟩
    cases l
    · exact .inl he
    · exact .inr he
  simpa using (h.1.subperm hsub).length_le

/-- Settles O6: each law is a field of the bundle that every step keeps; the bound counts the entries that the keys wait in. -/
theorem everyStepKeepsTheLanes : Obligations.EveryStepKeepsTheLanes := by
  obtain ⟨-, -, -, -, -, htransit, hholds, -, hlisted, -, -, hwait⟩ := resetSatisfiesTheLaws
  refine ⟨law_of_step hholds fun _ _ _ hk hs l => hk.settled l (hs l),
    law_of_step htransit fun _ _ _ hk hs l => hk.queues.watches l (hs l),
    law_of_step hlisted fun _ _ _ hk => hk.queues.listed, law_of_step hwait fun _ s t hk => ?_, fun s hb hw => ?_⟩
  · rw [← keysWaitBut_none, ← keysWaitBut_none]
    exact hk.queues.waits
  · have h := length_unplaced_le hw
    have ha : (s.lane .a).queue.length ≤ 6 := (hb .a).1
    have hb : (s.lane .b).queue.length ≤ 6 := (hb .b).1
    omega

/-! ## The heights (R96, R102) -/

/-- At most 40 sheets of at most 400 um each (R96). -/
theorem SheetsKept.height_le {p : Packet} (h : SheetsKept p) : p.height ≤ 16000 := by
  obtain ⟨⟨-, h2, h3, h4, h5⟩, h6⟩ := h
  have hheld : p.sheetsHeld ≤ 40 := by
    cases hc : p.snapshot.cover <;> cases hr : p.coverReceived <;> simp [hc, hr] at h4 h5 <;> omega
  omega

/-- At most 16000 um times a loft of 40, shifted right by 8 places (R102). -/
theorem budget_units_le {t : Settings} (ht : SettingsInRange t) {p : Packet} (hp : p.height ≤ 16000) :
    (budgetOf t p).units ≤ 2500 := by
  obtain ⟨-, -, hplain, hstapled, ⟨hscale, -⟩, -⟩ := ht
  unfold budgetOf
  split
  · exact Nat.zero_le _
  · have hloft : loftFor t p ≤ 40 := by
      unfold loftFor
      split <;> omega
    have hprod : p.height * loftFor t p ≤ 640000 := Nat.mul_le_mul hp hloft
    have hpow : 2 ^ 8 ≤ 2 ^ (4 + t.scale) := Nat.pow_le_pow_right (by decide) (by omega)
    simp only [binUnits, Nat.shiftRight_eq_div_pow]
    generalize p.height * loftFor t p = x at hprod
    generalize 2 ^ (4 + t.scale) = y at hpow
    have hdiv : y * (x / y) + x % y = x := Nat.div_add_mod x y
    have hle : 2 ^ 8 * (x / y) ≤ y * (x / y) := Nat.mul_le_mul_right _ hpow
    split <;> omega

/-- Settles O7: the bounds are fields of the bundle that every step keeps, and a kept packet has at most 40 sheets. -/
theorem everyStepKeepsTheBounds : Obligations.EveryStepKeepsTheBounds := by
  obtain ⟨htables, hbounded, -, -, -, -, -, -, -, -, hheights, -⟩ := resetSatisfiesTheLaws
  refine ⟨law_of_step hbounded fun _ _ _ hk hs l => ⟨hk.queues.room l (hs l).1, hk.stores.room l (hs l).2⟩,
    law_of_step htables fun _ _ _ hk => hk.stores.tables, fun s t hs hh h => ?_, fun s hs hh p hp => ?_⟩
  · have law := law_of_step (P := fun s => TablesInRange s ∧ HeightsKept s) ⟨htables, hheights⟩
      (fun _ _ _ hk hs => ⟨hk.stores.tables hs.1, hk.stores.heights hs.1 hs.2⟩) s t ⟨hs, hh⟩ h
    exact law.2
  · have h := SheetsKept.height_le (hh p hp)
    exact ⟨h, budget_units_le hs h⟩

/-! ## Rules over all commands -/

/-- Settles O12: no operation but an arrival's own writes the stamp, and none but the emptying lowers the tray count. -/
theorem stampAndTrayCountChangeOnlyAsSaid : Obligations.StampAndTrayCountChangeOnlyAsSaid := by
  refine ⟨fun i s t h => ⟨?_, ?_, fun hl hi => ?_⟩, fun i s t h hlt => ?_⟩
  · rintro ⟨l, rfl⟩
    cases h
    have hk := onLaneEntry_keeps (lic := .none) l (beginEvent s)
    exact (hk.stores.stamp.resolve_right not_false).trans (by simp)
  · rintro rfl
    cases h
    rfl
  · exact (exec_keeps h hi).stores.stamp.resolve_right fun ⟨l, e⟩ => hl l e
  · by_cases hi : i = .powerOn
    · exact .inl hi
    · exact .inr ((exec_keeps h hi).stores.tray.resolve_left (Nat.not_le.mpr hlt))

/-- Settles O13: the one operation that ends a FAULT is a taken Lane Clear's. -/
theorem onlyLaneClearEndsALaneFault : Obligations.OnlyLaneClearEndsALaneFault := by
  intro i s t l h hf hf'
  by_cases hi : i = .powerOn
  · exact .inl hi
  · exact .inr (((exec_keeps h hi).queues.fault l hf).resolve_left (by simp [hf']))

end Sys2Proof.Events

namespace Sys2Proof.Lanes

open Sys2Proof.Machine Sys2Proof.Safety Sys2Proof.ClassTable Sys2Proof.Requests Sys2Proof.Events

/-! # What the lanes' operations do to each part of the state -/

section
variable {s t u : State} {l m : Lane}

/-! ## Parts that an operation leaves -/

theorem onlyChanges_setLane (l : Lane) (v : LaneUnit) (s : State) : OnlyChanges [Part.lane l] s (s.setLane l v) := by
  intro p hp
  cases l <;> cases p <;> simp [Part.Same, Part.lane, State.setLane] at hp ⊢

theorem onlyChanges_setPackets (v : List Packet) (s : State) : OnlyChanges [.packets] s (s.setPackets v) := by
  intro p hp
  cases p <;> simp [Part.Same] at hp ⊢

theorem onlyChanges_setStamp (v : BitVec 32) (s : State) : OnlyChanges [.stamp] s (s.setStamp v) := by
  intro p hp
  cases p <;> simp [Part.Same] at hp ⊢

theorem onlyChanges_beginEvent (s : State) : OnlyChanges [.actions] s (beginEvent s) := onlyChanges_setActions [] s

theorem onlyChanges_sendUnsolicited (l : Lane) (kind : UpKind) (body : List Byte) (s : State) :
    OnlyChanges [Part.link l] s (sendUnsolicited l kind body s) := onlyChanges_setLink l _ s

theorem onlyChanges_mapTimers (f : CollectTimer → CollectTimer) (s : State) : OnlyChanges [.packets] s (mapTimers f s) :=
  onlyChanges_setPackets _ s

theorem onlyChanges_enterFault (l : Lane) (c : LaneCause) (s : State) :
    OnlyChanges [Part.lane l, Part.link l, .flags, .packets] s (enterFault l c s) := by
  have lane : ∀ v, OnlyChanges [Part.lane l, Part.link l, .flags, .packets] s (raise (laneFaultCause l) (s.setLane l v)) :=
    fun v => ((onlyChanges_setLane l v s).mono (by simp)).andThen (onlyChanges_raise _ _) (by simp)
  unfold enterFault
  dsimp only
  refine OnlyChanges.andThen ?_ (onlyChanges_mapTimers _ _) (by simp)
  split
  · exact (lane _).andThen (onlyChanges_sendUnsolicited _ _ _ _) (by simp)
  · exact lane _

/-- Reading a part that did not change. -/
theorem OnlyChanges.lane {ps : List Part} (h : OnlyChanges ps s t) (hm : Part.lane m ∉ ps) : t.lane m = s.lane m := by
  have := h _ hm
  cases m <;> exact this

theorem OnlyChanges.link {ps : List Part} (h : OnlyChanges ps s t) (hm : Part.link m ∉ ps) : t.link m = s.link m := by
  have := h _ hm
  cases m <;> exact this

/-! ## Frames (R148, R155) -/

/-- An unsolicited frame on its link, and no other link changed (R148). -/
theorem sendUnsolicited_link (l m : Lane) (kind : UpKind) (body : List Byte) (s : State) :
    (sendUnsolicited l kind body s).link m = if m = l then sentLink (s.link l) s.attention kind body else s.link m := by
  simp [sendUnsolicited, sentLink]

theorem attention_congr (h : t.flags = s.flags) : t.attention = s.attention := by
  rw [State.attention, State.attention, h]

/-- A raised cause sets the attention-pending bit (R155). -/
theorem attention_raise (c : Cause) (s : State) : (raise c s).attention = true := by
  have h : ((raise c s).flags).getLsbD c.bit = true := by cases c <;> simp [raise, Cause.bit]
  simp only [State.attention, ne_eq, decide_eq_true_eq]
  intro e
  simp [e] at h

/-! ## Entry into FAULT (R26) -/

theorem enterFault_flags (l : Lane) (c : LaneCause) (s : State) :
    (enterFault l c s).flags = s.flags ||| BitVec.twoPow 12 (laneFaultCause l).bit := by
  unfold enterFault
  dsimp only
  split <;> simp [raise]

theorem enterFault_packets (l : Lane) (c : LaneCause) (s : State) :
    (enterFault l c s).packets = s.packets.map (fun p => { p with timer := p.timer.freeze }) := by
  unfold enterFault
  dsimp only
  split <;> simp [mapTimers]

theorem enterFault_link (l : Lane) (c : LaneCause) (s : State) :
    (enterFault l c s).link l
      = if (s.lane l).state = .running then sentLink (s.link l) true .hold [] else s.link l := by
  have frozen : ∀ u, (mapTimers CollectTimer.freeze u).link l = u.link l := by simp
  unfold enterFault
  dsimp only
  rw [frozen]
  split
  · rw [sendUnsolicited_link, if_pos rfl, attention_raise]
    simp
  · simp

/-- The timers of the statements, frozen (R67). -/
theorem freeze_eq (p : Packet) :
    ({ p with timer := match p.timer with
        | .running n => .frozen n
        | .frozen n => .frozen n
        | .stopped => .stopped } : Packet) = { p with timer := p.timer.freeze } := by
  cases h : p.timer <;> simp [CollectTimer.freeze]

/-! ## The end of an event that has joined nothing -/

theorem giftedSince_eq_false_of_waiting
    (h : ∀ k, s.isUnplaced k = true → (t.packet k).isSome = true → (s.packet k).isSome = true) : giftedSince s t = false := by
  simp only [giftedSince, List.any_eq_false, Bool.and_eq_true, not_and]
  intro w hw hnone hsome
  have := h w.key (List.any_eq_true.mpr ⟨w, hw, by simp⟩) hsome
  cases hp : s.packet w.key <;> simp [hp] at hnone this

theorem giftedSince_eq_false (h : ∀ k, (t.packet k).isSome = true → (s.packet k).isSome = true) : giftedSince s t = false :=
  giftedSince_eq_false_of_waiting fun k _ => h k

theorem heldSince_eq_false (h : t.held ⊆ s.held) : heldSince s t = false := by
  simp only [heldSince, List.any_eq_false]
  intro k hk
  simp [h hk]

theorem queuedSince_eq_false (h : t.queued ⊆ s.queued) : queuedSince s t = false := by
  simp only [queuedSince, List.any_eq_false]
  intro k hk
  simp [h hk]

/-- Where no key has been given a slot and no packet has joined a list, only the Purge's test may follow (R86, R109, R163). -/
theorem endEvent_of_nothing_joined (hg : giftedSince s t = false) (hh : t.held ⊆ s.held) (hq : t.queued ⊆ s.queued)
    (purge : Bool) :
    endEvent s { relief := false, purge := purge, pass := false } t = if purge then purgeTest t else t := by
  have hq' : ∀ v, v.queued = t.queued → queuedSince s v = false := fun v hv => queuedSince_eq_false (hv ▸ hq)
  cases purge <;> simp [endEvent, hg, heldSince_eq_false hh, hq']

theorem purgeTest_of_idle (h : s.purge = .idle) : purgeTest s = s := by simp [purgeTest, h]

theorem packet_map_timer (f : CollectTimer → CollectTimer) (s : State) (k : Key) :
    (mapTimers f s).packet k = (s.packet k).map (fun p => { p with timer := f p.timer }) := by
  simp only [State.packet, mapTimers, State.setPackets_packets, List.find?_map]
  rfl

theorem endEvent_enterFault (l : Lane) (c : LaneCause) (s : State) :
    endEvent s { relief := false, purge := true, pass := false } (enterFault l c s) = purgeTest (enterFault l c s) := by
  refine endEvent_of_nothing_joined (giftedSince_eq_false fun k hk => ?_) (by simp) (by simp) true
  have e : (enterFault l c s).packet k = (mapTimers CollectTimer.freeze s).packet k := by
    simp only [State.packet, enterFault_packets, mapTimers, State.setPackets_packets]
  simpa [e, packet_map_timer] using hk

/-! ## The end of a Purge and a lane in FAULT (R48) -/

theorem evalHold_of_fault (h : (s.lane l).inFault = true) : evalHold l s = s := by
  obtain ⟨e, -⟩ | ⟨hs, -⟩ | ⟨hs, -⟩ := evalHold_cases l s
  · exact e
  all_goals simp [LaneUnit.inFault, hs] at h

theorem purgeLaneEnd_lane_of_ne (h : m ≠ l) (s : State) : (purgeLaneEnd l s).lane m = s.lane m := by
  unfold purgeLaneEnd
  rw [evalHold_lane_of_ne h]
  simp [h]

theorem purgeLaneEnd_lane_of_fault (h : (s.lane l).inFault = true) :
    (purgeLaneEnd l s).lane l = { s.lane l with expected := none } := by
  have hf : ((s.setLane l { s.lane l with expected := none }).lane l).inFault = true := by simpa [LaneUnit.inFault] using h
  simp [purgeLaneEnd, evalHold_of_fault hf]

/-- The completion test leaves a lane in FAULT but for its expected sequence. -/
theorem purgeTest_lane_of_fault (h : (s.lane l).inFault = true) : ∃ x, (purgeTest s).lane l = { s.lane l with expected := x } := by
  unfold purgeTest
  split
  · exact ⟨_, rfl⟩
  · rename_i link tag _
    have reply_lane : ∀ u, (reply link tag .ok DownKind.purge.code [] u).lane l = u.lane l := by simp
    split
    · refine ⟨none, ?_⟩
      rw [reply_lane]
      cases l with
      | a => rw [purgeLaneEnd_lane_of_ne (by decide), purgeLaneEnd_lane_of_fault (by simpa using h)]; simp
      | b =>
        have e := purgeLaneEnd_lane_of_ne (m := .b) (l := .a) (by decide) (s.setPurge .idle)
        rw [purgeLaneEnd_lane_of_fault (by rw [e]; simpa using h), e]
        simp
    · exact ⟨_, rfl⟩

/-! ## Lane jam and transit expiry (R37, R43) -/

theorem inFault_eq_false_iff (u : LaneUnit) : u.inFault = false ↔ u.state = .running ∨ u.state = .held := by
  cases h : u.state <;> simp [LaneUnit.inFault, h]

/-- A lane put in FAULT outside a Purge (R26, R67). -/
theorem enterFault_of_idle (hp : s.purge = .idle) (c : LaneCause) :
    purgeTest (enterFault l c s) = enterFault l c s
      ∧ (enterFault l c s).lane l = { s.lane l with state := .fault c, transit := none } := by
  refine ⟨purgeTest_of_idle (by simpa using hp), ?_⟩
  rw [enterFault_lane, if_pos rfl, if_neg (by rw [(purging_eq_false_iff s).mpr hp]; decide)]

/-- A lane put in FAULT in a Purge: its queue is emptied, and the end of the Purge leaves it so (R47). -/
theorem enterFault_of_purging (hp : s.purging = true) (l : Lane) (c : LaneCause) :
    ∃ x, (purgeTest (enterFault l c s)).lane l
      = { state := .fault c, queue := [], expected := x, counter := (s.lane l).counter, transit := none } := by
  have e := enterFault_lane l l c s
  rw [if_pos rfl, if_pos hp] at e
  obtain ⟨x, hx⟩ := purgeTest_lane_of_fault (s := enterFault l c s) (l := l) (by rw [e]; rfl)
  exact ⟨x, by rw [hx, e]⟩

/-- Settles O32: both events enter FAULT on the state their event begins in, and nothing joins a list. -/
theorem laneFaultStopsTheLane : Obligations.LaneFaultStopsTheLane := by
  have jam : ∀ (l : Lane) (s : State), (s.lane l).inFault = false →
      exec (.laneJam l) s = .next (purgeTest (enterFault l .jam (beginEvent s))) := fun l s hf => by
    rw [← endEvent_enterFault]
    simp [exec, execLaneJam, onLaneJam, hf]
  have expiry : ∀ (l : Lane) (s : State), (s.lane l).inFault = false → (s.lane l).transit ≠ none →
      exec (.transitTimerExpiry l) s = .next (purgeTest (enterFault l .transit (beginEvent s))) := fun l s hf ht => by
    rw [← endEvent_enterFault]
    simp [exec, execTransitTimerExpiry, onTransitExpiry, hf, Option.isSome_iff_ne_none, ht]
  refine ⟨fun l s hp => ?_, fun l s h => ?_, fun l s hp hf => ?_⟩
  · intro flag faulted
    have entered : ∀ c, faulted c (purgeTest (enterFault l c (beginEvent s))) := fun c => by
      obtain ⟨e, hl⟩ := enterFault_of_idle (s := beginEvent s) (l := l) (by simpa using hp) c
      rw [e]
      refine ⟨by simpa using hl, ?_, by simp [beginEvent], ?_, ?_, ?_⟩
      · rw [enterFault_flags]
        cases l <;> simp [flag, laneFaultCause, Cause.bit] <;> rfl
      · exact (enterFault_packets ..).trans (List.map_congr_left fun p _ => (freeze_eq p).symm)
      · simp only [enterFault_link, beginEvent_frame]
      · exact ((onlyChanges_beginEvent s).mono (by simp)).andThen (onlyChanges_enterFault _ _ _) (by simp)
    refine ⟨fun hf => ⟨_, jam l s hf, entered _⟩, fun hf ht => ⟨_, expiry l s hf ht, entered _⟩, fun hf => ?_⟩
    refine ⟨raise (laneFaultCause l) (setLaneState l (.fault .jam) (beginEvent s)), ?_, by simp [beginEvent], ?_, ?_, ?_⟩
    · simp [exec, execLaneJam, onLaneJam, hf]
    · simp [setLaneState]
    · cases l <;> simp [flag, raise, laneFaultCause, Cause.bit] <;> rfl
    · exact (((onlyChanges_beginEvent s).mono (by simp)).andThen (onlyChanges_setLane _ _ _) (by simp)).andThen
        (onlyChanges_raise _ _) (by simp)
  · refine ⟨beginEvent s, ?_, rfl, onlyChanges_beginEvent s⟩
    rcases h with h | h <;> simp [exec, execTransitTimerExpiry, onTransitExpiry, h]
  · intro emptied
    have entered : ∀ c, emptied c (purgeTest (enterFault l c (beginEvent s))) := fun c => by
      obtain ⟨x, hx⟩ := enterFault_of_purging (s := beginEvent s) hp l c
      refine ⟨by rw [hx], by rw [hx], by rw [hx], ?_, ?_⟩
      · simp only [purgeTest_frame, enterFault_flags, beginEvent_frame]
        cases l <;> rfl
      · simp only [purgeTest_frame, enterFault_packets, beginEvent_frame]
        exact List.map_congr_left fun p _ => (freeze_eq p).symm
    exact ⟨⟨_, jam l s hf, entered _⟩, fun ht => ⟨_, expiry l s hf ht, entered _⟩⟩

/-! ## Announcements that are dropped or stop the lane (R29, R143) -/

theorem ofBody_of_length {body : List Byte} (h : body.length = 9) :
    ∃ x, Announcement.ofBody body = some x ∧ x.sequence = body.getD 0 0#8 := by
  unfold Announcement.ofBody
  rw [if_pos (show body.length = DownKind.sheetAnnounce.bodyLength from h)]
  exact ⟨_, rfl, rfl⟩

theorem ofBody_of_ne {body : List Byte} (h : body.length ≠ 9) : Announcement.ofBody body = none := if_neg h

theorem outOfSequence_iff (u : LaneUnit) (x : Announcement) :
    u.outOfSequence x = true ↔ u.expected ≠ none ∧ u.expected ≠ some x.sequence := by
  unfold LaneUnit.outOfSequence
  cases u.expected with
  | none => simp
  | some q => simp [eq_comm (a := q)]

/-- The start of a frame's event leaves its link's receiver in HUNT, and the lanes as they were. -/
theorem enterFault_frameCompleted_link (l : Lane) (c : LaneCause) (s : State) :
    (enterFault l c (frameCompleted l s)).link l
      = if (s.lane l).state = .running then sentLink { s.link l with rx := .hunt } true .hold []
        else { s.link l with rx := .hunt } := by
  have hl : (frameCompleted l s).lane l = s.lane l := by simp
  rw [enterFault_link, frameCompleted_link, if_pos rfl, hl]

/-- Settles O33: each case of R29 by the branch that it takes; a lane that enters FAULT is `enterFault` on the frame's event. -/
theorem announcementsAreDroppedOrFaultTheLane : Obligations.AnnouncementsAreDroppedOrFaultTheLane := by
  intro l body s seq wrong stops enters emptied
  have hframe := onlyChanges_frameCompleted l s
  have hstops : ∀ c, stops (purgeTest (enterFault l c (frameCompleted l s))) := fun c => by
    refine ⟨?_, ?_⟩
    · simp only [purgeTest_frame, enterFault_flags, frameCompleted_frame]
      cases l <;> rfl
    · simp only [purgeTest_frame, enterFault_packets, frameCompleted_frame]
      exact List.map_congr_left fun p _ => (freeze_eq p).symm
  have hfault : ∀ c, (s.purge = .idle → enters c (purgeTest (enterFault l c (frameCompleted l s))))
      ∧ (s.purge ≠ .idle → emptied c (purgeTest (enterFault l c (frameCompleted l s)))) := fun c => by
    refine ⟨fun hp => ?_, fun hp => ?_⟩
    · obtain ⟨e, hl⟩ := enterFault_of_idle (s := frameCompleted l s) (l := l) (by simpa using hp) c
      refine ⟨hstops c, ?_⟩
      rw [e]
      refine ⟨by simpa using hl, enterFault_frameCompleted_link l c s, by simp, ?_⟩
      exact (hframe.mono (by simp)).andThen (onlyChanges_enterFault _ _ _) (by simp)
    · have hp' : (frameCompleted l s).purging = true := by
        rw [← Bool.not_eq_false, purging_eq_false_iff]
        simpa using hp
      obtain ⟨x, hx⟩ := enterFault_of_purging hp' l c
      exact ⟨hstops c, by rw [hx], by rw [hx], by rw [hx], by rw [hx]; simp⟩
  refine ⟨onSheetAnnounce l body (frameCompleted l s), rfl, fun hlen => ?_, fun hlen hf => ?_, fun hlen hf hw => ?_,
    fun hlen hf hw hroom => ?_⟩
  · rw [onSheetAnnounce, ofBody_of_ne hlen]
    refine ⟨by simp [raise, Cause.bit], by simp [frameCompleted_link], ?_⟩
    exact (hframe.mono (by simp)).andThen (onlyChanges_raise _ _) (by simp)
  all_goals
    obtain ⟨x, hx, hseq⟩ := ofBody_of_length hlen
    have hwrong : (s.lane l).outOfSequence x = true ↔ wrong := by rw [outOfSequence_iff, hseq]
    simp only [onSheetAnnounce, hx, frameCompleted_frame, hf, hwrong, if_true, Bool.false_eq_true, if_false]
  · exact ⟨by simp [frameCompleted_link], hframe⟩
  · rw [if_pos hw, endEvent_enterFault]
    exact hfault .sequence
  · rw [if_neg hw, if_pos (show Config.queueRoom ≤ _ from hroom), endEvent_enterFault]
    exact hfault .overrun

end
end Sys2Proof.Lanes

namespace Sys2Proof.Lanes

open Sys2Proof.Machine Sys2Proof.Safety Sys2Proof.ClassTable Sys2Proof.Requests Sys2Proof.Events

/-! # Verdicts (R31 to R34) and the creation of a packet (R55) -/

section
variable {x : Announcement} {s : State}

/-! ## The identity checks (R31) -/

theorem verdictOf_of_reason {r : Reason} (h : identityReason x s = some r) : verdictOf x s = (.divert r, s) := by
  simp [verdictOf, h]

theorem isNone_thickness {n : Nat} (h : ∀ i : Fin 16, i.val = n → s.tables.media[i.val] = none) :
    s.thickness n = none := by
  unfold State.thickness
  split
  · rename_i i hi
    exact h i (finOf_eq_some.mp hi).symm
  · rfl

theorem identityReason_of_passes (h : PassesIdentity x s) : identityReason x s = none := by
  obtain ⟨hp, hne, hgen, hrank, i, hi, hmedia⟩ := h
  replace hne : (s.classRec x.key.cls).state ≠ .empty := hne
  replace hgen : x.generation = (s.classRec x.key.cls).generation := hgen
  have hthick : s.thickness x.media.toNat ≠ none := by
    rw [State.thickness, finOf_eq_some.mpr hi.symm]
    exact hmedia
  have hp := (purging_eq_false_iff s).mpr hp
  have hrank : ¬(s.classRec x.key.cls).size ≤ x.key.rank := Nat.not_le.mpr hrank
  unfold identityReason
  dsimp only
  rw [if_neg (by simp [hp]), if_neg hne, if_neg (not_not.mpr hgen), if_neg hrank, if_neg (by simpa using hthick)]

/-- An announcement that passes the checks is decided by its rank (R32). -/
theorem verdictOf_of_passes (h : PassesIdentity x s) (r : RankState) : s.rankAt x.key = some r →
    verdictOf x s = match r with
      | .excused => (.divert .rankExcused, s)
      | .missed => (.divert .rankClosed, s)
      | .held => (.divert .rankDone, s)
      | .released => (.divert .rankDone, s)
      | .relieved => (.divert .rankDone, s)
      | .delivered => (.divert .rankDone, s)
      | .opened => (openVerdict x s, s)
      | .waiting => waitingVerdict x s := by
  intro hr
  rw [verdictOf, identityReason_of_passes h, hr]
  cases r <;> rfl

/-! ## The count and index checks (R33, R34) -/

theorem shapeReason_count {n : Nat} (h : x.count.toNat ≠ n) : shapeReason x n = some .countMismatch := if_pos h

theorem shapeReason_index {n : Nat} (h : x.count.toNat = n) (hi : x.index.toNat < 1 ∨ n < x.index.toNat) :
    shapeReason x n = some .badIndex := by
  rw [shapeReason, if_neg (not_not.mpr h), if_pos hi]

theorem shapeReason_none {n : Nat} (h : x.count.toNat = n) (h1 : 1 ≤ x.index.toNat) (h2 : x.index.toNat ≤ n) :
    shapeReason x n = none := by
  rw [shapeReason, if_neg (not_not.mpr h), if_neg (by omega)]

theorem openVerdict_of_reason {p : Packet} {r : Reason} (hp : s.packet x.key = some p)
    (h : shapeReason x p.snapshot.sheetCount = some r) : openVerdict x s = .divert r := by simp [openVerdict, hp, h]

theorem openVerdict_of_place {p : Packet} {n : Fin 24} (hp : s.packet x.key = some p)
    (h : shapeReason x p.snapshot.sheetCount = none) (hn : p.slot = some n) : openVerdict x s = .place n := by
  simp [openVerdict, hp, h, hn]

/-- Settles O35: the checks by the branches of `identityReason`, the rank by `verdictOf_of_passes`. -/
theorem verdictFollowsTheChecksAndTheRank : Obligations.VerdictFollowsTheChecksAndTheRank := by
  refine ⟨fun x s => ?_, fun x s hpass => ?_⟩
  · intro r diverts noMedia
    refine ⟨fun hp => ?_, fun hp hr => ?_, fun hp hr hg => ?_, fun hp hr hg hsz => ?_, fun hp hr hg hsz hm => ?_⟩ <;>
      refine verdictOf_of_reason ?_ <;> unfold identityReason <;> dsimp only
    · rw [if_pos hp]
    all_goals rw [if_neg (by simp [hp])]
    · have he : (s.classRec x.key.cls).state = .empty := by
        rcases hr with hle | he
        · simp [Announcement.key, State.classRec, finOf_of_le hle, ClassRec.emptyWith]
        · exact he
      rw [if_pos he]
    all_goals rw [if_neg (show ¬(s.classRec x.key.cls).state = .empty from hr)]
    · rw [if_pos (show x.generation ≠ (s.classRec x.key.cls).generation from hg)]
    all_goals rw [if_neg (not_not.mpr (show x.generation = (s.classRec x.key.cls).generation from hg))]
    · rw [if_pos (show (s.classRec x.key.cls).size ≤ x.key.rank from hsz)]
    · rw [if_neg (show ¬(s.classRec x.key.cls).size ≤ x.key.rank from Nat.not_le.mpr hsz), isNone_thickness hm]
      rfl
  · intro k gives
    have decided := verdictOf_of_passes hpass
    refine ⟨decided .excused, decided .missed, ?_, fun p n hr hp hn => ?_⟩
    · rintro (h | h | h | h) <;> exact decided _ h
    · have opened : ∀ {y}, openVerdict x s = y → verdictOf x s = (y, s) := fun h => (decided _ hr).trans (congrArg (·, s) h)
      have hp : s.packet x.key = some p := hp
      exact ⟨fun hc => opened (openVerdict_of_reason hp (shapeReason_count hc)),
        fun hc hi => opened (openVerdict_of_reason hp (shapeReason_index hc hi)),
        fun hc h1 h2 => opened (openVerdict_of_place hp (shapeReason_none hc h1 h2) hn)⟩

/-! ## The done condition and a packet at work (R8) -/

/-- A class that has a packet is not done (R8). -/
theorem doneCheck_of_packet {c : Nat} {p : Packet} (hp : p ∈ s.packets) (hc : p.key.cls = c) : doneCheck c s = s := by
  have hany : s.packets.any (fun p => p.key.cls = c) = true := List.any_eq_true.mpr ⟨p, hp, by simpa using hc⟩
  simp [doneCheck, State.doneCondition, hany]

/-- Where the cursor rests and the class has a packet, the Return Order Unit has nothing to do (R78). -/
theorem orderStep_of_atRest {c : Nat} {p : Packet} (hs : ClassShape (s.classRec c)) (hr : AtRest (s.classRec c))
    (hp : p ∈ s.packets) (hc : p.key.cls = c) : orderStep c s = s := by
  rw [orderStep, cursorAdvance_of_atRest hs hr, doneCheck_of_packet hp hc]

/-! ## Creation (R50, R55) -/

/-- A rank without a packet in the tower's law (R51): none of the states that go with a packet. -/
theorem packet_eq_none_of_waiting (h : TowerKept s) {k : Key} (hw : s.rankAt k = some .waiting) : s.packet k = none := by
  cases hp : s.packet k with
  | none => rfl
  | some p =>
    obtain ⟨hmem, rfl⟩ := mem_of_packet hp
    have hfit := (h.packets p hmem).rank
    rw [hw] at hfit
    cases hs : p.state <;> simp [hs, PacketState.fitsRank] at hfit

theorem classRec_activate (c : Nat) (s : State) (d : Nat) :
    (activate c s).classRec d
      = if d = c ∧ (s.classRec c).state = .loaded then { s.classRec c with state := .active } else s.classRec d := by
  unfold activate
  by_cases h : (s.classRec c).state = .loaded
  · have hc : c < 48 := lt_of_state_ne_empty (by rw [h]; decide)
    simp [h, classRec_setClassState, hc]
  · simp [h]

theorem rankAt_activate (c : Nat) (s : State) (k : Key) : (activate c s).rankAt k = s.rankAt k := by
  rw [State.rankAt, classRec_activate]
  split
  · rename_i h
    rw [State.rankAt, h.1]
    rfl
  · rfl

/-- One change after another, of the parts of both. -/
theorem OnlyChanges.append {t u : State} {ps qs : List Part} (h : OnlyChanges ps s t) (h' : OnlyChanges qs t u) :
    OnlyChanges (ps ++ qs) s u :=
  (h.mono (List.subset_append_left ps qs)).andThen h' (List.subset_append_right ps qs)

theorem onlyChanges_activate (c : Nat) (s : State) : OnlyChanges [.classes] s (activate c s) := by
  rw [activate]
  split
  · exact onlyChanges_setClassRec c _ s
  · exact .refl _ s

theorem onlyChanges_setRank (k : Key) (x : RankState) (s : State) : OnlyChanges [.classes] s (setRank k x s) :=
  onlyChanges_setClassRec k.cls _ s

theorem onlyChanges_setSlots (v : Vector Slot 24) (s : State) : OnlyChanges [.slots] s (s.setSlots v) := by
  intro p hp
  cases p <;> simp [Part.Same] at hp ⊢

theorem onlyChanges_setUnplaced (v : List Waiting) (s : State) : OnlyChanges [.unplaced] s (s.setUnplaced v) := by
  intro p hp
  cases p <;> simp [Part.Same] at hp ⊢

/-- The state after a creation, where nothing follows of it: the four parts of R55. -/
def created (k : Key) (n : Fin 24) (a : Assignment) (tag : BitVec 16) (s : State) : State :=
  activate k.cls (setRank k .opened (setSlot n (.occupied .collecting false k)
    (addPacket (newPacket k (s.classRec k.cls).generation n a tag) s)))

theorem classRec_created (k : Key) (n : Fin 24) (a : Assignment) (tag : BitVec 16) (s : State) (hc : k.cls < 48) (d : Nat) :
    (created k n a tag s).classRec d
      = if d = k.cls then
          { (s.classRec k.cls).withRank k.rank .opened with
            state := if (s.classRec k.cls).state = .loaded then .active else (s.classRec k.cls).state }
        else s.classRec d := by
  have hrec : ∀ d, (setSlot n (.occupied .collecting false k)
      (addPacket (newPacket k (s.classRec k.cls).generation n a tag) s)).classRec d = s.classRec d := classRec_congr (by simp)
  rw [created, classRec_activate, classRec_setRank, classRec_setRank]
  by_cases hd : d = k.cls
  · subst hd
    by_cases hl : (s.classRec k.cls).state = .loaded <;> simp [hc, hrec, hl, ClassRec.withRank]
  · simp [hd, hrec]

/-- A rank that waits gets its packet, and the cursor of its class stays at rest (R55, R78). -/
theorem createPacket_eq_created (hk : ClassesKept s) {k : Key} (hw : s.rankAt k = some .waiting) (n : Fin 24) (a : Assignment)
    (tag : BitVec 16) : createPacket k n a tag s = created k n a tag s := by
  have hc := lt_of_rankAt hw
  obtain ⟨hshape, hrest⟩ := (classKept_iff _).mp (hk k.cls)
  have hrec := classRec_created k n a tag s hc k.cls
  rw [if_pos rfl] at hrec
  have hkept : ClassShape ((created k n a tag s).classRec k.cls) ∧ AtRest ((created k n a tag s).classRec k.cls) := by
    have hr : AtRest ((s.classRec k.cls).withRank k.rank .opened) := hrest.withRank (.inr (.inr rfl))
    have hs : ClassShape ((s.classRec k.cls).withRank k.rank .opened) := hshape.withRank (.inr (by decide))
    rw [hrec]
    refine ⟨?_, hr⟩
    have hne : (s.classRec k.cls).state ≠ .empty := fun he => by
      have : (s.classRec k.cls).body = none := hshape.1.mp he
      simp [State.rankAt, ClassRec.rankAt, this] at hw
    obtain ⟨h1, h2, h3, h4, h5⟩ := hs
    have he : ((if (s.classRec k.cls).state = .loaded then ClassState.active else (s.classRec k.cls).state) = .empty)
        ↔ (s.classRec k.cls).state = .empty := by
      split <;> simp_all
    exact ⟨he.trans h1, h2, fun e => h3 (he.mp e), h4, h5⟩
  refine orderStep_of_atRest (p := newPacket k (s.classRec k.cls).generation n a tag) hkept.1 hkept.2 ?_ rfl
  simp [addPacket, mem_insertByKey]

theorem onlyChanges_created (k : Key) (n : Fin 24) (a : Assignment) (tag : BitVec 16) (s : State) :
    OnlyChanges [.classes, .packets, .slots] s (created k n a tag s) :=
  (OnlyChanges.append (OnlyChanges.append (onlyChanges_setPackets _ s) (onlyChanges_setSlots _ _))
    (OnlyChanges.append (onlyChanges_setRank k .opened _) (onlyChanges_activate k.cls _))).mono (by decide)

theorem packet_created {k : Key} (h : s.packet k = none) (n : Fin 24) (a : Assignment) (tag : BitVec 16) (j : Key) :
    (created k n a tag s).packet j
      = if j = k then some (newPacket k (s.classRec k.cls).generation n a tag) else s.packet j := by
  have e : (created k n a tag s).packet j = (addPacket (newPacket k (s.classRec k.cls).generation n a tag) s).packet j := by
    simp [State.packet, created]
  rw [e, packet_addPacket _ _ _ h]
  rfl

theorem slot_created (k : Key) (n : Fin 24) (a : Assignment) (tag : BitVec 16) (s : State) (m : Fin 24) :
    (created k n a tag s).slot m = if m = n then .occupied .collecting false k else s.slot m := by
  have e : (created k n a tag s).slot m = (setSlot n (.occupied .collecting false k)
      (addPacket (newPacket k (s.classRec k.cls).generation n a tag) s)).slot m := by
    simp [State.slot, created]
  rw [e, slot_setSlot]
  simp [State.slot]

theorem rankAt_created {k : Key} (h : (s.rankAt k).isSome = true) (n : Fin 24) (a : Assignment) (tag : BitVec 16) (j : Key) :
    (created k n a tag s).rankAt j = if j = k then some .opened else s.rankAt j := by
  have e : ∀ j, (setSlot n (.occupied .collecting false k)
      (addPacket (newPacket k (s.classRec k.cls).generation n a tag) s)).rankAt j = s.rankAt j := rankAt_congr (by simp)
  rw [created, rankAt_activate, rankAt_setRank]
  simp [e, h]

/-! ## A WAITING rank (R34, R54, R56) -/

theorem lowestFree_eq_some {n : Fin 24} (h : s.slot n = .free) (hlow : ∀ m, m < n → s.slot m ≠ .free) :
    s.lowestFree = some n := by
  unfold State.lowestFree
  rw [List.find?_eq_some_iff_getElem]
  refine ⟨by simp [State.isFree, h], n.val, by simp, by simp, fun j hj => ?_⟩
  simpa [State.isFree] using hlow ⟨j, by omega⟩ (by simpa [Fin.lt_def] using hj)

/-- Settles O36: the verdict by the branches of `waitingVerdict`, the creation by the fields of `created`. -/
theorem waitingRankAsksForASlot : Obligations.WaitingRankAsksForASlot := by
  refine ⟨fun x s hpass => ?_, fun k n a tag s ht hk hw hstate => ?_⟩
  · intro k hw
    have hv : verdictOf x s = waitingVerdict x s := verdictOf_of_passes hpass _ hw
    refine ⟨fun ha => ?_, fun a ha => ⟨fun hc => ?_, fun hc hi => ?_, fun hc h1 h2 => ?_⟩⟩
    · rw [hv, waitingVerdict, show s.assignmentOf x.key.cls = none from ha]
    all_goals
      have hwait : verdictOf x s = _ := hv.trans (by rw [waitingVerdict, show s.assignmentOf x.key.cls = some a from ha])
      rw [hwait]
      dsimp only
    · rw [shapeReason_count hc]
    · rw [shapeReason_index hc hi]
    · rw [shapeReason_none hc h1 h2]
      refine ⟨fun hu => ?_, fun hu n hn hlow => ?_, fun hu hfull => ?_⟩ <;> replace hu : s.isUnplaced x.key = _ := hu <;>
        simp only [hu, if_true, Bool.false_eq_true, if_false]
      · rw [lowestFree_eq_some hn hlow]
        rfl
      · rw [lowestFree_eq_none.mpr hfull]
        have hrec : ∀ d, (s.setUnplaced (s.unplaced ++ [{ key := x.key, jobTag := x.jobTag }])).classRec d = s.classRec d :=
          classRec_congr (by simp)
        refine ⟨_, rfl, by simp; rfl, fun d hd => ?_, ?_, ?_⟩
        · rw [classRec_activate, if_neg (fun e => hd e.1), hrec]
        · rw [classRec_activate, hrec]
          by_cases hl : (s.classRec k.cls).state = .loaded
          · rw [if_pos ⟨rfl, hl⟩, if_pos hl]
            rfl
          · rw [if_neg (fun e => hl e.2), if_neg hl, hrec]
        · exact (OnlyChanges.append (onlyChanges_setUnplaced _ s) (onlyChanges_activate _ _)).mono (by decide)
  · intro t
    have hc := lt_of_rankAt hw
    have hrec := classRec_created k n a tag s hc k.cls
    rw [if_pos rfl] at hrec
    have e : t = created k n a tag s := createPacket_eq_created hk hw n a tag
    rw [e]
    have hnone := packet_eq_none_of_waiting ht hw
    have hsome : (s.rankAt k).isSome = true := by rw [hw]; rfl
    refine ⟨by rw [packet_created hnone, if_pos rfl]; rfl, fun j hj => by rw [packet_created hnone, if_neg hj],
      by rw [slot_created, if_pos rfl], fun m hm => by rw [slot_created, if_neg hm], by rw [rankAt_created hsome, if_pos rfl],
      fun j hj => by rw [rankAt_created hsome, if_neg hj], ?_, by rw [hrec]; rfl, onlyChanges_created k n a tag s⟩
    rw [hrec]
    rcases hstate with h | h <;> simp [h]

end
end Sys2Proof.Lanes

namespace Sys2Proof.Lanes

open Sys2Proof.Machine Sys2Proof.Safety Sys2Proof.ClassTable Sys2Proof.Requests Sys2Proof.Events

/-! # A sheet that is diverted (R42, R138) -/

section
variable {s t u : State} {l m : Lane}

/-! ## Hold conditions that hold (R44) -/

/-- A lane that a hold condition in force holds: RUNNING becomes HELD, and any other state stays (R44). -/
def LaneUnit.held (u : LaneUnit) : LaneUnit := if u.state = .running then { u with state := .held } else u

@[simp] theorem held_queue (u : LaneUnit) : (LaneUnit.held u).queue = u.queue := by
  unfold LaneUnit.held
  split <;> rfl

@[simp] theorem held_inFault (u : LaneUnit) : (LaneUnit.held u).inFault = u.inFault := by
  unfold LaneUnit.held
  split
  · rename_i h
    simp [LaneUnit.inFault, h]
  · rfl

@[simp] theorem held_transit (u : LaneUnit) : (LaneUnit.held u).transit = u.transit := by
  unfold LaneUnit.held
  split <;> rfl

theorem held_of_fault {u : LaneUnit} (h : u.inFault = true) : LaneUnit.held u = u :=
  if_neg (fun e => by simp [LaneUnit.inFault, e] at h)

/-- The link of a lane that a hold condition in force holds: a Hold where the lane was RUNNING (R44). -/
def heldLink (u : LaneUnit) (k : Link) (attention : Bool) : Link :=
  if u.state = .running then sentLink k attention .hold [] else k

theorem evalHold_of_condition (h : s.holdCondition l = true) (m : Lane) :
    (evalHold l s).lane m = (if m = l then LaneUnit.held (s.lane m) else s.lane m)
      ∧ (evalHold l s).link m = (if m = l then heldLink (s.lane m) (s.link m) s.attention else s.link m) := by
  obtain ⟨e, hcase⟩ | ⟨hs, -, e⟩ | ⟨-, hc, -⟩ := evalHold_cases l s
  · have hne : (s.lane l).state ≠ .running := by
      rcases hcase with hf | ⟨-, hc⟩ | ⟨hs, -⟩
      · exact fun he => by simp [LaneUnit.inFault, he] at hf
      · simp [h] at hc
      · simp [hs]
    rw [e]
    refine ⟨?_, ?_⟩ <;> split <;> simp_all [LaneUnit.held, heldLink]
  · have ha : (setLaneState l .held s).attention = s.attention := attention_congr (by simp)
    rw [e]
    refine ⟨?_, ?_⟩
    · by_cases hm : m = l <;> simp [setLaneState, LaneUnit.held, hm, hs]
    · rw [sendUnsolicited_link, ha]
      by_cases hm : m = l <;> simp [heldLink, hm, hs]
  · rw [h] at hc
    cases hc

/-- Both lanes evaluated with a hold condition in force on each. -/
theorem evalHolds_of_condition (h : ∀ m, s.holdCondition m = true) (m : Lane) :
    (evalHolds s).lane m = LaneUnit.held (s.lane m) ∧ (evalHolds s).link m = heldLink (s.lane m) (s.link m) s.attention := by
  obtain ⟨hla, hka⟩ := evalHold_of_condition (h .a) m
  obtain ⟨hlb, hkb⟩ := evalHold_of_condition (s := evalHold .a s) (l := .b) (by rw [evalHold_holdCondition, h]) m
  have ha : (evalHold .a s).attention = s.attention := attention_congr (by simp)
  rw [evalHolds, hlb, hkb, hla, hka, ha]
  cases m <;> simp

/-- At the tray threshold every lane has a hold condition in force (R44, R138). -/
theorem holdCondition_of_tray (h : s.trayThreshold ≤ s.tray) (m : Lane) : s.holdCondition m = true := by
  simp [State.holdCondition, h]

/-! ## The exception tray count (R138) -/

/-- One sheet more brings the tray count to its threshold. -/
abbrev TrayFills (s : State) : Prop := s.tray < s.trayThreshold ∧ s.trayThreshold ≤ s.tray + 1

theorem addTray_tray (n : Nat) (s : State) : (addTray n s).tray = s.tray + n := by
  unfold addTray
  dsimp only
  (repeat' split) <;> simp

theorem addTray_flags (n : Nat) (s : State) :
    (addTray n s).flags = if s.trayThreshold ≤ s.tray + n then s.flags ||| BitVec.twoPow 12 3 else s.flags := by
  unfold addTray
  by_cases h : s.trayThreshold ≤ s.tray + n <;> by_cases h' : s.trayThreshold ≤ s.tray <;> simp [h, h', raise, Cause.bit]

theorem addTray_lanes (s : State) (m : Lane) :
    (addTray 1 s).lane m = (if TrayFills s then LaneUnit.held (s.lane m) else s.lane m)
      ∧ (addTray 1 s).link m = (if TrayFills s then heldLink (s.lane m) (s.link m) true else s.link m) := by
  have hraise : (raise .exceptionTrayFull (s.setTray (s.tray + 1))).trayThreshold = s.trayThreshold := by
    simp [State.trayThreshold]
  have e : addTray 1 s = if s.trayThreshold ≤ s.tray + 1 then
      if s.trayThreshold ≤ s.tray then raise .exceptionTrayFull (s.setTray (s.tray + 1))
      else evalHolds (raise .exceptionTrayFull (s.setTray (s.tray + 1)))
    else s.setTray (s.tray + 1) := rfl
  rw [e]
  by_cases h : s.trayThreshold ≤ s.tray + 1
  · by_cases h' : s.trayThreshold ≤ s.tray
    · simp [h, h', Nat.not_lt.mpr h']
    · obtain ⟨hl, hk⟩ := evalHolds_of_condition (s := raise .exceptionTrayFull (s.setTray (s.tray + 1)))
        (holdCondition_of_tray (by simpa [hraise] using h)) m
      rw [if_pos h, if_neg h', if_pos ⟨Nat.not_le.mp h', h⟩, if_pos ⟨Nat.not_le.mp h', h⟩, hl, hk, attention_raise]
      simp
  · rw [if_neg h, if_neg (fun e => h e.2), if_neg (fun e => h e.2)]
    simp

/-! ## The divert (R42, R160) -/

theorem attention_eq (s : State) : s.attention = (s.flags != 0#12) := by
  rw [State.attention, bne, beq_eq_decide, decide_not]

/-- The flags of a divert but for SHEET_DIVERTED, which comes after the report (R42). -/
def divertFlags (s : State) : BitVec 12 := if s.trayThreshold ≤ s.tray + 1 then s.flags ||| BitVec.twoPow 12 3 else s.flags

theorem divertFlags_of_room (h : s.tray + 1 < s.trayThreshold) : divertFlags s = s.flags := if_neg (Nat.not_le.mpr h)

theorem divertSheet_counts (l : Lane) (r : Reason) (e : Option Entry) (s : State) :
    (divertSheet l r e s).tray = s.tray + 1 ∧ (divertSheet l r e s).actions = s.actions ++ [.divertGate l true]
      ∧ (divertSheet l r e s).flags = divertFlags s ||| BitVec.twoPow 12 9 := by
  have ht : (act (.divertGate l true) s).trayThreshold = s.trayThreshold := by simp [State.trayThreshold]
  refine ⟨by simp [divertSheet, addTray_tray], by simp [divertSheet, act], ?_⟩
  simp [divertSheet, raise, addTray_flags, ht, divertFlags, Cause.bit]

/-- The lanes and links of a divert: the Hold frames of a tray count that reaches its threshold, then the Sheet Exception. -/
theorem divertSheet_lanes (l : Lane) (r : Reason) (e : Option Entry) (s : State) (m : Lane) :
    let link := if TrayFills s then heldLink (s.lane m) (s.link m) true else s.link m
    (divertSheet l r e s).lane m = (if TrayFills s then LaneUnit.held (s.lane m) else s.lane m)
      ∧ (divertSheet l r e s).link m = if m = s.settings.reportLane then
          sentLink link (divertFlags s != 0#12) .sheetException (sheetExceptionBody l r s.stamp e) else link := by
  intro link
  have hfills : TrayFills (act (.divertGate l true) s) = TrayFills s := by simp [TrayFills, State.trayThreshold]
  obtain ⟨hl, hk⟩ := addTray_lanes (act (.divertGate l true) s) m
  have hatt : (addTray 1 (act (.divertGate l true) s)).attention = (divertFlags s != 0#12) := by
    rw [attention_eq, addTray_flags]
    simp [divertFlags, State.trayThreshold]
  simp only [hfills, act_frame] at hl hk
  refine ⟨by simp [divertSheet, hl], ?_⟩
  simp only [divertSheet, raise_frame, sendReport, sendUnsolicited_link, hatt, addTray_frame, act_frame]
  split
  · rename_i hm
    subst hm
    rw [hk]
  · exact hk

theorem onlyChanges_divertSheet (l : Lane) (r : Reason) (e : Option Entry) (s : State) :
    OnlyChanges [.tray, .flags, .laneA, .laneB, .linkA, .linkB, .actions] s (divertSheet l r e s) := by
  intro p hp
  cases p <;> simp [Part.Same] at hp ⊢

/-- Below the tray threshold only the report lane's link is written (R138, R150). -/
theorem onlyChanges_divertSheet_of_room (h : s.tray + 1 < s.trayThreshold) (l : Lane) (r : Reason) (e : Option Entry) :
    OnlyChanges [.tray, .flags, Part.link s.settings.reportLane, .actions] s (divertSheet l r e s) := by
  have hfills : ¬TrayFills s := fun f => absurd f.2 (Nat.not_le.mpr h)
  have hlane : ∀ m, (divertSheet l r e s).lane m = s.lane m := fun m => by rw [(divertSheet_lanes l r e s m).1, if_neg hfills]
  have hlink : ∀ m, m ≠ s.settings.reportLane → (divertSheet l r e s).link m = s.link m := fun m hm => by
    rw [(divertSheet_lanes l r e s m).2, if_neg hm, if_neg hfills]
  intro p hp
  by_cases hlanes : p ∈ [Part.laneA, .laneB, .linkA, .linkB]
  · cases p <;> simp at hlanes
    · exact hlane .a
    · exact hlane .b
    · exact hlink .a (fun e => hp (by rw [← e]; simp [Part.link]))
    · exact hlink .b (fun e => hp (by rw [← e]; simp [Part.link]))
  · refine onlyChanges_divertSheet l r e s p fun hm => ?_
    cases p <;> simp at hm hp hlanes

theorem laneCode_eq (l : Lane) : laneCode l = match l with | .a => 0#8 | .b => 1#8 := by cases l <;> rfl

theorem be8_code (r : Reason) : be8 r.code = [reasonByte r] := by cases r <;> rfl

/-! ## An arrival without an entry (R28, R38) -/

/-- The state in which an arrival is matched: the stamp counts it, and nothing has been started yet (R28). -/
def stamped (s : State) : State := (beginEvent s).setStamp (s.stamp + 1#32)

@[simp] theorem stamped_frame (s : State) :
    (stamped s).now = s.now ∧ (stamped s).tables = s.tables ∧ (stamped s).settings = s.settings
      ∧ (stamped s).pending = s.pending ∧ (stamped s).bins = s.bins ∧ (stamped s).fin = s.fin
      ∧ (stamped s).queued = s.queued ∧ (stamped s).held = s.held ∧ (stamped s).unplaced = s.unplaced
      ∧ (stamped s).packets = s.packets ∧ (stamped s).slots = s.slots ∧ (stamped s).classes = s.classes
      ∧ (stamped s).tray = s.tray ∧ (stamped s).flags = s.flags ∧ (stamped s).purge = s.purge
      ∧ (∀ m, (stamped s).lane m = s.lane m) ∧ (∀ m, (stamped s).link m = s.link m)
      ∧ (stamped s).stamp = s.stamp + 1#32 ∧ (stamped s).actions = [] := by
  simp [stamped, beginEvent]

theorem stamped_lane (s : State) (m : Lane) : (stamped s).lane m = s.lane m := by simp

theorem stamped_trayRoom (h : s.tray + 1 < s.settings.exceptionCapacity - 12) :
    (stamped s).tray + 1 < (stamped s).trayThreshold := by
  simpa [State.trayThreshold, Config.trayMargin] using h

theorem onlyChanges_stamped (s : State) : OnlyChanges [.actions, .stamp] s (stamped s) :=
  OnlyChanges.append (onlyChanges_beginEvent s) (onlyChanges_setStamp _ _)

/-- An arrival that pops no entry is diverted at once (R38). -/
theorem exec_laneEntry_unmatched (h : (s.lane l).inFault = true ∨ (s.lane l).queue = []) :
    exec (.laneEntry l) s
      = .next (divertSheet l (if (s.lane l).inFault then .laneFault else .unannounced) none (stamped s)) := by
  have hl : (stamped s).lane l = s.lane l := by simp
  have e : exec (.laneEntry l) s = .next (onLaneEntry l (beginEvent s)) := rfl
  rw [e, onLaneEntry]
  change Host.Outcome.next (if ((stamped s).lane l).inFault then _ else _) = _
  rw [hl]
  cases hf : (s.lane l).inFault
  · have hq : (s.lane l).queue = [] := by simpa [hf] using h
    simp [hq]
    rfl
  · rfl

/-- Settles O37: the arrival is one divert on the stamped state. -/
theorem unmatchedArrivalIsDiverted : Obligations.UnmatchedArrivalIsDiverted := by
  intro l s h
  obtain ⟨htray, hact, hflags⟩ := divertSheet_counts l (if (s.lane l).inFault then .laneFault else .unannounced) none (stamped s)
  have hlanes := divertSheet_lanes l (if (s.lane l).inFault then .laneFault else .unannounced) none (stamped s)
  refine ⟨_, exec_laneEntry_unmatched h, by simp, by rw [htray]; simp, by rw [hact]; simp, ?_, fun m => ?_, fun hf => ?_, ?_,
    fun hroom => ⟨?_, ?_, ?_⟩⟩
  · simp [State.isPending, hflags, Cause.bit]
  · rw [(hlanes m).1]
    split <;> simp
  · have hl : (stamped s).lane l = s.lane l := by simp
    rw [(hlanes l).1, hl, held_of_fault hf, ite_self]
  · exact (OnlyChanges.append (onlyChanges_stamped s) (onlyChanges_divertSheet l _ none _)).mono (by simp)
  all_goals replace hroom := stamped_trayRoom hroom
  · have hfills : ¬TrayFills (stamped s) := fun f => absurd f.2 (Nat.not_le.mpr hroom)
    have hset : (stamped s).settings.reportLane = s.settings.reportLane := by simp
    rw [(hlanes _).2, hset, if_pos rfl, if_neg hfills, divertFlags_of_room hroom, ← attention_eq]
    have hatt : (stamped s).attention = s.attention := attention_congr (by simp)
    simp only [hatt, stamped_frame, sheetExceptionBody, be8_code, laneCode_eq]
    cases (s.lane l).inFault <;> rfl
  · rw [hflags, divertFlags_of_room hroom]
    simp
  · have hset : (stamped s).settings.reportLane = s.settings.reportLane := by simp
    have := onlyChanges_divertSheet_of_room hroom l (if (s.lane l).inFault then .laneFault else .unannounced) none
    rw [hset] at this
    exact (OnlyChanges.append (onlyChanges_stamped s) this).mono (by simp)

end
end Sys2Proof.Lanes

namespace Sys2Proof.Lanes

open Sys2Proof.Machine Sys2Proof.Safety Sys2Proof.ClassTable Sys2Proof.Requests Sys2Proof.Events

/-! # An arrival that pops its queue head (R38) -/

section
variable {s t u : State} {l m : Lane} {e : Entry} {rest : List Entry}

/-! ## The pop -/

/-- The state once an arrival has popped its head, before the popped entry decides the sheet (R38, R44). -/
def popped (l : Lane) (rest : List Entry) (s : State) : State := evalHold l (retime l (setQueue l rest (stamped s)))

@[simp] theorem popped_frame (l : Lane) (rest : List Entry) (s : State) :
    (popped l rest s).now = s.now ∧ (popped l rest s).tables = s.tables ∧ (popped l rest s).settings = s.settings
      ∧ (popped l rest s).pending = s.pending ∧ (popped l rest s).bins = s.bins ∧ (popped l rest s).fin = s.fin
      ∧ (popped l rest s).queued = s.queued ∧ (popped l rest s).held = s.held ∧ (popped l rest s).unplaced = s.unplaced
      ∧ (popped l rest s).packets = s.packets ∧ (popped l rest s).slots = s.slots
      ∧ (popped l rest s).classes = s.classes ∧ (popped l rest s).tray = s.tray ∧ (popped l rest s).flags = s.flags
      ∧ (popped l rest s).purge = s.purge ∧ (popped l rest s).stamp = s.stamp + 1#32
      ∧ (popped l rest s).actions = [] := by
  simp [popped]

/-- An evaluation leaves a lane that its hold conditions settle (R44). -/
theorem evalHold_of_settled (h : LaneSettled s l) : evalHold l s = s := by
  obtain ⟨e, -⟩ | ⟨hs, hc, -⟩ | ⟨hs, hc, -⟩ := evalHold_cases l s
  · exact e
  · rw [h.1 hs] at hc
    cases hc
  · rw [h.2 hs] at hc
    cases hc

theorem evalHold_of_releases (hs : (s.lane l).state = .held) (hc : s.holdCondition l = false) :
    evalHold l s = sendUnsolicited l .release [] (setLaneState l .running s) := by simp [evalHold, hs, hc]

theorem onlyChanges_evalHold (l : Lane) (s : State) : OnlyChanges [Part.lane l, Part.link l] s (evalHold l s) := by
  obtain ⟨e, -⟩ | ⟨-, -, e⟩ | ⟨-, -, e⟩ := evalHold_cases l s <;> rw [e]
  · exact (OnlyChanges.refl _ s)
  all_goals exact OnlyChanges.append (onlyChanges_setLane l _ s) (onlyChanges_sendUnsolicited l _ [] _)

theorem onlyChanges_popped (l : Lane) (rest : List Entry) (s : State) :
    OnlyChanges [.actions, .stamp, Part.lane l, Part.link l] s (popped l rest s) :=
  (OnlyChanges.append (onlyChanges_stamped s) (OnlyChanges.append (onlyChanges_setLane l _ _)
    (OnlyChanges.append (onlyChanges_setLane l _ _) (onlyChanges_evalHold l _)))).mono (by simp)

/-- The popped lane but for its state, which its hold conditions decide (R36, R38). -/
theorem popped_lane (hf : (s.lane l).inFault = false) (rest : List Entry) :
    ∃ x, (popped l rest s).lane l
        = { s.lane l with queue := rest, transit := rest.head?.map Entry.deadline, state := x }
      ∧ ((popped l rest s).lane l).inFault = false := by
  obtain ⟨x, hx, hfault, -⟩ := evalHold_lane l l (retime l (setQueue l rest (stamped s)))
  refine ⟨x, ?_, ?_⟩
  · rw [popped, hx, retime_lane, if_pos rfl, setQueue_lane, if_pos rfl, stamped_lane]
    have : ({ s.lane l with queue := rest } : LaneUnit).inFault = false := hf
    simp [this]
  · rw [popped, hfault, retime_lane, if_pos rfl, setQueue_lane, if_pos rfl, stamped_lane]
    exact hf

theorem popped_lane_of_ne (h : m ≠ l) (rest : List Entry) (s : State) : (popped l rest s).lane m = s.lane m := by
  rw [popped, evalHold_lane_of_ne h, retime_lane, if_neg h, setQueue_lane, if_neg h, stamped_lane]

theorem holdCondition_eq_false_iff (s : State) (l : Lane) :
    s.holdCondition l = false ↔ (s.lane l).queue.length < 6 ∧ (∀ d ∈ (s.lane l).queue, d.verdict ≠ .unplaced)
      ∧ s.tray < s.settings.exceptionCapacity - 12 ∧ s.purge = .idle ∧ (s.lane l).inFault = false := by
  simp only [State.holdCondition, Bool.or_eq_false_iff, decide_eq_false_iff_not, Nat.not_le, purging_eq_false_iff,
    List.any_eq_false, decide_eq_true_eq, and_assoc, ne_eq]
  rfl

/-- In a state that settles its holds, the pop leaves a RUNNING lane RUNNING, and releases a HELD one whose last condition it
ends (R38, R44). -/
theorem popped_lanes (hf : (s.lane l).inFault = false) (hset : HoldsSettled s) (hq : (s.lane l).queue = e :: rest) (m : Lane) :
    (popped l rest s).lane m = (if m = l then poppedLane l rest s else s.lane m)
      ∧ (popped l rest s).link m = poppedLink l rest s m := by
  by_cases hm : m = l
  · subst hm
    have hbefore : (retime m (setQueue m rest (stamped s))).lane m
        = { s.lane m with queue := rest, transit := rest.head?.map Entry.deadline } := by
      have : ({ s.lane m with queue := rest } : LaneUnit).inFault = false := hf
      simp [retime_lane, setQueue_lane, this]
    have hcond := holdCondition_eq_false_iff (retime m (setQueue m rest (stamped s))) m
    rw [hbefore] at hcond
    simp only [retime_frame, setQueue_frame, stamped_frame] at hcond
    rw [if_pos rfl, popped, poppedLane, poppedLink]
    rcases (inFault_eq_false_iff _).mp hf with hs | hs
    · have hcalm := (holdCondition_eq_false_iff s m).mp ((hset m).1 hs)
      rw [hq] at hcalm
      obtain ⟨hlen, hun, hrest⟩ := hcalm
      have hc := hcond.mpr ⟨by simp at hlen; omega, fun d hd => hun d (List.mem_cons_of_mem _ hd), hrest⟩
      rw [evalHold_of_settled ⟨fun _ => hc, fun h => by simp [hbefore, hs] at h⟩, hbefore]
      simp [PopReleases, hs]
    · have hreleases : PopReleases m rest s ↔ (retime m (setQueue m rest (stamped s))).holdCondition m = false := by
        rw [hcond]
        simp only [PopReleases, hs, true_and]
        exact ⟨fun ⟨h1, h2, h3, h4⟩ => ⟨h1, h2, h3, h4, rfl⟩, fun ⟨h1, h2, h3, h4, _⟩ => ⟨h1, h2, h3, h4⟩⟩
      by_cases hr : PopReleases m rest s
      · have ha : (setLaneState m .running (retime m (setQueue m rest (stamped s)))).attention = s.attention :=
          attention_congr (by simp)
        rw [evalHold_of_releases (by simp [hbefore, hs]) (hreleases.mp hr), if_pos hr, if_pos ⟨rfl, hr⟩, sendUnsolicited_link,
          ha]
        simp [setLaneState, hbefore]
      · have hc : (retime m (setQueue m rest (stamped s))).holdCondition m = true := by
          simpa using fun h => hr (hreleases.mpr h)
        rw [evalHold_of_settled ⟨fun h => by simp [hbefore, hs] at h, fun _ => hc⟩, hbefore, if_neg hr,
          if_neg (fun h => hr h.2)]
        simp
  · have hpart : Part.link m ∉ [Part.actions, .stamp, Part.lane l, Part.link l] := by
      cases l <;> cases m <;> simp [Part.lane, Part.link] at hm ⊢
    rw [if_neg hm, popped_lane_of_ne hm, OnlyChanges.link (onlyChanges_popped l rest s) hpart, poppedLink,
      if_neg (fun h => hm h.1)]
    exact ⟨rfl, rfl⟩

/-- An arrival that finds a lane with an entry pops it, and the entry decides the sheet; the new head's deadline has not passed, so
it does not expire (R36, R38). -/
theorem exec_laneEntry_popped (hf : (s.lane l).inFault = false) (hq : (s.lane l).queue = e :: rest)
    (hnow : ∀ d, rest.head? = some d → s.now ≤ d.deadline)
    (htransit : ((arrive l e (popped l rest s)).lane l).transit = ((popped l rest s).lane l).transit) :
    exec (.laneEntry l) s
      = .next (endEvent (stamped s) { relief := false, purge := true, pass := false } (arrive l e (popped l rest s))) := by
  have hl : (stamped s).lane l = s.lane l := stamped_lane s l
  have hdue : (arrive l e (popped l rest s)).overdue l = false := by
    obtain ⟨x, hx, -⟩ := popped_lane hf rest
    rw [State.overdue, htransit, hx]
    cases hr : rest.head? with
    | none => simp
    | some d => simpa using hnow d hr
  have e1 : exec (.laneEntry l) s = .next (if ((stamped s).lane l).inFault then divertSheet l .laneFault none (stamped s)
      else match ((stamped s).lane l).queue with
        | [] => divertSheet l .unannounced none (stamped s)
        | e :: rest => endEvent (stamped s) { relief := false, purge := true, pass := false } (arriveHead l e rest (stamped s))) :=
    rfl
  rw [e1, hl, hf, hq]
  change Host.Outcome.next (endEvent (stamped s) _ (if (arrive l e (popped l rest s)).overdue l then _ else _)) = _
  rw [hdue]
  rfl

/-! ## The popped entry is diverted (R41, R42) -/

theorem divertSheet_transit (l : Lane) (r : Reason) (x : Option Entry) (s : State) (m : Lane) :
    ((divertSheet l r x s).lane m).transit = (s.lane m).transit := by
  rw [(divertSheet_lanes l r x s m).1]
  split <;> simp

theorem sheetExceptionBody_some (l : Lane) (r : Reason) (stamp : BitVec 32) (e : Entry) :
    sheetExceptionBody l r stamp (some e) = [laneCode l, reasonByte r] ++ be32 stamp ++ [1#8] ++ be16 e.jobTag.toNat
      ++ [e.cls, e.generation, e.rank, e.index] ++ be32 e.order := by
  simp [sheetExceptionBody, be8_code, entryFields]

/-- The pop and the divert together (R28, R38, R42, R138). -/
theorem divertsPopped (hf : (s.lane l).inFault = false) (hset : HoldsSettled s) (hq : (s.lane l).queue = e :: rest) (r : Reason) :
    DivertsPopped l e rest r s (divertSheet l r (some e) (popped l rest s)) := by
  unfold DivertsPopped
  intro threshold flags lane holds link
  obtain ⟨htray, hact, hflags⟩ := divertSheet_counts l r (some e) (popped l rest s)
  have hfills : TrayFills (popped l rest s) ↔ s.tray < threshold ∧ threshold ≤ s.tray + 1 := by
    simp [TrayFills, State.trayThreshold, threshold, Config.trayMargin]
  have hdiv : divertFlags (popped l rest s) = flags := by
    simp [divertFlags, State.trayThreshold, flags, threshold, Config.trayMargin]
  have hlane : ∀ m, (popped l rest s).lane m = lane m := fun m => (popped_lanes hf hset hq m).1
  have hlink : ∀ m, (popped l rest s).link m = poppedLink l rest s m := fun m => (popped_lanes hf hset hq m).2
  refine ⟨by simp, by rw [htray]; simp, by rw [hact]; simp, by rw [hflags, hdiv], fun m => ?_, fun m => ?_⟩
  · rw [(divertSheet_lanes l r (some e) (popped l rest s) m).1, hlane]
    simp only [hfills, LaneUnit.held, holds, ← ite_and, and_assoc]
  · rw [(divertSheet_lanes l r (some e) (popped l rest s) m).2, hlane, hlink, hdiv]
    simp only [hfills, heldLink, holds, link, ← ite_and, and_assoc, popped_frame, sheetExceptionBody_some]
    rfl

/-! ## The end of a Purge (R48, R163) -/

/-- A lane that the end of a Purge releases: HELD, and below the tray threshold (R44, R48). -/
abbrev EndReleases (s : State) (l : Lane) : Prop := (s.lane l).state = .held ∧ s.tray < s.settings.exceptionCapacity - 12

/-- A lane with an empty queue at the end of a Purge, which no Purge holds any more (R48). -/
theorem purgeLaneEnd_of_empty (hq : (s.lane l).queue = []) (hrun : (s.lane l).state ≠ .running) (hp : s.purge = .idle) (m : Lane) :
    (purgeLaneEnd l s).lane m
        = (if m = l then { s.lane l with expected := none, state := if EndReleases s l then .running else (s.lane l).state }
          else s.lane m)
      ∧ (purgeLaneEnd l s).link m
        = if m = l ∧ EndReleases s l then sentLink (s.link m) s.attention .release [] else s.link m := by
  have hcond := holdCondition_eq_false_iff (s.setLane l { s.lane l with expected := none }) l
  have ha : (setLaneState l .running (s.setLane l { s.lane l with expected := none })).attention = s.attention :=
    attention_congr (by simp)
  by_cases hr : EndReleases s l
  · have hc := hcond.mpr (by simpa [hq, hp, LaneUnit.inFault, hr.1] using by have := hr.2; omega)
    rw [purgeLaneEnd, evalHold_of_releases (by simp [hr.1]) hc, if_pos hr, sendUnsolicited_link, ha]
    by_cases hm : m = l <;> simp [hm, hr, setLaneState]
  · have hstate : (if EndReleases s l then LaneState.running else (s.lane l).state) = (s.lane l).state := if_neg hr
    have hlink : ¬(m = l ∧ EndReleases s l) := fun h => hr h.2
    rw [purgeLaneEnd, evalHold_of_settled, hstate, if_neg hlink]
    · by_cases hm : m = l <;> simp [hm]
    · refine ⟨fun h => absurd (by simpa using h) hrun, fun h => ?_⟩
      by_contra hc
      obtain ⟨-, -, htray, -⟩ := hcond.mp (by simpa using hc)
      exact hr ⟨by simpa using h, by simpa using htray⟩

theorem purgePartsMet_iff (s : State) : s.purgePartsMet = true ↔ PurgePartsMet s := by
  have hslot : ∀ n, (s.slot n).isEmpty = true ↔ s.slot n = .free ∨ s.slot n = .fenced := fun n => by
    cases s.slot n <;> simp [Slot.isEmpty]
  have hlanes : (∀ l, (s.lane l).queue = []) ↔ s.laneA.queue = [] ∧ s.laneB.queue = [] :=
    ⟨fun h => ⟨h .a, h .b⟩, fun h l => by cases l <;> simp [State.lane, h]⟩
  simp [State.purgePartsMet, PurgePartsMet, hslot, hlanes, and_assoc]

/-- The completion test at the end of an event; in a Purge every lane is held or in FAULT (R44, R163). -/
theorem endsWithPurgeTest (hrun : s.purge ≠ .idle → ∀ m, (s.lane m).state ≠ .running) :
    EndsWithPurgeTest s (.next (purgeTest s)) := by
  refine ⟨fun h => ?_, fun l tag hp hparts => ⟨purgeTest s, rfl, ?_⟩⟩
  · congr 1
    rcases h with h | h
    · exact purgeTest_of_idle h
    · rw [← purgePartsMet_iff] at h
      unfold purgeTest
      split
      · rfl
      · rw [if_neg h]
  · have e : purgeTest s = reply l tag .ok DownKind.purge.code [] (purgeLaneEnd .b (purgeLaneEnd .a (s.setPurge .idle))) := by
      rw [purgeTest, hp]
      exact if_pos ((purgePartsMet_iff s).mpr hparts)
    have hrun := hrun (by simp [hp])
    have hne : ∀ l, (s.setPurge .idle).lane l = s.lane l := by simp
    have ha := purgeLaneEnd_of_empty (l := .a) (s := s.setPurge .idle) (by simpa using hparts.1 .a) (by simpa using hrun .a) rfl
    have hab : (purgeLaneEnd .a (s.setPurge .idle)).lane .b = s.lane .b := by rw [(ha .b).1, if_neg (by decide), hne]
    have hb := purgeLaneEnd_of_empty (l := .b) (s := purgeLaneEnd .a (s.setPurge .idle)) (by rw [hab]; exact hparts.1 .b)
      (by rw [hab]; exact hrun .b) (by simp)
    have hatt : (purgeLaneEnd .a (s.setPurge .idle)).attention = s.attention := attention_congr (by simp)
    have hatt' : (purgeLaneEnd .b (purgeLaneEnd .a (s.setPurge .idle))).attention = s.attention := attention_congr (by simp)
    have hatt0 : (s.setPurge .idle).attention = s.attention := attention_congr (by simp)
    unfold PurgeEnds
    intro releases link answer
    have hlink : ∀ m, (purgeLaneEnd .b (purgeLaneEnd .a (s.setPurge .idle))).link m = link m := fun m => by
      cases m <;> simp [(hb _).2, (ha _).2, hab, hatt, hatt0, link, releases, EndReleases]
    refine ⟨by rw [e]; simp, fun m => ?_, fun m => ?_, ?_⟩
    · rw [e]
      cases m <;> simp [(hb _).1, (ha _).1, releases, EndReleases]
    · rw [e, reply_link, hlink, hlink, hatt']
      split
      · rename_i hm
        subst hm
        rfl
      · rfl
    · rw [e]
      intro p hp
      cases p <;> simp [Part.Same] at hp ⊢

/-! ## DIVERT and PLACE entries that are diverted (R39, R41, R60) -/

/-- An arrival whose popped entry is diverted: nothing joins a list, and the event ends with the Purge's test (R163). -/
theorem exec_laneEntry_diverted (hf : (s.lane l).inFault = false) (hset : HoldsSettled s) (hq : (s.lane l).queue = e :: rest)
    (hnow : ∀ d, rest.head? = some d → s.now ≤ d.deadline) {r : Reason}
    (harrive : arrive l e (popped l rest s) = divertSheet l r (some e) (popped l rest s)) :
    EndsWithPurgeTest (divertSheet l r (some e) (popped l rest s)) (exec (.laneEntry l) s) := by
  rw [exec_laneEntry_popped hf hq hnow (by rw [harrive, divertSheet_transit]), harrive,
    endEvent_of_nothing_joined (giftedSince_eq_false fun k hk => by simpa [State.packet] using hk) (by simp) (by simp) true]
  refine endsWithPurgeTest fun hp m => ?_
  have hbusy : s.purge ≠ .idle := by simpa using hp
  have hstate : ∀ m, (s.lane m).state ≠ .running := fun m h => by
    obtain ⟨-, -, -, hidle, -⟩ := (holdCondition_eq_false_iff s m).mp ((hset m).1 h)
    exact hbusy hidle
  have hpop : ((popped l rest s).lane m).state ≠ .running := by
    rw [(popped_lanes hf hset hq m).1]
    by_cases hm : m = l
    · subst hm
      have hr : ¬PopReleases m rest s := fun ⟨_, _, _, _, hidle⟩ => hbusy hidle
      simpa only [if_true, poppedLane, if_neg hr] using hstate m
    · simp [hm, hstate]
  rw [(divertSheet_lanes l r (some e) _ m).1]
  split
  · simp [LaneUnit.held, hpop]
  · exact hpop

theorem onlyChanges_diverted (l : Lane) (r : Reason) (e : Entry) (rest : List Entry) (s : State) :
    OnlyChanges [.stamp, .tray, .flags, .laneA, .laneB, .linkA, .linkB, .actions] s
      (divertSheet l r (some e) (popped l rest s)) := by
  refine (OnlyChanges.append (onlyChanges_popped l rest s) (onlyChanges_divertSheet l r (some e) _)).mono ?_
  cases l <;> simp [Part.lane, Part.link]

end
end Sys2Proof.Lanes

namespace Sys2Proof.Lanes

open Sys2Proof.Machine Sys2Proof.Safety Sys2Proof.ClassTable Sys2Proof.Requests Sys2Proof.Events

/-! # The tower's part of an arrival: packets in slots, drops, placed sheets (R60 to R63, R70) -/

section
variable {s t u : State} {l m : Lane} {e : Entry} {rest : List Entry} {n : Fin 24} {p q : Packet} {k : Key}

/-! ## Packets in slots (R50, R51) -/

/-- No two packets of the map share a key (R51). -/
theorem packet_of_mem (h : TowerKept s) (hp : p ∈ s.packets) : s.packet p.key = some p := by
  have distinct : s.packets.Pairwise (fun p q => p.key = q.key → p = q) :=
    h.keysRise.imp fun hb hk => by simp [Key.below, hk] at hb
  have : Std.Symm (fun p q : Packet => p.key = q.key → p = q) := ⟨fun _ _ h hk => (h hk.symm).symm⟩
  cases hk : s.packet p.key with
  | none => simpa using List.find?_eq_none.mp hk p hp
  | some q =>
    obtain ⟨hq, hkey⟩ := mem_of_packet hk
    rw [List.Pairwise.forall_of_forall (fun _ _ _ => rfl) distinct hq hp hkey]

/-- The packet that a slot names stands in that slot, which is as the packet's state says (R50). -/
theorem slot_of_packetIn (h : TowerKept s) (hp : s.packetIn n = some p) :
    s.packet p.key = some p ∧ p.slot = some n ∧ ∃ x m, s.slot n = .occupied x m p.key ∧ PacketState.fitsSlot p.state x := by
  have hmem := mem_of_packetIn hp
  unfold State.packetIn at hp
  split at hp
  · rename_i x m k hslot
    obtain ⟨-, rfl⟩ := mem_of_packet hp
    obtain ⟨r, hr, hkey, hrslot⟩ := h.occupied n x m p.key hslot
    have hrp : r = p := Option.some.inj ((packet_of_mem h hr).symm.trans (hkey ▸ hp))
    subst hrp
    obtain ⟨y, m', hy, hfit⟩ := (h.packets r hr).slot n hrslot
    exact ⟨hp, hrslot, y, m', hy, hfit⟩
  · cases hp
  · cases hp

/-! ## A packet without a sheet is dropped (R70) -/

/-- The state after a drop where no key waits for the slot: packet out, slot freed, rank WAITING (R58, R70). -/
def dropped (k : Key) (n : Fin 24) (m : Bool) (s : State) : State :=
  setRank k .waiting (setSlot n (if m then .fenced else .free) (removePacket k s))

@[simp] theorem dropped_frame (k : Key) (n : Fin 24) (m : Bool) (s : State) :
    (dropped k n m s).held = s.held ∧ (dropped k n m s).queued = s.queued ∧ (dropped k n m s).fin = s.fin
      ∧ (dropped k n m s).bins = s.bins ∧ (dropped k n m s).flags = s.flags ∧ (dropped k n m s).purge = s.purge
      ∧ (dropped k n m s).tray = s.tray ∧ (dropped k n m s).stamp = s.stamp ∧ (dropped k n m s).actions = s.actions
      ∧ (∀ l, (dropped k n m s).lane l = s.lane l) ∧ ∀ l, (dropped k n m s).link l = s.link l := by
  simp [dropped]

theorem dropped_lane (k : Key) (n : Fin 24) (m : Bool) (s : State) (l : Lane) : (dropped k n m s).lane l = s.lane l := by simp

theorem onlyChanges_dropped (k : Key) (n : Fin 24) (m : Bool) (s : State) :
    OnlyChanges [.packets, .slots, .classes] s (dropped k n m s) :=
  OnlyChanges.append (onlyChanges_setPackets _ s) (OnlyChanges.append (onlyChanges_setSlots _ _) (onlyChanges_setRank k .waiting _))

theorem packet_dropped (k : Key) (n : Fin 24) (m : Bool) (s : State) (j : Key) :
    (dropped k n m s).packet j = if j = k then none else s.packet j := by
  rw [← packet_removePacket]
  simp [State.packet, dropped]

theorem slot_dropped (k : Key) (n : Fin 24) (m : Bool) (s : State) (j : Fin 24) :
    (dropped k n m s).slot j = if j = n then (if m then .fenced else .free) else s.slot j := by
  have e : (dropped k n m s).slot j = (setSlot n (if m then .fenced else .free) (removePacket k s)).slot j := by
    simp [State.slot, dropped]
  rw [e, slot_setSlot]
  simp [State.slot]

theorem rankAt_dropped (h : (s.rankAt k).isSome = true) (n : Fin 24) (m : Bool) (j : Key) :
    (dropped k n m s).rankAt j = if j = k then some .waiting else s.rankAt j := by
  have e : ∀ j, (setSlot n (if m then .fenced else .free) (removePacket k s)).rankAt j = s.rankAt j := rankAt_congr (by simp)
  rw [dropped, rankAt_setRank]
  simp [e, h]

/-- A drop where no key waits: the class's cursor stays at rest on WAITING ranks, and the class is not done (R8, R78). -/
theorem dropPacket_eq_dropped (hk : ClassesKept s) {m : Bool} (hrank : (s.rankAt k).isSome = true)
    (hslot : s.slot n = .occupied .collecting m k) (hu : s.unplaced = []) : dropPacket k n s = dropped k n m s := by
  have hfree : freeSlot n (removePacket k s) = setSlot n (if m then .fenced else .free) (removePacket k s) := by
    have hs : (removePacket k s).slot n = .occupied .collecting m k := by simpa [State.slot] using hslot
    rw [freeSlot, hs]
    cases m
    · simp [allocate, hu]
    · rfl
  obtain ⟨x, hx⟩ := Option.isSome_iff_exists.mp hrank
  have hc := lt_of_rankAt hx
  have hrec : (dropped k n m s).classRec k.cls = (s.classRec k.cls).withRank k.rank .waiting := by
    rw [dropped, classRec_setRank, if_pos ⟨rfl, hc⟩, classRec_congr (s := s) (by simp)]
  have hwaits := rankAt_dropped hrank n m k
  rw [if_pos rfl] at hwaits
  obtain ⟨hshape, hrest⟩ := (classKept_iff _).mp (hk k.cls)
  rw [dropPacket, hfree]
  change orderStep k.cls (dropped k n m s) = dropped k n m s
  rw [orderStep, cursorAdvance_of_atRest, doneCheck_of_not_done (.inr (countOf_ne_zero hwaits))]
  · rw [hrec]
    exact hshape.withRank (.inr (by decide))
  · rw [hrec]
    exact hrest.withRank (.inr (.inl rfl))

theorem purgeTest_dropped_of_idle (h : s.purge = .idle) (m : Bool) : purgeTest (dropped k n m s) = dropped k n m s :=
  purgeTest_of_idle (by simpa using h)

/-! ## What the tower decides about a sheet (R60 to R62) -/

/-- A placement changes the cover pocket, the next body index and DISORDERED only. -/
theorem decidePlacement_placed {i : Nat} (h : decidePlacement p i = .placed q) :
    q = { p with nextBody := q.nextBody, coverReceived := q.coverReceived, flags := q.flags }
      ∧ q.flags = { p.flags with disordered := q.flags.disordered } := by
  unfold decidePlacement at h
  repeat' split at h
  all_goals cases h
  all_goals exact ⟨rfl, rfl⟩

/-- The re-check of a PLACE entry that names a packet of its key and generation that is not stale (R39, R60). -/
theorem arrivePlaced_of_matching (hp : s.packetIn n = some p) (hkey : p.key = e.key) (hgen : p.generation = e.generation)
    (hstale : p.flags.stale = false) (l : Lane) :
    (p.state = .collecting → arrivePlaced l e n s = placeSheet l e n p s)
      ∧ (p.state ≠ .collecting → arrivePlaced l e n s = divertSheet l .duplicate (some e) s) := by
  rw [arrivePlaced, hp]
  dsimp only
  rw [if_pos ⟨hkey, hgen, hstale⟩]
  cases p.state <;> simp

theorem arrivePlaced_of_not_matching
    (h : ¬∃ p, s.packetIn n = some p ∧ p.key = e.key ∧ p.generation = e.generation ∧ p.flags.stale = false) (l : Lane) :
    arrivePlaced l e n s = divertSheet l .rankClosed (some e) s := by
  unfold arrivePlaced
  split
  · rfl
  · rename_i p hp
    rw [if_neg fun hm => h ⟨p, hp, hm⟩]

theorem popped_packetIn (l : Lane) (rest : List Entry) (s : State) (n : Fin 24) :
    (popped l rest s).packetIn n = s.packetIn n := by
  simp [State.packetIn, State.slot, State.packet]

theorem arrive_of_place (h : e.verdict = .place n) (l : Lane) (s : State) : arrive l e s = arrivePlaced l e n s := by
  rw [arrive, h]

/-! ## Entries of a key in the queues -/

theorem key_eq_iff (d e : Entry) : d.key = e.key ↔ d.cls = e.cls ∧ d.rank = e.rank := by
  simp [Entry.key, BitVec.toNat_inj]

theorem lanePlaces_iff (s : State) (k : Key) (l : Lane) :
    s.lanePlaces k l = true ↔ ∃ d ∈ (s.lane l).queue, d.key = k ∧ ∃ j, d.verdict = .place j := by
  have h : ∀ d : Entry, d.placesFor k = true ↔ d.key = k ∧ ∃ j, d.verdict = .place j := fun d => by
    cases hv : d.verdict <;> simp [Entry.placesFor, hv]
  simp [State.lanePlaces, h]

/-- Both queues together, by one lane and the other. -/
theorem exists_lane_iff (l : Lane) (P : Lane → Prop) : P .a ∨ P .b ↔ P l ∨ P (otherLane l) := by
  cases l
  · exact Iff.rfl
  · exact or_comm

end
end Sys2Proof.Lanes

namespace Sys2Proof.Lanes

open Sys2Proof.Machine Sys2Proof.Safety Sys2Proof.ClassTable Sys2Proof.Requests Sys2Proof.Events

/-! # The arrivals that are diverted, and those that are placed -/

section
variable {s t u : State} {l m : Lane} {e : Entry} {rest : List Entry} {n : Fin 24} {p q : Packet} {k : Key}

/-! ## Diverted entries (R39, R41, R60) -/

theorem exec_laneEntry_diverted_of_idle (hf : (s.lane l).inFault = false) (hset : HoldsSettled s) (hp : s.purge = .idle)
    (hq : (s.lane l).queue = e :: rest) (hnow : ∀ d, rest.head? = some d → s.now ≤ d.deadline) {r : Reason}
    (harrive : arrive l e (popped l rest s) = divertSheet l r (some e) (popped l rest s)) :
    ∃ t, exec (.laneEntry l) s = .next t ∧ DivertsPopped l e rest r s t
      ∧ OnlyChanges [.stamp, .tray, .flags, .laneA, .laneB, .linkA, .linkB, .actions] s t :=
  ⟨_, (exec_laneEntry_diverted hf hset hq hnow harrive).1 (.inl (by simpa using hp)), divertsPopped hf hset hq r,
    onlyChanges_diverted l r e rest s⟩

/-- The queues once an arrival has popped its head, in whatever way its sheet is diverted. -/
theorem diverted_queue (hf : (s.lane l).inFault = false) (rest : List Entry) (r : Reason) (x : Option Entry) (m : Lane) :
    ((divertSheet l r x (popped l rest s)).lane m).queue = if m = l then rest else (s.lane m).queue := by
  have hpop : ((popped l rest s).lane m).queue = if m = l then rest else (s.lane m).queue := by
    by_cases hm : m = l
    · subst hm
      obtain ⟨y, hy, -⟩ := popped_lane hf rest
      simp [hy]
    · simp [hm, popped_lane_of_ne hm]
  rw [(divertSheet_lanes l r x _ m).1, ← hpop]
  split <;> simp

/-- The entries that stay in the queues when one has been popped, that have a property of their own. -/
theorem exists_diverted_queue (hf : (s.lane l).inFault = false) (rest : List Entry) (r : Reason) (x : Option Entry)
    (P : Entry → Prop) :
    ((∃ d ∈ ((divertSheet l r x (popped l rest s)).lane .a).queue, P d)
        ∨ ∃ d ∈ ((divertSheet l r x (popped l rest s)).lane .b).queue, P d)
      ↔ (∃ d ∈ rest, P d) ∨ ∃ d ∈ (s.lane (otherLane l)).queue, P d := by
  rw [exists_lane_iff l (fun m => ∃ d ∈ ((divertSheet l r x (popped l rest s)).lane m).queue, P d)]
  have hne : otherLane l ≠ l := by cases l <;> decide
  simp only [diverted_queue hf, if_true, hne, if_false]

/-- A divert's report of its entry reads no part that a drop writes. -/
theorem divertsPopped_dropped {r : Reason} (h : DivertsPopped l e rest r s t) (m : Bool) :
    DivertsPopped l e rest r s (dropped k n m t) := by
  simpa [DivertsPopped] using h

/-- An arrival whose sheet is refused by a packet that has none, for which no key waits: the divert, then the drop (R70). -/
theorem exec_laneEntry_dropped (hf : (s.lane l).inFault = false) (ht : TowerKept s) (hk : ClassesKept s) (hidle : s.purge = .idle)
    (hq : (s.lane l).queue = e :: rest) (hnow : ∀ d, rest.head? = some d → s.now ≤ d.deadline) (hu : s.unplaced = [])
    (hp : s.packetIn n = some p) (hstate : p.state = .collecting)
    (hgone : arrive l e (popped l rest s) = dropPacket p.key n (divertSheet l .duplicate (some e) (popped l rest s))) :
    ∃ m, s.slot n = .occupied .collecting m p.key ∧ (s.rankAt p.key).isSome = true ∧
      exec (.laneEntry l) s = .next (dropped p.key n m (divertSheet l .duplicate (some e) (popped l rest s))) := by
  obtain ⟨hpacket, -, x, m, hslot, hfit⟩ := slot_of_packetIn ht hp
  rw [hstate] at hfit
  cases hfit
  have hrank : s.rankAt p.key = some .opened := by
    have := (ht.packets p (mem_of_packet hpacket).1).rank
    rwa [hstate] at this
  have hsome : (s.rankAt p.key).isSome = true := by rw [hrank]; rfl
  have hclass : ∀ c, (divertSheet l .duplicate (some e) (popped l rest s)).classRec c = s.classRec c := classRec_congr (by simp)
  have hdrop : dropPacket p.key n (divertSheet l .duplicate (some e) (popped l rest s))
      = dropped p.key n m (divertSheet l .duplicate (some e) (popped l rest s)) := by
    refine dropPacket_eq_dropped (fun c => by rw [hclass]; exact hk c) ?_ (by simpa [State.slot] using hslot) (by simpa using hu)
    rw [State.rankAt, hclass]
    exact hsome
  refine ⟨m, hslot, hsome, ?_⟩
  rw [exec_laneEntry_popped hf hq hnow, hgone, hdrop, endEvent_of_nothing_joined, if_pos rfl,
    purgeTest_dropped_of_idle (by simpa using hidle)]
  · refine giftedSince_eq_false fun k hsome => ?_
    rw [packet_dropped] at hsome
    split at hsome
    · cases hsome
    · simpa [State.packet] using hsome
  · simp
  · simp
  · rw [hgone, hdrop, dropped_lane, divertSheet_transit]

/-- The sheet that its COLLECTING packet refuses: the packet is dropped after the divert exactly where it has no sheet and no other
PLACE entry names it (R61, R62, R70). -/
theorem arrive_of_refused (hf : (s.lane l).inFault = false) (hv : e.verdict = .place n) (hp : s.packetIn n = some p)
    (hkey : p.key = e.key) (hgen : p.generation = e.generation) (hstale : p.flags.stale = false) (hstate : p.state = .collecting)
    (href : decidePlacement p e.index.toNat = .refused) :
    let named := ∃ d ∈ rest ++ (s.lane (otherLane l)).queue, d.cls = e.cls ∧ d.rank = e.rank ∧ ∃ j, d.verdict = .place j
    let diverted := divertSheet l .duplicate (some e) (popped l rest s)
    (p.coverReceived = true ∨ p.sheetsHeld ≠ 0 ∨ named → arrive l e (popped l rest s) = diverted)
      ∧ (¬(p.coverReceived = true ∨ p.sheetsHeld ≠ 0 ∨ named) → arrive l e (popped l rest s) = dropPacket p.key n diverted) := by
  intro named diverted
  have hnamed : (diverted.lanePlaces p.key .a || diverted.lanePlaces p.key .b) = true ↔ named := by
    rw [Bool.or_eq_true, lanePlaces_iff, lanePlaces_iff, exists_diverted_queue hf]
    simp only [hkey, key_eq_iff, named, List.mem_append, or_and_right, exists_or, and_assoc]
  have hdrops : (p.untouched && !(diverted.lanePlaces p.key .a || diverted.lanePlaces p.key .b)) = true
      ↔ ¬(p.coverReceived = true ∨ p.sheetsHeld ≠ 0 ∨ named) := by
    rw [Bool.and_eq_true, Bool.not_eq_true', ← Bool.not_eq_true, hnamed]
    simp [Packet.untouched, hstate, and_assoc]
  have harrive : arrive l e (popped l rest s)
      = if p.untouched && !(diverted.lanePlaces p.key .a || diverted.lanePlaces p.key .b) then dropPacket p.key n diverted
        else diverted := by
    rw [arrive_of_place hv, (arrivePlaced_of_matching ((popped_packetIn ..).trans hp) hkey hgen hstale l).1 hstate,
      placeSheet, href]
  rw [harrive]
  exact ⟨fun hstay => if_neg fun h => hdrops.mp h hstay, fun hgone => if_pos (hdrops.mpr hgone)⟩

/-- Settles O38: the divert on the popped state; a packet that refuses its only sheet is dropped after it (R70). -/
theorem divertedEntryIsReported : Obligations.DivertedEntryIsReported := by
  refine ⟨fun l e rest r s hf hset hq hv hnow => ?_, fun l e rest n s hf hset hidle hq hv hnow => ⟨fun hm => ?_, ?_⟩, ?_⟩
  · exact ⟨_, exec_laneEntry_diverted hf hset hq hnow (by rw [arrive, hv]), divertsPopped hf hset hq r,
      onlyChanges_diverted l r e rest s⟩
  · refine exec_laneEntry_diverted_of_idle hf hset hidle hq hnow ?_
    rw [arrive_of_place hv, arrivePlaced_of_not_matching]
    simp only [popped_packetIn]
    exact hm
  · rintro ⟨p, hp, hkey, hgen, hstale, hstate⟩
    refine exec_laneEntry_diverted_of_idle hf hset hidle hq hnow ?_
    rw [arrive_of_place hv, (arrivePlaced_of_matching ((popped_packetIn ..).trans hp) hkey hgen hstale l).2 hstate]
  · intro l e rest n p s hf hset ht hk hidle hq hv hnow hp hkey hgen hstale hstate href named
    obtain ⟨hkeep, hgone⟩ := arrive_of_refused (rest := rest) hf hv hp hkey hgen hstale hstate href
    by_cases hstay : p.coverReceived = true ∨ p.sheetsHeld ≠ 0 ∨ named
    · obtain ⟨t, hexec, hdiv, hparts⟩ := exec_laneEntry_diverted_of_idle hf hset hidle hq hnow (hkeep hstay)
      exact ⟨t, hexec, fun _ => ⟨hdiv, hparts⟩, fun hcover hsheets hnone =>
        absurd hstay (by simp [hcover, hsheets, hnone])⟩
    · by_cases hu : s.unplaced = []
      · obtain ⟨m, hslot, hrank, hexec⟩ := exec_laneEntry_dropped hf ht hk hidle hq hnow hu hp hstate (hgone hstay)
        have hparts := onlyChanges_diverted l .duplicate e rest s
        have hranks : ∀ j, (divertSheet l .duplicate (some e) (popped l rest s)).rankAt j = s.rankAt j :=
          rankAt_congr (by simp)
        refine ⟨_, hexec, fun h => absurd h hstay, fun _ _ _ _ => ⟨divertsPopped_dropped (divertsPopped hf hset hq _) m, ?_⟩⟩
        have hdrop := rankAt_dropped (k := p.key) (by rw [hranks]; exact hrank) n m
        refine ⟨by rw [packet_dropped, if_pos rfl], fun j hj => ?_, by rw [hdrop, if_pos rfl], fun j hj => ?_, fun m' hm' => ?_,
          fun j hj => ?_, ?_⟩
        · rw [packet_dropped, if_neg hj]
          simp [State.packet]
        · rw [hdrop, if_neg hj, hranks]
        · rw [slot_dropped, if_pos rfl]
          rw [hslot] at hm'
          cases hm'
          rfl
        · rw [slot_dropped, if_neg hj]
          simp [State.slot]
        · exact (OnlyChanges.append hparts (onlyChanges_dropped _ _ _ _)).mono (by simp)
      · exact ⟨_, rfl, fun h => absurd h hstay, fun _ _ _ h => absurd h hu⟩

/-! ## The arrival of an UNPLACED entry (R40) -/

/-- The state once the sheet of a popped UNPLACED entry has been diverted and its key given up where it was the last (R40). -/
theorem arrive_of_unplaced (hv : e.verdict = .unplaced) (hf : (s.lane l).inFault = false) :
    let other := (∃ d ∈ rest, d.cls = e.cls ∧ d.rank = e.rank ∧ d.verdict = .unplaced)
      ∨ ∃ d ∈ (s.lane (otherLane l)).queue, d.cls = e.cls ∧ d.rank = e.rank ∧ d.verdict = .unplaced
    let diverted := divertSheet l .noSlot (some e) (popped l rest s)
    (other → arrive l e (popped l rest s) = diverted)
      ∧ (¬other → arrive l e (popped l rest s) = leaveUnplaced e.key diverted) := by
  intro other diverted
  have hother : (diverted.laneWaits e.key .a || diverted.laneWaits e.key .b) = true ↔ other := by
    rw [Bool.or_eq_true, laneWaits_iff, laneWaits_iff, exists_diverted_queue hf]
    simp only [key_eq_iff, other, and_assoc]
  have e1 : arrive l e (popped l rest s)
      = if diverted.laneWaits e.key .a || diverted.laneWaits e.key .b then diverted else leaveUnplaced e.key diverted := by
    rw [arrive, hv]
  rw [e1]
  exact ⟨fun h => if_pos (hother.mpr h), fun h => if_neg (fun hw => h (hother.mp hw))⟩

/-- What the unplaced list has no part in is after the arrival as after its divert. -/
theorem read_arrive_unplaced {α : Type} (hv : e.verdict = .unplaced) (hf : (s.lane l).inFault = false) (f : State → α)
    (hread : ∀ u, f (leaveUnplaced e.key u) = f u) :
    f (arrive l e (popped l rest s)) = f (divertSheet l .noSlot (some e) (popped l rest s)) := by
  obtain ⟨hkeep, hleave⟩ := arrive_of_unplaced (rest := rest) hv hf
  by_cases h : (∃ d ∈ rest, d.cls = e.cls ∧ d.rank = e.rank ∧ d.verdict = .unplaced)
      ∨ ∃ d ∈ (s.lane (otherLane l)).queue, d.cls = e.cls ∧ d.rank = e.rank ∧ d.verdict = .unplaced
  · rw [hkeep h]
  · rw [hleave h, hread]

theorem exec_laneEntry_unplaced (hf : (s.lane l).inFault = false) (hidle : s.purge = .idle) (hq : (s.lane l).queue = e :: rest)
    (hv : e.verdict = .unplaced) (hnow : ∀ d, rest.head? = some d → s.now ≤ d.deadline) :
    exec (.laneEntry l) s = .next (arrive l e (popped l rest s)) := by
  have hlane := read_arrive_unplaced (rest := rest) hv hf (fun u => u.lane l) (by simp)
  have hpackets := read_arrive_unplaced (rest := rest) hv hf State.packets (by simp)
  rw [exec_laneEntry_popped hf hq hnow (by rw [hlane, divertSheet_transit]), endEvent_of_nothing_joined, if_pos rfl,
    purgeTest_of_idle (by simpa using hidle)]
  · exact giftedSince_eq_false fun k hk => by simpa [State.packet, hpackets] using hk
  · rw [read_arrive_unplaced hv hf State.held (by simp)]
    simp
  · rw [read_arrive_unplaced hv hf State.queued (by simp)]
    simp

/-- An UNPLACED head holds its lane (R44). -/
theorem held_of_unplaced_head (hf : (s.lane l).inFault = false) (hset : HoldsSettled s) (hq : (s.lane l).queue = e :: rest)
    (hv : e.verdict = .unplaced) : (s.lane l).state = .held := by
  rcases (inFault_eq_false_iff _).mp hf with hs | hs
  · obtain ⟨-, hun, -⟩ := (holdCondition_eq_false_iff s l).mp ((hset l).1 hs)
    exact absurd hv (hun e (by simp [hq]))
  · exact hs

/-- Settles O41: the divert on the popped state, and the key out of the list where no entry of it stays. -/
theorem unplacedArrivalGivesUpTheSheet : Obligations.UnplacedArrivalGivesUpTheSheet := by
  intro l e rest s hf hidle hq hv hnow k other released link report
  obtain ⟨hkeep, hleave⟩ := arrive_of_unplaced (rest := rest) hv hf
  have reads := @read_arrive_unplaced s l e rest
  have hlane : ∀ m, (arrive l e (popped l rest s)).lane m = (divertSheet l .noSlot (some e) (popped l rest s)).lane m :=
    fun m => reads hv hf (fun u => u.lane m) (by simp)
  have hlink : ∀ m, (arrive l e (popped l rest s)).link m = (divertSheet l .noSlot (some e) (popped l rest s)).link m :=
    fun m => reads hv hf (fun u => u.link m) (by simp)
  have hflags := reads hv hf State.flags (by simp)
  obtain ⟨htray, hact, hdflags⟩ := divertSheet_counts l .noSlot (some e) (popped l rest s)
  refine ⟨_, exec_laneEntry_unplaced hf hidle hq hv hnow, ?_, by simp, ?_, ?_, ?_, fun h => ?_, fun h => ?_,
    ?_, ?_, ?_, by simp, fun hset hroom => ?_⟩
  · rw [reads hv hf State.tray (by simp), htray]
    simp
  · rw [reads hv hf State.actions (by simp), hact]
    simp
  · rw [State.isPending, hflags, hdflags]
    simp [Cause.bit]
  · rw [hlane, diverted_queue hf, if_pos rfl]
  · rw [hkeep h]
    simp
  · rw [hleave h]
    simp [leaveUnplaced]
    rfl
  · rw [reads hv hf State.classes (by simp)]
    simp
  · rw [reads hv hf State.packets (by simp)]
    simp
  · rw [reads hv hf State.slots (by simp)]
    simp
  · have hroom' : (popped l rest s).tray + 1 < (popped l rest s).trayThreshold := by
      simpa [State.trayThreshold, Config.trayMargin] using hroom
    have hfills : ¬TrayFills (popped l rest s) := fun h => absurd h.2 (Nat.not_le.mpr hroom')
    have hlanes := divertSheet_lanes l .noSlot (some e) (popped l rest s)
    have hheld := held_of_unplaced_head hf hset hq hv
    have hreleased : PopReleases l rest s ↔ released := by
      simp only [PopReleases, hheld, hidle, true_and, and_true, released]
      exact ⟨fun h => ⟨h.1, h.2.1⟩, fun h => ⟨h.1, h.2, by omega⟩⟩
    have hpoplink : ∀ m, (popped l rest s).link m = link m := fun m => by
      rw [(popped_lanes hf hset hq m).2, poppedLink]
      simp only [hreleased, link]
    refine ⟨?_, ?_, ?_, fun hne => ?_, ?_⟩
    · rw [hflags, hdflags, divertFlags_of_room hroom']
      simp
    · rw [hlane, (hlanes l).1, if_neg hfills, (popped_lanes hf hset hq l).1, if_pos rfl, poppedLane]
      simp only [hreleased, hheld]
    · rw [hlink, (hlanes report).2, if_neg hfills, hpoplink, divertFlags_of_room hroom', ← attention_eq]
      have hatt : (popped l rest s).attention = s.attention := attention_congr (by simp)
      simp only [popped_frame, report, if_true, hatt, sheetExceptionBody_some]
      rfl
    · rw [hlink, (hlanes l).2, if_neg hfills, hpoplink]
      simp only [popped_frame]
      exact if_neg (Ne.symm hne)
    · have hdiv := OnlyChanges.append (onlyChanges_popped l rest s)
        (onlyChanges_divertSheet_of_room hroom' l .noSlot (some e))
      simp only [popped_frame] at hdiv
      by_cases h : other
      · rw [hkeep h]
        exact hdiv.mono (by simp [report])
      · rw [hleave h]
        exact (OnlyChanges.append hdiv (onlyChanges_setUnplaced _ _)).mono (by simp [report])

end
end Sys2Proof.Lanes

namespace Sys2Proof.Lanes

open Sys2Proof.Machine Sys2Proof.Safety Sys2Proof.ClassTable Sys2Proof.Requests Sys2Proof.Events

/-! # Sheets that are placed (R60 to R66) -/

section
variable {s t u : State} {l m : Lane} {e : Entry} {rest : List Entry} {n : Fin 24} {p q : Packet} {k : Key}

/-! ## One packet's record replaced -/

/-- What stands in the map once a key's packet has been replaced by another of that key. -/
theorem packet_replace (hq : q.key = k) (s : State) (j : Key) :
    (updatePacket k (fun _ => q) s).packet j = if j = k then (s.packet k).map (fun _ => q) else s.packet j := by
  have e : updatePacket k (fun _ => q) s = updatePacket k (fun p => if p.key = k then q else p) s := by
    unfold updatePacket
    congr 1
    refine List.map_congr_left fun p _ => ?_
    by_cases h : p.key = k <;> simp [h]
  rw [e, packet_updatePacket]
  · congr 1
    cases hp : s.packet k with
    | none => rfl
    | some p => simp [(mem_of_packet hp).2]
  · intro p
    split
    · rename_i h
      rw [h, hq]
    · rfl

theorem onlyChanges_updatePacket (k : Key) (f : Packet → Packet) (s : State) : OnlyChanges [.packets] s (updatePacket k f s) :=
  onlyChanges_setPackets _ s

/-! ## The placed sheet (R63, R64, R66) -/

theorem isComplete_iff (p : Packet) : p.isComplete = true ↔ AllSheetsIn p := by
  cases hc : p.snapshot.cover <;> simp [Packet.isComplete, AllSheetsIn, hc]

theorem popped_inFault (hf : (s.lane l).inFault = false) (rest : List Entry) (m : Lane) :
    ((popped l rest s).lane m).inFault = (s.lane m).inFault := by
  by_cases hm : m = l
  · subst hm
    obtain ⟨x, -, hx⟩ := popped_lane hf rest
    rw [hx, hf]
  · rw [popped_lane_of_ne hm]

theorem anyFault_congr (h : ∀ m, (t.lane m).inFault = (s.lane m).inFault) : t.anyFault = s.anyFault := by
  rw [State.anyFault, State.anyFault]
  exact congrArg₂ (· || ·) (h .a) (h .b)

/-- The popped state with the gate open for a sheet that is let through (R60). -/
def letThrough (l : Lane) (rest : List Entry) (s : State) : State := act (.divertGate l false) (popped l rest s)

@[simp] theorem letThrough_frame (l : Lane) (rest : List Entry) (s : State) :
    (letThrough l rest s).now = s.now ∧ (letThrough l rest s).tables = s.tables ∧ (letThrough l rest s).settings = s.settings
      ∧ (letThrough l rest s).pending = s.pending ∧ (letThrough l rest s).bins = s.bins ∧ (letThrough l rest s).fin = s.fin
      ∧ (letThrough l rest s).queued = s.queued ∧ (letThrough l rest s).held = s.held
      ∧ (letThrough l rest s).unplaced = s.unplaced ∧ (letThrough l rest s).packets = s.packets
      ∧ (letThrough l rest s).slots = s.slots ∧ (letThrough l rest s).classes = s.classes
      ∧ (letThrough l rest s).tray = s.tray ∧ (letThrough l rest s).flags = s.flags
      ∧ (letThrough l rest s).purge = s.purge ∧ (letThrough l rest s).stamp = s.stamp + 1#32
      ∧ (letThrough l rest s).actions = [.divertGate l false]
      ∧ (∀ m, (letThrough l rest s).lane m = (popped l rest s).lane m)
      ∧ (∀ m, (letThrough l rest s).link m = (popped l rest s).link m) := by
  simp [letThrough, act]

theorem onlyChanges_letThrough (l : Lane) (rest : List Entry) (s : State) :
    OnlyChanges [.stamp, Part.lane l, Part.link l, .actions] s (letThrough l rest s) :=
  (OnlyChanges.append (onlyChanges_popped l rest s) (onlyChanges_setActions _ _)).mono (by simp)

/-- The packet with the sheet in it, its timer at the full window (R63, R66). -/
def withSheetOf (q : Packet) (thickness : Nat) (s : State) : Packet :=
  { q with
    sheetsHeld := q.sheetsHeld + 1, height := q.height + thickness,
    timer := if s.anyFault then .frozen (s.settings.collectionWindow * 1000)
      else .running (s.settings.collectionWindow * 1000) }

/-- A sheet that its packet takes (R60, R63). -/
theorem arrive_of_placed (hf : (s.lane l).inFault = false) (hv : e.verdict = .place n) (hp : s.packetIn n = some p)
    (hkey : p.key = e.key) (hgen : p.generation = e.generation) (hstale : p.flags.stale = false) (hstate : p.state = .collecting)
    (hplaced : decidePlacement p e.index.toNat = .placed q) {thickness : Nat} (hth : s.thickness e.media.toNat = some thickness) :
    arrive l e (popped l rest s) = settlePlaced (withSheetOf q thickness s) (letThrough l rest s) := by
  have hth' : (popped l rest s).thickness e.media.toNat = some thickness := by
    rw [← hth]
    simp [State.thickness]
  have hfresh : (popped l rest s).freshTimer = (withSheetOf q thickness s).timer := by
    simp only [State.freshTimer, anyFault_congr (popped_inFault hf rest), popped_frame]
    rfl
  rw [arrive_of_place hv, (arrivePlaced_of_matching ((popped_packetIn ..).trans hp) hkey hgen hstale l).1 hstate, placeSheet,
    hplaced]
  dsimp only
  rw [hth', hfresh]
  rfl

/-- Settles O39: the packet's record is replaced, and nothing joins a list. -/
theorem placedSheetIsCountedInItsPacket : Obligations.PlacedSheetIsCountedInItsPacket := by
  intro l e rest n p q thickness s hf hset ht hidle hq hv hnow hp hkey hgen hstale hstate hplaced hpart hth
  obtain ⟨hsame, -⟩ := decidePlacement_placed hplaced
  have hqkey : q.key = p.key := by rw [hsame]
  obtain ⟨hpacket, -⟩ := slot_of_packetIn ht hp
  have harrive : arrive l e (popped l rest s)
      = updatePacket p.key (fun _ => withSheetOf q thickness s) (letThrough l rest s) := by
    rw [arrive_of_placed hf hv hp hkey hgen hstale hstate hplaced hth, settlePlaced, if_neg]
    · exact congrArg (fun k => updatePacket k (fun _ => withSheetOf q thickness s) (letThrough l rest s)) hqkey
    · rw [isComplete_iff]
      exact hpart
  have hpackets := packet_replace (q := withSheetOf q thickness s) hqkey (letThrough l rest s)
  have hbefore : ∀ k, (letThrough l rest s).packet k = s.packet k := by simp [State.packet]
  have hexec : exec (.laneEntry l) s
      = .next (updatePacket p.key (fun _ => withSheetOf q thickness s) (letThrough l rest s)) := by
    rw [exec_laneEntry_popped hf hq hnow (by rw [harrive]; simp), harrive, endEvent_of_nothing_joined, if_pos rfl,
      purgeTest_of_idle (by simpa using hidle)]
    · refine giftedSince_eq_false fun k hk => ?_
      rw [hpackets, hbefore, hbefore] at hk
      split at hk
      · rename_i he
        subst he
        simpa [State.packet] using hk
      · simpa [State.packet] using hk
    · simp
    · simp
  have hlanes := popped_lanes hf hset hq l
  refine ⟨_, hexec, by simp, by simp, ?_, ?_, ?_, fun k hk => ?_, ?_⟩
  · simpa using hlanes.1
  · simpa using hlanes.2
  · rw [hpackets, if_pos rfl, hbefore, hpacket, withSheetOf, hsame]
    rfl
  · rw [hpackets, if_neg hk, hbefore]
  · exact (OnlyChanges.append (onlyChanges_letThrough l rest s) (onlyChanges_updatePacket _ _ _)).mono (by simp)

end
end Sys2Proof.Lanes

namespace Sys2Proof.Lanes

open Sys2Proof.Machine Sys2Proof.Safety Sys2Proof.ClassTable Sys2Proof.Requests Sys2Proof.Events

/-! # Releases, relief and the end of an event that hands a packet on (R80, R82, R86) -/

section
variable {s t u v : State} {l m : Lane} {n : Fin 24} {p q : Packet} {k : Key} {c : Nat}

/-! ## A packet and its slot moved (R50) -/

theorem slotOf_congr (h : t.packets = s.packets) (k : Key) : t.slotOf k = s.slotOf k := by
  rw [State.slotOf, State.slotOf, State.packet, State.packet, h]

theorem packet_congr (h : t.packets = s.packets) (k : Key) : t.packet k = s.packet k := by
  rw [State.packet, State.packet, h]

theorem slot_congr (h : t.slots = s.slots) (n : Fin 24) : t.slot n = s.slot n := by
  rw [State.slot, State.slot, h]

theorem packet_movePacket (k : Key) (h : SlotHold) (s : State) (j : Key) :
    (movePacket k h s).packet j
      = if j = k then (s.packet k).map (fun p => { p with state := h.packetState }) else s.packet j := by
  unfold movePacket
  dsimp only
  rw [packet_updatePacket]
  · split <;> split <;> simp [State.packet]
  · simp

theorem slot_movePacket (k : Key) (h : SlotHold) (s : State) (n : Fin 24) :
    (movePacket k h s).slot n = if s.slotOf k = some n then (s.slot n).withHold h else s.slot n := by
  unfold movePacket
  cases hk : s.slotOf k with
  | none =>
    dsimp only
    rw [slot_congr (s := s) (by simp)]
    simp
  | some j =>
    dsimp only
    rw [slot_congr (s := setSlot j ((s.slot j).withHold h) s) (by simp), slot_setSlot]
    by_cases hj : n = j
    · simp [hj]
    · simp [hj, Ne.symm hj]

theorem onlyChanges_movePacket (k : Key) (h : SlotHold) (s : State) :
    OnlyChanges [.slots, .packets] s (movePacket k h s) := by
  unfold movePacket
  dsimp only
  refine OnlyChanges.append (ps := [.slots]) ?_ (onlyChanges_updatePacket _ _ _)
  split
  · exact onlyChanges_setSlots _ s
  · exact .refl _ s

theorem onlyChanges_setHeld (x : List Key) (s : State) : OnlyChanges [.held] s (s.setHeld x) := by
  intro p hp
  cases p <;> simp [Part.Same] at hp ⊢

theorem onlyChanges_setQueued (x : List Queued) (s : State) : OnlyChanges [.queued] s (s.setQueued x) := by
  intro p hp
  cases p <;> simp [Part.Same] at hp ⊢

/-! ## What an advance does to the packets of a class (R79, R80) -/

/-- From `s` to `t` HELD ranks of a class may have been released: their packets and slots have moved, they have left the held list and
joined a queue. -/
structure Releases (c : Nat) (s t : State) : Prop where
  packets : ∀ j, j.cls ≠ c ∨ s.rankAt j ≠ some .held → t.packet j = s.packet j
  ranks : ∀ j, j.cls ≠ c ∨ s.rankAt j ≠ some .held → t.rankAt j = s.rankAt j
  heldBefore : ∀ j, t.rankAt j = some .held → s.rankAt j = some .held
  slotOf : ∀ j, t.slotOf j = s.slotOf j
  known : ∀ j, (t.packet j).isSome = (s.packet j).isSome
  slots : ∀ n, (∀ j, j.cls = c → s.rankAt j = some .held → s.slotOf j ≠ some n) → t.slot n = s.slot n
  queue : s.queued <+: t.queued
  held : t.held ⊆ s.held
  parts : OnlyChanges [.classes, .slots, .packets, .held, .queued] s t

theorem Releases.refl (c : Nat) (s : State) : Releases c s s where
  packets _ _ := rfl
  ranks _ _ := rfl
  heldBefore _ := id
  slotOf _ := rfl
  known _ := rfl
  slots _ _ := rfl
  queue := List.prefix_rfl
  held := List.Subset.refl _
  parts := OnlyChanges.refl _ s

theorem Releases.trans (h : Releases c s t) (h' : Releases c t u) : Releases c s u where
  packets j hj := (h'.packets j (hj.imp_right fun hs ht => hs (h.heldBefore j ht))).trans (h.packets j hj)
  ranks j hj := (h'.ranks j (hj.imp_right fun hs ht => hs (h.heldBefore j ht))).trans (h.ranks j hj)
  heldBefore j := h.heldBefore j ∘ h'.heldBefore j
  slotOf j := (h'.slotOf j).trans (h.slotOf j)
  known j := (h'.known j).trans (h.known j)
  slots n hn := (h'.slots n fun j hj ht => by
    rw [h.slotOf]
    exact hn j hj (h.heldBefore j ht)).trans (h.slots n hn)
  queue := h.queue.trans h'.queue
  held := fun _ hk => h.held (h'.held hk)
  parts := h.parts.trans h'.parts

/-- The packet of a released rank moves, and no other (R80). -/
theorem packet_release (k : Key) (s : State) (j : Key) :
    (release k s).packet j = if j = k then (s.packet k).map (fun p => { p with state := .queued }) else s.packet j := by
  have e : (release k s).packet j = (movePacket k .queued (leaveHeld k (setRank k .released s))).packet j :=
    packet_congr (by simp [release]) j
  rw [e, packet_movePacket]
  simp only [packet_congr (s := s) (t := leaveHeld k (setRank k .released s)) (by simp)]
  rfl

theorem slot_release (k : Key) (s : State) (n : Fin 24) :
    (release k s).slot n = if s.slotOf k = some n then (s.slot n).withHold .queued else s.slot n := by
  have e : (release k s).slot n = (movePacket k .queued (leaveHeld k (setRank k .released s))).slot n :=
    slot_congr (by simp [release]) n
  rw [e, slot_movePacket, slotOf_congr (s := s) (by simp), slot_congr (s := s) (by simp)]

theorem rankAt_release (k : Key) (s : State) (j : Key) :
    (release k s).rankAt j = if j = k ∧ (s.rankAt k).isSome then some .released else s.rankAt j := by
  rw [← rankAt_setRank]
  exact rankAt_congr (by simp [release]) j

theorem release_lists (k : Key) (s : State) :
    (release k s).queued = s.queued ++ [{ queue := s.classQueue k.cls, key := k }]
      ∧ (release k s).held = s.held.filter (fun h => h ≠ k) := by
  refine ⟨?_, ?_⟩
  · simp [release, joinFinishing]
  · simp [release, leaveHeld]

theorem onlyChanges_release (k : Key) (s : State) :
    OnlyChanges [.classes, .slots, .packets, .held, .queued] s (release k s) :=
  (OnlyChanges.append (onlyChanges_setRank k .released s) (OnlyChanges.append (onlyChanges_setHeld _ _)
    (OnlyChanges.append (onlyChanges_movePacket k .queued _) (onlyChanges_setQueued _ _)))).mono (by simp)

theorem release_releases (h : s.rankAt k = some .held) : Releases k.cls s (release k s) where
  packets j hj := by
    rw [packet_release, if_neg]
    rintro rfl
    exact hj.elim (fun e => e rfl) (fun e => e h)
  ranks j hj := by
    rw [rankAt_release, if_neg]
    rintro ⟨rfl, -⟩
    exact hj.elim (fun e => e rfl) (fun e => e h)
  heldBefore j hj := by
    rw [rankAt_release] at hj
    split at hj
    · cases hj
    · exact hj
  slotOf j := by
    rw [State.slotOf, State.slotOf, packet_release]
    by_cases hj : j = k
    · subst hj
      cases s.packet j <;> simp
    · simp [hj]
  known j := by
    rw [packet_release]
    split
    · rename_i hj
      rw [hj, Option.isSome_map]
    · rfl
  slots n hn := by rw [slot_release, if_neg (hn k rfl h)]
  queue := by
    rw [(release_lists k s).1]
    exact List.prefix_append _ _
  held := by
    rw [(release_lists k s).2]
    exact List.filter_subset_self _
  parts := onlyChanges_release k s

theorem rankAt_bumpCursor (c : Nat) (s : State) (j : Key) : (bumpCursor c s).rankAt j = s.rankAt j := by
  rw [State.rankAt, bumpCursor, State.classRec_setClassRec]
  split
  · rename_i h
    rw [State.rankAt, h.1]
    rfl
  · rfl

theorem bumpCursor_releases (c : Nat) (s : State) : Releases c s (bumpCursor c s) where
  packets j _ := packet_congr (by simp) j
  ranks j _ := rankAt_bumpCursor c s j
  heldBefore j := by
    rw [rankAt_bumpCursor]
    exact id
  slotOf j := slotOf_congr (by simp) j
  known j := by rw [packet_congr (s := s) (by simp)]
  slots n _ := slot_congr (by simp) n
  queue := by simp
  held := by simp
  parts := (onlyChanges_setClassRec c _ s).mono (by simp)

theorem advance_releases (c fuel : Nat) (s : State) : Releases c s (advance c fuel s) := by
  induction fuel generalizing s with
  | zero => exact .refl c s
  | succ fuel ih =>
    rw [advance_succ]
    split
    · refine Releases.trans ?_ (ih _)
      unfold passOver
      split
      · rename_i hh
        exact (release_releases (k := { cls := c, rank := (s.classRec c).cursor }) hh).trans (bumpCursor_releases c _)
      · exact bumpCursor_releases c s
    · exact .refl c s

theorem cursorAdvance_releases (c : Nat) (s : State) : Releases c s (cursorAdvance c s) := advance_releases c _ s

theorem queued_prefix_orderStep (c : Nat) (s : State) : s.queued <+: (orderStep c s).queued := by
  have e : (orderStep c s).queued = (cursorAdvance c s).queued := by simp [orderStep]
  rw [e]
  exact (advance_releases c _ s).queue

/-! ## Relief at the end of an event (R85 to R87) -/

theorem reliefCondition_iff (s : State) : s.reliefCondition = true ↔ ReliefDue s := by
  have hcur : s.awaitsTransfer = false ↔ ∀ c, s.fin.current = some c → s.slotOf c.key = none := by
    cases hc : s.fin.current <;> simp [State.awaitsTransfer, hc]
  simp only [State.reliefCondition, ReliefDue, Bool.and_eq_true, Bool.not_eq_true', hcur, List.isEmpty_eq_false_iff,
    List.isEmpty_iff, Option.isNone_iff_eq_none, lowestFree_eq_none, and_assoc, ne_eq]

theorem tryRelief_of_not_due (h : ¬ReliefDue s) : tryRelief s = s := by
  rw [tryRelief, if_neg (by rwa [reliefCondition_iff])]

/-- Relief puts a packet in a finishing queue (R87). -/
theorem queued_tryRelief_of_due (h : ReliefDue s) : (tryRelief s).queued ≠ [] := by
  obtain ⟨-, -, -, -, hheld⟩ := id h
  rw [tryRelief, if_pos ((reliefCondition_iff s).mpr h)]
  split
  · rename_i k rest _
    refine List.IsPrefix.ne_nil (queued_prefix_orderStep k.cls _) ?_
    simp [joinFinishing]
  · contradiction

/-- An event that has joined a packet to the held list, or names relief, tries relief and ends (R86). -/
theorem endsWithRelief {relief purge : Bool} (hjoin : (relief || giftedSince s u || heldSince s u) = true)
    (hq : u.queued = s.queued) (hp : purge = true → u.purge = .idle) :
    EndsWithRelief u (.next (endEvent s { relief := relief, purge := purge, pass := false } u)) := by
  have e : endEvent s { relief := relief, purge := purge, pass := false } u
      = if queuedSince s (tryRelief u) then selectionPass (tryRelief u) else tryRelief u := by
    simp only [endEvent, hjoin, if_true]
    cases purge
    · simp
    · simp [purgeTest_of_idle (s := tryRelief u) (by simpa using hp rfl)]
  rw [e]
  refine ⟨fun h => ?_, fun h => ?_⟩
  · have hsince : queuedSince s (tryRelief u) = true := by
      have hempty : s.queued = [] := hq ▸ h.2.2.1
      obtain ⟨x, hx⟩ := List.exists_mem_of_ne_nil _ (queued_tryRelief_of_due h)
      exact List.any_eq_true.mpr ⟨x, hx, by simp [hempty]⟩
    rw [if_pos hsince]
  · rw [tryRelief_of_not_due h, queuedSince_eq_false (by rw [hq]; exact List.Subset.refl _)]
    rfl

/-- An event that has joined a packet to a finishing queue, and neither a slot to a key nor a packet to the held list, ends with a
pass (R109). -/
theorem endEvent_of_queued (hg : giftedSince s u = false) (hh : u.held ⊆ s.held) (hp : u.purge = .idle)
    (hq : queuedSince s u = true) (purge : Bool) :
    endEvent s { relief := false, purge := purge, pass := false } u = selectionPass u := by
  have e : ∀ b : Bool, (if b then purgeTest u else u) = u := fun b => by rw [purgeTest_of_idle hp, ite_self]
  simp [endEvent, hg, heldSince_eq_false hh, e, hq]

end
end Sys2Proof.Lanes

namespace Sys2Proof.Lanes

open Sys2Proof.Machine Sys2Proof.Safety Sys2Proof.ClassTable Sys2Proof.Requests Sys2Proof.Events

/-! # A completed packet is handed on (R64, R65, R82, R83) -/

section
variable {s t u v : State} {l m : Lane} {e : Entry} {rest : List Entry} {n : Fin 24} {p q x : Packet} {k : Key} {b : State}
  {h : SlotHold} {r : RankState}

/-! ## What is handed on, and what stays -/

/-- From `b` to `v` the packet of a key, its slot and its rank have moved; any other packet and rank may have moved only of a HELD
rank of its class. -/
structure HandedOn (k : Key) (n : Fin 24) (x : Packet) (h : SlotHold) (r : RankState) (b v : State) : Prop where
  packet : v.packet k = some x
  place : x.slot = some n
  slot : ∃ m, b.slot n = .occupied .collecting m k ∧ v.slot n = .occupied h m k
  rank : v.rankAt k = some r
  packets : ∀ j, j ≠ k → j.cls ≠ k.cls ∨ b.rankAt j ≠ some .held → v.packet j = b.packet j
  ranks : ∀ j, j ≠ k → j.cls ≠ k.cls ∨ b.rankAt j ≠ some .held → v.rankAt j = b.rankAt j
  heldBefore : ∀ j, j ≠ k → v.rankAt j = some .held → b.rankAt j = some .held
  slotOf : ∀ j, v.slotOf j = b.slotOf j
  known : ∀ j, (v.packet j).isSome = (b.packet j).isSome
  parts : OnlyChanges [.classes, .slots, .packets, .held, .queued] b v

/-- A slot holds one packet at most, so the advance that follows leaves what has been handed on (R50, R79). -/
theorem HandedOn.releases (hv : HandedOn k n x h r b v) (hr : r ≠ .held) (hslots : ∀ j, b.slotOf j = some n → j = k)
    (hu : Releases k.cls v u) : HandedOn k n x h r b u where
  packet := by rw [hu.packets k (.inr (by rw [hv.rank]; simpa using hr)), hv.packet]
  place := hv.place
  slot := by
    obtain ⟨m, hb, hs⟩ := hv.slot
    refine ⟨m, hb, (hu.slots n fun j _ hj hslot => hr ?_).trans hs⟩
    rw [hv.slotOf] at hslot
    rw [hslots j hslot, hv.rank] at hj
    exact Option.some.inj hj
  rank := by rw [hu.ranks k (.inr (by rw [hv.rank]; simpa using hr)), hv.rank]
  packets j hjk hj := (hu.packets j (hj.imp_right fun hb hj => hb (hv.heldBefore j hjk hj))).trans (hv.packets j hjk hj)
  ranks j hjk hj := (hu.ranks j (hj.imp_right fun hb hj => hb (hv.heldBefore j hjk hj))).trans (hv.ranks j hjk hj)
  heldBefore j hjk hj := hv.heldBefore j hjk (hu.heldBefore j hj)
  slotOf j := (hu.slotOf j).trans (hv.slotOf j)
  known j := (hu.known j).trans (hv.known j)
  parts := hv.parts.trans hu.parts

/-- Where the class has the packet, its done condition does not hold, so only the advance follows (R8, R78). -/
theorem orderStep_of_packet (hk : v.packet k = some x) : orderStep k.cls v = cursorAdvance k.cls v := by
  obtain ⟨hmem, hkey⟩ := mem_of_packet hk
  have hsome : ((cursorAdvance k.cls v).packet k).isSome = true := by
    rw [cursorAdvance, (advance_releases k.cls _ v).known, hk]
    rfl
  obtain ⟨y, hy⟩ := Option.isSome_iff_exists.mp hsome
  obtain ⟨hmem', hkey'⟩ := mem_of_packet hy
  rw [orderStep, doneCheck_of_packet hmem' (by rw [hkey'])]

/-! ## The state in which a completed packet stands -/

/-- The packet with its last sheet in it, its timer stopped (R63, R64). -/
def completedPacket (q : Packet) (thickness : Nat) : Packet :=
  { q with sheetsHeld := q.sheetsHeld + 1, height := q.height + thickness, timer := .stopped }

/-- The state in which a completed packet is handed on. -/
def completedState (l : Lane) (rest : List Entry) (x : Packet) (s : State) : State :=
  updatePacket x.key (fun _ => x) (letThrough l rest s)

theorem settlePlaced_of_complete (hq : AllSheetsIn q) (thickness : Nat) (s : State) :
    let x := completedPacket q thickness
    settlePlaced (withSheetOf q thickness s) (letThrough l rest s)
      = if q.flags.disordered then queueForTray x.key (completedState l rest x s)
        else handCompleted x.key (completedState l rest x s) := by
  intro x
  have hc : (withSheetOf q thickness s).isComplete = true := (isComplete_iff _).mpr hq
  rw [settlePlaced, if_pos hc]
  rfl

/-- The packet, the slots and the ranks of the state in which a packet is handed on. -/
theorem completedState_reads (hx : (s.packet x.key).isSome = true) (l : Lane) (rest : List Entry) :
    (completedState l rest x s).packet x.key = some x
      ∧ (∀ j, j ≠ x.key → (completedState l rest x s).packet j = s.packet j)
      ∧ (∀ j, (completedState l rest x s).slot j = s.slot j) ∧ (∀ j, (completedState l rest x s).rankAt j = s.rankAt j)
      ∧ (∀ c, (completedState l rest x s).classRec c = s.classRec c)
      ∧ (completedState l rest x s).held = s.held ∧ (completedState l rest x s).queued = s.queued := by
  obtain ⟨y, hy⟩ := Option.isSome_iff_exists.mp hx
  have hp := packet_replace (q := x) rfl (letThrough l rest s)
  have hb : ∀ j, (letThrough l rest s).packet j = s.packet j := packet_congr (by simp)
  refine ⟨?_, fun j hj => ?_, slot_congr (by simp [completedState]), rankAt_congr (by simp [completedState]),
    classRec_congr (by simp [completedState]), by simp [completedState], by simp [completedState]⟩
  · rw [completedState, hp, if_pos rfl, hb, hy]
    rfl
  · rw [completedState, hp, if_neg hj, hb]

/-! ## The ways on -/

/-- From `b` to `v` the packet of a key, its slot and its rank have moved, and no other packet and rank. -/
structure MovedAlone (k : Key) (n : Fin 24) (x : Packet) (h : SlotHold) (r : RankState) (b v : State) : Prop where
  packet : ∀ j, v.packet j = if j = k then some x else b.packet j
  place : x.slot = some n
  slot : ∃ m, b.slot n = .occupied .collecting m k ∧ v.slot n = .occupied h m k
  rank : ∀ j, v.rankAt j = if j = k then some r else b.rankAt j
  parts : OnlyChanges [.classes, .slots, .packets, .held, .queued] b v

theorem MovedAlone.handedOn {y : Packet} (hv : MovedAlone k n x h r b v) (hp : b.packet k = some y) (hy : y.slot = some n) :
    HandedOn k n x h r b v where
  packet := by rw [hv.packet, if_pos rfl]
  place := hv.place
  slot := hv.slot
  rank := by rw [hv.rank, if_pos rfl]
  packets j hjk _ := by rw [hv.packet, if_neg hjk]
  ranks j hjk _ := by rw [hv.rank, if_neg hjk]
  heldBefore j hjk hj := by rwa [hv.rank, if_neg hjk] at hj
  slotOf j := by
    rw [State.slotOf, State.slotOf, hv.packet]
    by_cases hjk : j = k
    · subst hjk
      simp [hp, hv.place, hy]
    · simp [hjk]
  known j := by
    rw [hv.packet]
    by_cases hjk : j = k
    · subst hjk
      simp [hp]
    · simp [hjk]
  parts := hv.parts

/-- A packet bound for the exception tray, before the advance (R65). -/
def trayQueued (k : Key) (b : State) : State := setRank k .missed (joinFinishing .normal k (movePacket k .queued b))

/-- A late packet, before the advance (R83). -/
def lateQueued (k : Key) (b : State) : State :=
  joinFinishing (b.classQueue k.cls) k
    (movePacket k .queued (setRank k .relieved (updateFlags k (fun f => { f with late := true }) b)))

/-- A packet that joins the held list, before the advance (R82). -/
def newlyHeld (k : Key) (b : State) : State :=
  (movePacket k .held (setRank k .held b)).setHeld ((movePacket k .held (setRank k .held b)).held ++ [k])

theorem queueForTray_eq (k : Key) (b : State) : queueForTray k b = orderStep k.cls (trayQueued k b) := rfl

theorem handCompleted_eq (k : Key) (b : State) :
    handCompleted k b
      = if k.rank < (b.classRec k.cls).cursor then orderStep k.cls (lateQueued k b) else orderStep k.cls (newlyHeld k b) := rfl

section
variable {i : Bool} (hp : b.packet k = some x) (hx : x.slot = some n) (hslot : b.slot n = .occupied .collecting i k)
  (hrank : (b.rankAt k).isSome = true)
include hp hx hslot hrank

theorem trayQueued_moved : MovedAlone k n { x with state := .queued } .queued .missed b (trayQueued k b) := by
  refine ⟨fun j => ?_, hx, ⟨i, hslot, ?_⟩, fun j => ?_, ?_⟩
  · rw [packet_congr (s := movePacket k .queued b) (by simp [trayQueued]), packet_movePacket, hp]
    rfl
  · rw [slot_congr (s := movePacket k .queued b) (by simp [trayQueued]), slot_movePacket, hslot]
    simp [State.slotOf, hp, hx, Slot.withHold]
  · have hb : ∀ j, (joinFinishing .normal k (movePacket k .queued b)).rankAt j = b.rankAt j := rankAt_congr (by simp)
    simp [trayQueued, rankAt_setRank, hb, hrank]
  · exact (OnlyChanges.append (onlyChanges_movePacket k .queued b)
      (OnlyChanges.append (onlyChanges_setQueued _ _) (onlyChanges_setRank k .missed _))).mono (by simp)

theorem lateQueued_moved :
    MovedAlone k n { x with flags := { x.flags with late := true }, state := .queued } .queued .relieved b (lateQueued k b) := by
  have hflags : ∀ j, (setRank k .relieved (updateFlags k (fun f => { f with late := true }) b)).packet j
      = if j = k then some { x with flags := { x.flags with late := true } } else b.packet j := fun j => by
    rw [packet_congr (s := updateFlags k (fun f => { f with late := true }) b) (by simp), updateFlags, packet_updatePacket]
    · simp [hp]
    · simp
  refine ⟨fun j => ?_, hx, ⟨i, hslot, ?_⟩, fun j => ?_, ?_⟩
  · rw [packet_congr (s := movePacket k .queued (setRank k .relieved (updateFlags k (fun f => { f with late := true }) b)))
      (by simp [lateQueued]), packet_movePacket, hflags, hflags]
    by_cases hj : j = k <;> simp [hj, SlotHold.packetState]
  · rw [slot_congr (s := movePacket k .queued (setRank k .relieved (updateFlags k (fun f => { f with late := true }) b)))
      (by simp [lateQueued]), slot_movePacket, slot_congr (s := b) (by simp), hslot]
    simp [State.slotOf, hflags, hx, Slot.withHold]
  · rw [rankAt_congr (s := setRank k .relieved (updateFlags k (fun f => { f with late := true }) b)) (by simp [lateQueued]),
      rankAt_setRank]
    have hb : ∀ j, (updateFlags k (fun f => { f with late := true }) b).rankAt j = b.rankAt j := rankAt_congr (by simp)
    simp [hb, hrank]
  · exact (OnlyChanges.append (onlyChanges_updatePacket k _ b) (OnlyChanges.append (onlyChanges_setRank k .relieved _)
      (OnlyChanges.append (onlyChanges_movePacket k .queued _) (onlyChanges_setQueued _ _)))).mono (by simp)

theorem newlyHeld_moved : MovedAlone k n { x with state := .held } .held .held b (newlyHeld k b) := by
  have hb : ∀ j, (setRank k .held b).packet j = b.packet j := packet_congr (by simp)
  refine ⟨fun j => ?_, hx, ⟨i, hslot, ?_⟩, fun j => ?_, ?_⟩
  · rw [packet_congr (s := movePacket k .held (setRank k .held b)) (by simp [newlyHeld]), packet_movePacket, hb, hb, hp]
    rfl
  · rw [slot_congr (s := movePacket k .held (setRank k .held b)) (by simp [newlyHeld]), slot_movePacket,
      slot_congr (s := b) (by simp), slotOf_congr (s := b) (by simp), hslot]
    simp [State.slotOf, hp, hx, Slot.withHold]
  · rw [rankAt_congr (s := setRank k .held b) (by simp [newlyHeld]), rankAt_setRank]
    simp [hrank]
  · exact (OnlyChanges.append (onlyChanges_setRank k .held b)
      (OnlyChanges.append (onlyChanges_movePacket k .held _) (onlyChanges_setHeld _ _))).mono (by simp)

/-- At the cursor the packet that joins the held list is released by the first step of the advance (R79, R82). -/
theorem release_newlyHeld_moved :
    MovedAlone k n { x with state := .queued } .queued .released b (release k (newlyHeld k b)) := by
  obtain ⟨hpacket, -, ⟨m, hbslot, hvslot⟩, hvrank, hparts⟩ := newlyHeld_moved hp hx hslot hrank
  refine ⟨fun j => ?_, hx, ⟨m, hbslot, ?_⟩, fun j => ?_, ?_⟩
  · simp only [packet_release, hpacket, if_true]
    split <;> rfl
  · rw [slot_release, hvslot, State.slotOf, hpacket, if_pos rfl]
    simp [hx, Slot.withHold]
  · simp only [rankAt_release, hvrank, if_true, Option.isSome_some, and_true]
    split <;> rfl
  · exact hparts.trans (onlyChanges_release k _)

end

/-! ## The class's record and the lists -/

theorem classRec_newlyHeld (k : Key) (b : State) : (newlyHeld k b).classRec k.cls = (setRank k .held b).classRec k.cls :=
  classRec_congr (by simp [newlyHeld]) _

theorem classRec_lateQueued (k : Key) (b : State) :
    (lateQueued k b).classRec k.cls = (setRank k .relieved b).classRec k.cls := by
  rw [classRec_congr (s := setRank k .relieved (updateFlags k (fun f => { f with late := true }) b)) (by simp [lateQueued]),
    classRec_setRank, classRec_setRank, classRec_congr (s := b) (by simp), classRec_congr (s := b) (by simp)]

/-- A rank that moves away from the cursor leaves the cursor where it is (R78, R79). -/
theorem cursorAdvance_of_withRank (hb : ClassShape (b.classRec k.cls) ∧ AtRest (b.classRec k.cls)) (hk : k.cls < 48)
    (hv : v.classRec k.cls = (setRank k r b).classRec k.cls) (hne : k.rank ≠ (b.classRec k.cls).cursor)
    (hr : k.rank < (b.classRec k.cls).cursor ∨ (r ≠ .released ∧ r ≠ .delivered)) : cursorAdvance k.cls v = v := by
  rw [classRec_setRank, if_pos ⟨rfl, hk⟩] at hv
  refine cursorAdvance_of_atRest ?_ ?_ <;> rw [hv]
  · exact hb.1.withRank hr
  · exact hb.2.withRank (.inl hne)

theorem classQueue_newlyHeld (k : Key) (b : State) : (newlyHeld k b).classQueue k.cls = b.classQueue k.cls := by
  rw [State.classQueue, classRec_newlyHeld, classRec_setRank, State.classQueue]
  split <;> rfl

/-- A COLLECTING packet stands in neither queue and not in the held list (R51, R53). -/
theorem not_listed_of_collecting (ht : TowerKept s) (hp : s.packet k = some p) (hst : p.state = .collecting) :
    (∀ y ∈ s.queued, y.key ≠ k) ∧ k ∉ s.held := by
  refine ⟨fun y hy hk => ?_, fun hk => ?_⟩
  · obtain ⟨z, hz, hkey, hzst⟩ := ht.queuedPackets y hy
    have hzp := packet_of_mem ht hz
    rw [hkey, hk, hp] at hzp
    cases hzp
    simp [hst] at hzst
  · obtain ⟨z, hz, hkey, hzst⟩ := ht.heldPackets k hk
    have hzp := packet_of_mem ht hz
    rw [hkey, hp] at hzp
    cases hzp
    simp [hst] at hzst

end
end Sys2Proof.Lanes

namespace Sys2Proof.Lanes

open Sys2Proof.Machine Sys2Proof.Safety Sys2Proof.ClassTable Sys2Proof.Requests Sys2Proof.Events

/-! # The arrival that completes a packet (R38, R64, R82, R83) -/

section
variable {s t u v : State} {l m : Lane} {e : Entry} {rest : List Entry} {n : Fin 24} {p q x y : Packet} {k : Key}
  {h : SlotHold} {r : RankState}

/-! ## The state that an arrival hands a packet on in -/

theorem onlyChanges_completedState (l : Lane) (rest : List Entry) (x : Packet) (s : State) :
    OnlyChanges [.stamp, Part.lane l, Part.link l, .actions, .packets] s (completedState l rest x s) :=
  OnlyChanges.append (onlyChanges_letThrough l rest s) (onlyChanges_updatePacket x.key _ _)

theorem completedState_lane (l : Lane) (rest : List Entry) (x : Packet) (s : State) :
    (completedState l rest x s).lane l = (popped l rest s).lane l ∧ (completedState l rest x s).link l = (popped l rest s).link l
      ∧ (completedState l rest x s).stamp = s.stamp + 1#32 ∧ (completedState l rest x s).actions = [.divertGate l false]
      ∧ (completedState l rest x s).purge = s.purge := by
  simp [completedState]

/-- No other packet stands in the slot of a packet (R50). -/
theorem slotOf_completedState (ht : TowerKept s) (hx : (s.packet x.key).isSome = true) {g : SlotHold} {i : Bool}
    (hslot : s.slot n = .occupied g i x.key) (j : Key) (hj : (completedState l rest x s).slotOf j = some n) : j = x.key := by
  by_contra hne
  rw [State.slotOf, (completedState_reads hx l rest).2.1 j hne] at hj
  cases hp : s.packet j with
  | none => simp [hp] at hj
  | some y =>
    rw [hp] at hj
    obtain ⟨hmem, hkey⟩ := mem_of_packet hp
    obtain ⟨h', m', hslot', -⟩ := (ht.packets y hmem).slot n hj
    rw [hslot, Slot.occupied.injEq] at hslot'
    exact hne (hkey.symm.trans hslot'.2.2.symm)

/-- What the arrival and the hand-over leave together. -/
theorem HandedOn.ends (hf : (s.lane l).inFault = false) (hset : HoldsSettled s) (hq : (s.lane l).queue = e :: rest)
    (hx : (s.packet x.key).isSome = true) (hk : x.key = k) (hv : HandedOn k n y h r (completedState l rest x s) v) :
    v.packet k = some y ∧ (∃ m, s.slot n = .occupied .collecting m k ∧ v.slot n = .occupied h m k)
      ∧ v.rankAt k = some r ∧ v.stamp = s.stamp + 1#32 ∧ v.actions = [.divertGate l false]
      ∧ v.lane l = poppedLane l rest s ∧ v.link l = poppedLink l rest s l
      ∧ (∀ j, j.cls ≠ k.cls → v.packet j = s.packet j ∧ v.rankAt j = s.rankAt j)
      ∧ (∀ j, j ≠ k → s.rankAt j ≠ some .held → v.packet j = s.packet j ∧ v.rankAt j = s.rankAt j)
      ∧ OnlyChanges [.stamp, Part.lane l, Part.link l, .classes, .slots, .packets, .held, .queued, .actions] s v := by
  subst hk
  obtain ⟨-, hother, hslots, hranks, -, -, -⟩ := completedState_reads hx l rest
  obtain ⟨hlane, hlink, hstamp, hact, -⟩ := completedState_lane l rest x s
  obtain ⟨hpl, hpk⟩ := popped_lanes hf hset hq l
  have kept : ∀ j, j ≠ x.key → j.cls ≠ x.key.cls ∨ s.rankAt j ≠ some .held →
      v.packet j = s.packet j ∧ v.rankAt j = s.rankAt j := fun j hj hfree => by
    rw [← hranks] at hfree
    exact ⟨(hv.packets j hj hfree).trans (hother j hj), (hv.ranks j hj hfree).trans (hranks j)⟩
  refine ⟨hv.packet, ?_, hv.rank, ?_, ?_, ?_, ?_, fun j hj => kept j (fun e => hj (by rw [e])) (.inl hj),
    fun j hj hr => kept j hj (.inr hr), ?_⟩
  · obtain ⟨m, hb, hs⟩ := hv.slot
    exact ⟨m, (hslots n).symm.trans hb, hs⟩
  · exact (hv.parts .stamp (by simp)).trans hstamp
  · exact (hv.parts .actions (by simp)).trans hact
  · rw [OnlyChanges.lane hv.parts (by cases l <;> simp [Part.lane]), hlane, hpl, if_pos rfl]
  · rw [OnlyChanges.link hv.parts (by cases l <;> simp [Part.link]), hlink, hpk]
  · exact (OnlyChanges.append (onlyChanges_completedState l rest x s) hv.parts).mono (by simp)

/-! ## The four ways on (R65, R79, R82, R83) -/

/-- An advance that begins at a HELD rank releases its packet first (R79, R80). -/
theorem cursorAdvance_of_held_at_cursor (hr : v.rankAt k = some .held) (hcur : (v.classRec k.cls).cursor = k.rank)
    (hsize : (v.classRec k.cls).size ≠ 0) :
    ∃ fuel, cursorAdvance k.cls v = advance k.cls fuel (bumpCursor k.cls (release k v)) := by
  obtain ⟨fuel, hfuel⟩ := Nat.exists_eq_succ_of_ne_zero hsize
  have hheld : (v.classRec k.cls).rankAt (v.classRec k.cls).cursor = some .held := by
    rw [hcur]
    exact hr
  refine ⟨fuel, ?_⟩
  rw [cursorAdvance, hfuel, advance_succ, if_pos (by rw [hheld]; rfl), passOver, if_pos hheld, hcur]

/-- In `b` an arrival has completed the packet of a key, which stands in a slot; the event began in `s`. -/
structure Completes (s b : State) (k : Key) (n : Fin 24) (x : Packet) : Prop where
  packet : b.packet k = some x
  place : x.slot = some n
  before : (s.packet k).isSome = true
  others : ∀ j, j ≠ k → b.packet j = s.packet j
  slot : ∃ i, b.slot n = .occupied .collecting i k
  alone : ∀ j, b.slotOf j = some n → j = k
  opened : s.rankAt k = some .opened
  classes : ∀ c, b.classRec c = s.classRec c
  kept : ClassesKept s
  held : b.held = s.held
  queued : b.queued = s.queued
  idle : b.purge = .idle
  notQueued : ∀ z ∈ s.queued, z.key ≠ k
  notHeld : k ∉ s.held

namespace Completes

variable {b : State} (hc : Completes s b k n x)
include hc

theorem rankAt (j : Key) : b.rankAt j = s.rankAt j := by rw [State.rankAt, hc.classes, State.rankAt]

theorem isSome_rankAt : (b.rankAt k).isSome = true := by
  rw [hc.rankAt, hc.opened]
  rfl

theorem cls_lt : k.cls < 48 := lt_of_rankAt hc.opened

theorem recordKept : ClassShape (b.classRec k.cls) ∧ AtRest (b.classRec k.cls) := by
  rw [hc.classes]
  exact (classKept_iff _).mp (hc.kept k.cls)

theorem purge (hv : HandedOn k n y h r b v) : v.purge = .idle := (hv.parts .purge (by simp)).trans hc.idle

/-- The end of an arrival that has joined its packet to a finishing queue (R109). -/
theorem endEvent_of_joined (hv : HandedOn k n y h r b v) (hheld : v.held ⊆ s.held) {z : Queued} (hz : z.key = k)
    (hqueue : s.queued ++ [z] <+: v.queued) :
    endEvent (stamped s) { relief := false, purge := true, pass := false } v = selectionPass v := by
  refine endEvent_of_queued (giftedSince_eq_false fun j hj => ?_) (by simpa using hheld) (hc.purge hv) ?_ true
  · rw [hv.known] at hj
    rw [packet_congr (s := s) (by simp)]
    by_cases hjk : j = k
    · rw [hjk]
      exact hc.before
    · rwa [hc.others j hjk] at hj
  · refine List.any_eq_true.mpr ⟨z, hqueue.subset (by simp), ?_⟩
    have hz' : z ∉ s.queued := fun hm => hc.notQueued z hm hz
    simpa using hz'

/-- A DISORDERED packet goes to the end of the normal queue, its rank MISSED, and the advance follows (R65). -/
theorem queueForTray_ends : ∃ u, endEvent (stamped s) { relief := false, purge := true, pass := false } (queueForTray k b)
      = selectionPass u ∧ HandedOn k n { x with state := .queued } .queued .missed b u
    ∧ s.queued ++ [{ queue := .normal, key := k }] <+: u.queued := by
  obtain ⟨i, hslot⟩ := hc.slot
  have hm := (trayQueued_moved hc.packet hc.place hslot hc.isSome_rankAt).handedOn hc.packet hc.place
  have hadv := cursorAdvance_releases k.cls (trayQueued k b)
  have hu := hm.releases (by decide) hc.alone hadv
  have hqueue : s.queued ++ [{ queue := .normal, key := k }] <+: (cursorAdvance k.cls (trayQueued k b)).queued :=
    List.IsPrefix.trans (by simp [trayQueued, joinFinishing, hc.queued]) hadv.queue
  have hheld : (cursorAdvance k.cls (trayQueued k b)).held ⊆ s.held :=
    List.Subset.trans hadv.held (by simp [trayQueued, hc.held])
  exact ⟨_, by rw [queueForTray_eq, orderStep_of_packet hm.packet, hc.endEvent_of_joined hu hheld rfl hqueue], hu, hqueue⟩

/-- A packet below the cursor is late: to its class's queue, its rank RELIEVED, and the cursor stays (R83). -/
theorem lateQueued_ends (hlate : k.rank < (s.classRec k.cls).cursor) :
    endEvent (stamped s) { relief := false, purge := true, pass := false } (handCompleted k b) = selectionPass (lateQueued k b)
      ∧ MovedAlone k n { x with flags := { x.flags with late := true }, state := .queued } .queued .relieved b (lateQueued k b)
      ∧ (lateQueued k b).queued = s.queued ++ [{ queue := s.classQueue k.cls, key := k }]
      ∧ (lateQueued k b).held = s.held := by
  obtain ⟨i, hslot⟩ := hc.slot
  have hm := lateQueued_moved hc.packet hc.place hslot hc.isSome_rankAt
  have hu := hm.handedOn hc.packet hc.place
  have hown : b.classQueue k.cls = s.classQueue k.cls := by rw [State.classQueue, hc.classes, State.classQueue]
  have hqueue : (lateQueued k b).queued = s.queued ++ [{ queue := s.classQueue k.cls, key := k }] := by
    simp [lateQueued, joinFinishing, hc.queued, hown]
  have hheld : (lateQueued k b).held = s.held := by simp [lateQueued, hc.held]
  rw [← hc.classes] at hlate
  refine ⟨?_, hm, hqueue, hheld⟩
  rw [handCompleted_eq, if_pos hlate, orderStep_of_packet hu.packet,
    cursorAdvance_of_withRank hc.recordKept hc.cls_lt (classRec_lateQueued ..) (by omega) (.inl hlate),
    hc.endEvent_of_joined hu (by rw [hheld]; exact List.Subset.refl _) rfl (by rw [hqueue])]

theorem newlyHeld_lists : (newlyHeld k b).held = s.held ++ [k] ∧ (newlyHeld k b).queued = s.queued := by
  simp [newlyHeld, hc.held, hc.queued]

theorem classRec_newlyHeld :
    (newlyHeld k b).classRec k.cls = (s.classRec k.cls).withRank k.rank .held := by
  rw [Lanes.classRec_newlyHeld, classRec_setRank, if_pos ⟨rfl, hc.cls_lt⟩, hc.classes]

/-- A packet at the cursor is released at once, and the cursor moves on (R79, R82). -/
theorem newlyHeld_released (hat : k.rank = (s.classRec k.cls).cursor) :
    ∃ u, endEvent (stamped s) { relief := false, purge := true, pass := false } (handCompleted k b) = selectionPass u
      ∧ HandedOn k n { x with state := .queued } .queued .released b u
      ∧ s.queued ++ [{ queue := s.classQueue k.cls, key := k }] <+: u.queued
      ∧ (s.classRec k.cls).cursor < (u.classRec k.cls).cursor := by
  obtain ⟨i, hslot⟩ := hc.slot
  have hm := newlyHeld_moved hc.packet hc.place hslot hc.isSome_rankAt
  have hw := release_newlyHeld_moved hc.packet hc.place hslot hc.isSome_rankAt
  obtain ⟨hvheld, hvqueued⟩ := hc.newlyHeld_lists
  have hrec := hc.classRec_newlyHeld
  have hsize : k.rank < (s.classRec k.cls).size := by
    rw [← ((classKept_iff _).mp (hc.kept k.cls)).1.rankAt_isSome, ← State.rankAt, hc.opened]
    rfl
  obtain ⟨fuel, hfuel⟩ := cursorAdvance_of_held_at_cursor (v := newlyHeld k b) (by rw [hm.rank, if_pos rfl])
    (by rw [hrec, withRank_cursor, hat]) (by rw [hrec, withRank_size]; omega)
  obtain ⟨w, hwdef⟩ : ∃ w, w = bumpCursor k.cls (release k (newlyHeld k b)) := ⟨_, rfl⟩
  rw [← hwdef] at hfuel
  have hadv : Releases k.cls (release k (newlyHeld k b)) (advance k.cls fuel w) :=
    hwdef ▸ (bumpCursor_releases k.cls _).trans (advance_releases k.cls fuel _)
  have hu := (hw.handedOn hc.packet hc.place).releases (by decide) hc.alone hadv
  obtain ⟨hlist, hheld⟩ := release_lists k (newlyHeld k b)
  have hown : b.classQueue k.cls = s.classQueue k.cls := by rw [State.classQueue, hc.classes, State.classQueue]
  have hqueue : s.queued ++ [{ queue := s.classQueue k.cls, key := k }] <+: (advance k.cls fuel w).queued := by
    refine List.IsPrefix.trans ?_ hadv.queue
    rw [hlist, classQueue_newlyHeld, hown, hvqueued]
  have hsub : (advance k.cls fuel w).held ⊆ s.held := List.Subset.trans hadv.held (by
    rw [hheld, hvheld]
    simp)
  have hcursor : (w.classRec k.cls).cursor = (s.classRec k.cls).cursor + 1 := by
    rw [hwdef, bumpCursor, State.classRec_setClassRec, if_pos ⟨rfl, hc.cls_lt⟩, classRec_release, if_pos ⟨rfl, hc.cls_lt⟩, hrec]
    rfl
  have hmoves := (advance_moves k.cls fuel w).cursors k.cls
  refine ⟨_, ?_, hu, hqueue, by omega⟩
  rw [handCompleted_eq, if_neg (by rw [hc.classes]; omega), orderStep_of_packet (hm.handedOn hc.packet hc.place).packet, hfuel,
    hc.endEvent_of_joined hu hsub rfl hqueue]

/-- A packet above the cursor joins the held list, and relief is tried (R82, R86). -/
theorem newlyHeld_ends (habove : (s.classRec k.cls).cursor < k.rank) :
    EndsWithRelief (newlyHeld k b)
        (.next (endEvent (stamped s) { relief := false, purge := true, pass := false } (handCompleted k b)))
      ∧ MovedAlone k n { x with state := .held } .held .held b (newlyHeld k b)
      ∧ ((newlyHeld k b).classRec k.cls).cursor = (s.classRec k.cls).cursor := by
  obtain ⟨i, hslot⟩ := hc.slot
  have hm := newlyHeld_moved hc.packet hc.place hslot hc.isSome_rankAt
  have hu := hm.handedOn hc.packet hc.place
  obtain ⟨hheld, hqueued⟩ := hc.newlyHeld_lists
  have hsince : heldSince (stamped s) (newlyHeld k b) = true :=
    List.any_eq_true.mpr ⟨k, by simp [hheld], by simpa using hc.notHeld⟩
  refine ⟨?_, hm, by rw [hc.classRec_newlyHeld, withRank_cursor]⟩
  rw [← hc.classes] at habove
  rw [handCompleted_eq, if_neg (by omega), orderStep_of_packet hu.packet,
    cursorAdvance_of_withRank hc.recordKept hc.cls_lt (Lanes.classRec_newlyHeld ..) (by omega) (.inr (by decide))]
  exact endsWithRelief (by simp [hsince]) (by simp [hqueued]) fun _ => hc.purge hu

end Completes

/-- The state in which the tower hands a COLLECTING packet of a slot on. -/
theorem completes_completedState (ht : TowerKept s) (hk : ClassesKept s) (hidle : s.purge = .idle) (hp : s.packetIn n = some p)
    (hstate : p.state = .collecting) (hkey : x.key = p.key) (hslot : x.slot = p.slot) (l : Lane) (rest : List Entry) :
    Completes s (completedState l rest x s) p.key n x := by
  obtain ⟨hpacket, hplace, g, i, hs, hfit⟩ := slot_of_packetIn ht hp
  rw [hstate] at hfit
  cases hfit
  have hrank := (ht.packets p (mem_of_packet hpacket).1).rank
  rw [hstate] at hrank
  obtain ⟨hnotq, hnoth⟩ := not_listed_of_collecting ht hpacket hstate
  rw [← hkey] at hpacket hs hrank hnotq hnoth ⊢
  have hx : (s.packet x.key).isSome = true := Option.isSome_iff_exists.mpr ⟨p, hpacket⟩
  obtain ⟨-, -, -, -, hbpurge⟩ := completedState_lane l rest x s
  obtain ⟨hbp, hbother, hbslot, -, hbclass, hbheld, hbqueued⟩ := completedState_reads hx l rest
  exact
    { packet := hbp, place := hslot.trans hplace, before := hx, others := hbother, slot := ⟨i, (hbslot n).trans hs⟩
      alone := slotOf_completedState ht hx hs, opened := hrank, classes := hbclass, kept := hk, held := hbheld, queued := hbqueued
      idle := hbpurge.trans hidle, notQueued := hnotq, notHeld := hnoth }

/-- Settles O44: the arrival hands the completed packet on, by one of four ways. -/
theorem completedPacketIsHandedOn : Obligations.CompletedPacketIsHandedOn := by
  intro l e rest n p q thickness s hf hset ht hk hidle hq hv hnow hp hkey hgen hstale hstate hplaced hall hth k cursor ends alone own
  obtain ⟨hsame, -⟩ := decidePlacement_placed hplaced
  obtain ⟨b, hb⟩ : ∃ b, b = completedState l rest (completedPacket q thickness) s := ⟨_, rfl⟩
  have hxkey : (completedPacket q thickness).key = k := by rw [hsame]; rfl
  have hc : Completes s b k n (completedPacket q thickness) :=
    hb ▸ completes_completedState ht hk hidle hp hstate hxkey (by rw [hsame]; rfl) l rest
  have hends : ∀ {f x h r u}, HandedOn k n { completedPacket q thickness with flags := f, state := x } h r b u →
      ends x h f r u := fun hu => by
    obtain ⟨hpk, hrest⟩ := (hb ▸ hu).ends hf hset hq (hxkey ▸ hc.before) hxkey
    have hsheets : q.sheetsHeld = p.sheetsHeld := by rw [hsame]
    have hheight : q.height = p.height := by rw [hsame]
    exact ⟨by rw [hpk, completedPacket, hsheets, hheight], hrest⟩
  have halone : ∀ {y h r u}, MovedAlone k n y h r b u → alone u := fun hu j hj =>
    ⟨by rw [hu.packet, if_neg hj, hc.others j hj], by rw [hu.rank, if_neg hj, hc.rankAt]⟩
  have harrive := arrive_of_placed (rest := rest) hf hv hp hkey hgen hstale hstate hplaced hth
  have hexec : exec (.laneEntry l) s = .next (endEvent (stamped s) { relief := false, purge := true, pass := false }
      (if q.flags.disordered then queueForTray k b else handCompleted k b)) := by
    rw [exec_laneEntry_popped hf hq hnow (by rw [harrive]; simp), harrive, settlePlaced_of_complete hall, hxkey, ← hb]
  refine ⟨fun hd => ?_, fun hd hlate => ?_, fun hd hat => ?_, fun hd habove => ?_⟩ <;> rw [hd] at hexec
  · obtain ⟨u, hu, hmoved, hqueue⟩ := hc.queueForTray_ends
    exact ⟨u, hexec.trans (congrArg _ hu), hends hmoved, hqueue⟩
  · obtain ⟨hu, hmoved, hqueue, hheld⟩ := hc.lateQueued_ends hlate
    exact ⟨_, hexec.trans (congrArg _ hu), hends (hmoved.handedOn hc.packet hc.place), hqueue, hheld, halone hmoved⟩
  · obtain ⟨u, hu, hmoved, hqueue, hcursor⟩ := hc.newlyHeld_released hat
    exact ⟨u, hexec.trans (congrArg _ hu), hends hmoved, hqueue, hcursor⟩
  · obtain ⟨hu, hmoved, hcursor⟩ := hc.newlyHeld_ends habove
    obtain ⟨hheld, hqueued⟩ := hc.newlyHeld_lists
    exact ⟨_, hexec ▸ hu, hends (hmoved.handedOn hc.packet hc.place), halone hmoved, hqueued, hheld, hcursor⟩

end
end Sys2Proof.Lanes

namespace Sys2Proof.Lanes

open Sys2Proof.Machine Sys2Proof.Safety Sys2Proof.ClassTable Sys2Proof.Requests Sys2Proof.Events

/-! # Lane Clear (R45, R46) -/

section
variable {s t u v : State} {l m link : Lane} {e : Entry} {n : Fin 24} {p : Packet} {k : Key} {tag b : Byte}

/-! ## What the end of an event may do to a lane -/

/-- A lane after an event's end: its state may have been evaluated and its expected sequence forgotten, and no more (R44, R48). -/
structure EndsAlike (u v : LaneUnit) : Prop where
  queue : v.queue = u.queue
  counter : v.counter = u.counter
  transit : v.transit = u.transit
  expected : u.expected = none → v.expected = none
  inFault : v.inFault = u.inFault

theorem EndsAlike.refl (u : LaneUnit) : EndsAlike u u := ⟨rfl, rfl, rfl, id, rfl⟩

theorem EndsAlike.trans {u v w : LaneUnit} (h : EndsAlike u v) (h' : EndsAlike v w) : EndsAlike u w :=
  ⟨h'.queue.trans h.queue, h'.counter.trans h.counter, h'.transit.trans h.transit, h'.expected ∘ h.expected,
    h'.inFault.trans h.inFault⟩

theorem EndsAlike.of_eq {u v : LaneUnit} (h : v = u) : EndsAlike u v := h ▸ .refl u

theorem evalHold_endsAlike (l m : Lane) (s : State) : EndsAlike (s.lane m) ((evalHold l s).lane m) := by
  obtain ⟨x, e, hf, -⟩ := evalHold_lane l m s
  exact ⟨by rw [e], by rw [e], by rw [e], by rw [e]; exact id, hf⟩

theorem purgeLaneEnd_endsAlike (l m : Lane) (s : State) : EndsAlike (s.lane m) ((purgeLaneEnd l s).lane m) := by
  refine EndsAlike.trans ?_ (evalHold_endsAlike l m _)
  by_cases h : m = l
  · subst h
    simp only [State.setLane_lane]
    exact ⟨rfl, rfl, rfl, fun _ => rfl, rfl⟩
  · exact .of_eq (by simp [h])

theorem purgeTest_endsAlike (s : State) (m : Lane) : EndsAlike (s.lane m) ((purgeTest s).lane m) := by
  unfold purgeTest
  split
  · exact .refl _
  · split
    · exact .trans (.trans (.of_eq (by simp)) (purgeLaneEnd_endsAlike .a m (s.setPurge .idle)))
        ((purgeLaneEnd_endsAlike .b m _).trans (.of_eq (by simp)))
    · exact .refl _

theorem endEvent_endsAlike (s0 : State) (o : Occasion) (s : State) (m : Lane) :
    EndsAlike (s.lane m) ((endEvent s0 o s).lane m) := by
  have relief : ∀ (c : Bool) (u : State), (if c then tryRelief u else u).lane m = u.lane m := fun c u => by cases c <;> simp
  have test : ∀ (c : Bool) (u : State), EndsAlike (u.lane m) ((if c then purgeTest u else u).lane m) := fun c u => by
    cases c
    · exact .refl _
    · exact purgeTest_endsAlike u m
  have pass : ∀ (c : Bool) (u : State), (if c then selectionPass u else u).lane m = u.lane m := fun c u => by cases c <;> simp
  unfold endEvent
  dsimp only
  exact (EndsAlike.of_eq (relief _ s)).trans ((test _ _).trans (.of_eq (pass _ _)))

/-- Where no key waits and nothing joins a queue, an event that names relief ends as it is (R85, R86). -/
theorem endEvent_of_no_key_waiting (hu : u.unplaced = []) (hp : u.purge = .idle) (hq : u.queued ⊆ s.queued)
    (relief purge : Bool) : endEvent s { relief := relief, purge := purge, pass := false } u = u := by
  have hrelief : ∀ c : Bool, (if c then tryRelief u else u) = u := fun c => by
    rw [tryRelief_of_not_due (fun h => h.1 hu), ite_self]
  have htest : ∀ c : Bool, (if c then purgeTest u else u) = u := fun c => by rw [purgeTest_of_idle hp, ite_self]
  simp only [endEvent, hrelief, htest, queuedSince_eq_false hq, Bool.or_false, Bool.false_eq_true, if_false]

/-! ## The request -/

/-- A Lane Clear of one lane, refused unless that lane is in FAULT (R45). -/
theorem onLaneClear_of_lane (link l : Lane) (tag : Byte) (s : State) :
    onLaneClear link tag [laneCode l] s
      = if (s.lane l).inFault then
          endEvent s { relief := true, purge := true, pass := false } (reply link tag .ok 0x20#8 [] (clearLane l s))
        else reply link tag .state 0x20#8 [] s := by
  cases l <;> rfl

/-- The lane that leaves FAULT, and what its hold conditions make of it (R45, steps 2 to 4). -/
def restarted (l : Lane) (d : State) : State :=
  evalHold l (thawTimers (d.setLane l { d.lane l with state := .held, queue := [], expected := none, transit := none }))

theorem clearLane_eq (l : Lane) (s : State) : clearLane l s = restarted l (discardEntries l (s.lane l).queue.length s) := rfl

@[simp] theorem restarted_frame (l : Lane) (d : State) :
    (restarted l d).bins = d.bins ∧ (restarted l d).fin = d.fin ∧ (restarted l d).queued = d.queued
      ∧ (restarted l d).held = d.held ∧ (restarted l d).unplaced = d.unplaced ∧ (restarted l d).slots = d.slots
      ∧ (restarted l d).classes = d.classes ∧ (restarted l d).tray = d.tray ∧ (restarted l d).flags = d.flags
      ∧ (restarted l d).purge = d.purge ∧ (restarted l d).actions = d.actions := by
  simp [restarted]

theorem restarted_alike (l : Lane) (d : State) :
    EndsAlike { d.lane l with state := .held, queue := [], expected := none, transit := none } ((restarted l d).lane l) := by
  refine EndsAlike.trans (.of_eq ?_) (evalHold_endsAlike l l _)
  simp

theorem onlyChanges_thawTimers (s : State) : OnlyChanges [.packets] s (thawTimers s) := by
  rw [thawTimers]
  split
  · exact .refl _ s
  · exact onlyChanges_mapTimers _ s

theorem onlyChanges_restarted (l : Lane) (d : State) :
    OnlyChanges [Part.lane l, Part.link l, .packets] d (restarted l d) :=
  (OnlyChanges.append (onlyChanges_setLane l _ d)
    (OnlyChanges.append (onlyChanges_thawTimers _) (onlyChanges_evalHold l _))).mono (by simp)

/-- With nothing queued and no Purge the tray threshold alone may hold the lane (R44, R45). -/
theorem restarted_lane (hp : s.purge = .idle) (l : Lane) :
    let held := s.settings.exceptionCapacity - 12 ≤ s.tray
    (restarted l s).lane l
        = { s.lane l with state := if held then .held else .running, queue := [], expected := none, transit := none }
      ∧ (restarted l s).link l = if held then s.link l else sentLink (s.link l) s.attention .release [] := by
  intro held
  obtain ⟨w, hw⟩ : ∃ w, w = thawTimers
      (s.setLane l { s.lane l with state := .held, queue := [], expected := none, transit := none }) := ⟨_, rfl⟩
  have hl : w.lane l = { s.lane l with state := .held, queue := [], expected := none, transit := none } := by simp [hw]
  have hcond := holdCondition_eq_false_iff w l
  have hfree : w.holdCondition l = false ↔ ¬held := by
    rw [hcond, hl]
    simp [hw, hp, LaneUnit.inFault, held]
    omega
  rw [restarted, ← hw]
  by_cases hheld : held
  · have hc : w.holdCondition l = true := by simpa [hheld] using hfree
    rw [evalHold_of_settled ⟨fun h => by simp [hl] at h, fun _ => hc⟩, hl, if_pos hheld, if_pos hheld]
    simp [hw]
  · have ha : (setLaneState l .running w).attention = s.attention := attention_congr (by simp [hw])
    rw [evalHold_of_releases (by rw [hl]) (hfree.mpr hheld), sendUnsolicited_link, ha, if_neg hheld, if_neg hheld]
    simp [setLaneState, hw]

/-- The timers of the statements, running again (R67). -/
theorem thaw_eq (p : Packet) :
    ({ p with timer := match p.timer with
        | .frozen n => .running n
        | .running n => .running n
        | .stopped => .stopped } : Packet) = { p with timer := p.timer.thaw } := by
  cases h : p.timer <;> simp [CollectTimer.thaw]

theorem restarted_packets (l : Lane) (s : State) :
    (restarted l s).packets = if (s.lane (otherLane l)).inFault then s.packets
      else s.packets.map (fun p => { p with timer := p.timer.thaw }) := by
  have hfault : (s.setLane l { s.lane l with state := .held, queue := [], expected := none, transit := none }).anyFault
      = (s.lane (otherLane l)).inFault := by
    cases l <;> simp [State.anyFault, State.setLane, otherLane, LaneUnit.inFault, State.lane]
  rw [restarted, (onlyChanges_evalHold l _) .packets (by cases l <;> simp [Part.lane, Part.link]), thawTimers, hfault]
  split <;> simp [mapTimers]

theorem packet_restarted_eq_none (h : s.packet k = none) (l : Lane) : (restarted l s).packet k = none := by
  have hp := restarted_packets l s
  split at hp
  · rw [packet_congr hp, h]
  · rw [packet_congr (s := mapTimers CollectTimer.thaw s) (by rw [hp]; rfl), packet_map_timer, h]
    rfl

/-! ## A packet without a sheet is dropped with its lane's only entry (R46, R70) -/

/-- The rank of a packet is one of its class (R51). -/
theorem rankAt_isSome_of_packet (ht : TowerKept s) (hp : s.packet k = some p) : (s.rankAt k).isSome = true := by
  obtain ⟨hmem, rfl⟩ := mem_of_packet hp
  have hfit := (ht.packets p hmem).rank
  cases hr : s.rankAt p.key with
  | none => cases hs : p.state <;> simp [hs, hr, PacketState.fitsRank] at hfit
  | some x => rfl

theorem discardEntries_of_last (hq : (s.lane l).queue = [e]) :
    discardEntries l (s.lane l).queue.length s = discardEffect l e (setQueue l [] s) := by
  rw [hq, List.length_singleton, discardEntries, hq]
  rfl

/-- The drop of a packet whose only PLACE entry has been discarded, in a state with the packets, slots and classes of one that keeps
the laws (R46). -/
theorem discardEffect_of_dropped (ht : TowerKept s) (hk : ClassesKept s) (hv : e.verdict = .place n)
    (hp : s.packet e.key = some p) {i : Bool} (hslot : s.slot n = .occupied .collecting i e.key) (hplace : p.slot = some n)
    (hcover : p.coverReceived = false) (hsheets : p.sheetsHeld = 0) (hpackets : u.packets = s.packets)
    (hslots : u.slots = s.slots) (hclasses : u.classes = s.classes) (hu : u.unplaced = [])
    (hnone : u.lanePlaces e.key (otherLane l) = false) : discardEffect l e u = dropped e.key n i u := by
  obtain ⟨hmem, hkey⟩ := mem_of_packet hp
  have hstate : p.state = .collecting := by
    obtain ⟨g, m', hg, hfit⟩ := (ht.packets p hmem).slot n hplace
    rw [hslot, Slot.occupied.injEq] at hg
    obtain ⟨rfl, -, -⟩ := hg
    cases hs : p.state <;> simp [hs, PacketState.fitsSlot] at hfit
    rfl
  have hin : u.packetIn n = some p := by
    rw [State.packetIn, slot_congr hslots, hslot]
    exact (packet_congr hpackets _).trans hp
  have hcond : p.key = e.key ∧ p.untouched = true ∧ u.lanePlaces e.key (otherLane l) = false :=
    ⟨hkey, by simp [Packet.untouched, hstate, hcover, hsheets], hnone⟩
  rw [discardEffect, hv]
  dsimp only
  rw [hin]
  dsimp only
  rw [if_pos hcond]
  refine dropPacket_eq_dropped (fun c => by rw [classRec_congr hclasses]; exact hk c) ?_ (by rw [slot_congr hslots, hslot]) hu
  rw [rankAt_congr hclasses]
  exact rankAt_isSome_of_packet ht hp

theorem reply_lane (link : Lane) (tag : Byte) (code : ReplyCode) (kind : Byte) (data : List Byte) (s : State) (m : Lane) :
    (reply link tag code kind data s).lane m = s.lane m := by simp

theorem exec_laneClear (link : Lane) (tag : Byte) (body : List Byte) (s : State) :
    exec (.laneClear link tag body) s = .next (onLaneClear link tag body (frameCompleted link s)) := rfl

/-- A taken Lane Clear: entries discarded, lane restarted, Reply, end of the event (R45). -/
theorem exec_laneClear_taken (hf : (s.lane l).inFault = true) (link : Lane) (tag : Byte) :
    exec (.laneClear link tag [laneCode l]) s
      = .next (endEvent (frameCompleted link s) { relief := true, purge := true, pass := false }
          (reply link tag .ok 0x20#8 [] (restarted l (discardEntries l (s.lane l).queue.length (frameCompleted link s))))) := by
  have hframe : (frameCompleted link s).lane l = s.lane l := by simp
  rw [exec_laneClear, onLaneClear_of_lane, hframe, if_pos hf, clearLane_eq, hframe]

/-- The link of the cleared lane and that of its Reply; the Release comes first where they are one (R45; log entry 6). -/
theorem restarted_reply_link (hp : s.purge = .idle) (link l : Lane) (tag : Byte) :
    let held := s.settings.exceptionCapacity - 12 ≤ s.tray
    let t := reply link tag .ok 0x20#8 [] (restarted l (frameCompleted link s))
    (link ≠ l → t.link link = answeredLink (s.link link) s.attention tag .ok 0x20#8 []
        ∧ t.link l = if held then s.link l else sentLink (s.link l) s.attention .release [])
      ∧ (link = l → t.link l = answeredLink (if held then s.link l
          else sentLink (s.link l) s.attention .release []) s.attention tag .ok 0x20#8 []) := by
  intro held t
  obtain ⟨-, hlink⟩ := restarted_lane (s := frameCompleted link s) (by simpa using hp) l
  have hatt : (restarted l (frameCompleted link s)).attention = s.attention := attention_congr (by simp)
  have hatt' : (frameCompleted link s).attention = s.attention := attention_congr (by simp)
  rw [frameCompleted_link, hatt'] at hlink
  refine ⟨fun hne => ⟨?_, ?_⟩, fun heq => ?_⟩
  · have hother : (restarted l (frameCompleted link s)).link link = (frameCompleted link s).link link :=
      OnlyChanges.link (onlyChanges_restarted l (frameCompleted link s)) (by
        cases l <;> cases link <;> simp [Part.lane, Part.link] at hne ⊢)
    simp only [t, reply_link, if_true, hother, frameCompleted_link, hatt]
    rfl
  · simp only [t, reply_link, if_neg (Ne.symm hne), hlink, frameCompleted_frame]
    rfl
  · subst heq
    simp only [t, reply_link, if_true, hlink, hatt, frameCompleted_frame]
    by_cases hheld : held
    · rw [if_pos hheld, if_pos hheld]
      rfl
    · rw [if_neg hheld, if_neg hheld]
      rfl

/-- A taken Lane Clear of an empty queue, with no key waiting and no Purge: the restarted lane and the Reply, and no more. -/
theorem exec_laneClear_empty (hf : (s.lane l).inFault = true) (hq : (s.lane l).queue = []) (hp : s.purge = .idle)
    (hu : s.unplaced = []) (link : Lane) (tag : Byte) :
    exec (.laneClear link tag [laneCode l]) s
      = .next (reply link tag .ok 0x20#8 [] (restarted l (frameCompleted link s))) := by
  have hnone : discardEntries l (s.lane l).queue.length (frameCompleted link s) = frameCompleted link s := by rw [hq]; rfl
  rw [exec_laneClear_taken hf, hnone,
    endEvent_of_no_key_waiting (by simpa using hu) (by simpa using hp) (by simp) true true]

/-- A taken Lane Clear whose only entry drops the packet that it named: the drop comes before the restart (R45, R46). -/
theorem exec_laneClear_dropped (ht : TowerKept s) (hk : ClassesKept s) (hf : (s.lane l).inFault = true)
    (hq : (s.lane l).queue = [e]) (hv : e.verdict = .place n) (hp : s.purge = .idle) (hu : s.unplaced = [])
    (hpk : s.packet e.key = some p) (hplace : p.slot = some n) {i : Bool} (hslot : s.slot n = .occupied .collecting i e.key)
    (hcover : p.coverReceived = false) (hsheets : p.sheetsHeld = 0)
    (hnone : ∀ d ∈ (s.lane (otherLane l)).queue, d.key = e.key → ∀ j, d.verdict ≠ .place j) (link : Lane) (tag : Byte) :
    exec (.laneClear link tag [laneCode l]) s
      = .next (reply link tag .ok 0x20#8 [] (restarted l (dropped e.key n i (setQueue l [] (frameCompleted link s))))) := by
  have hne : otherLane l ≠ l := by cases l <;> decide
  have hplaces : (setQueue l [] (frameCompleted link s)).lanePlaces e.key (otherLane l) = false := by
    rw [← Bool.not_eq_true, lanePlaces_iff]
    rintro ⟨d, hd, hdk, j, hj⟩
    rw [setQueue_lane, if_neg hne] at hd
    exact hnone d (by simpa using hd) hdk j hj
  have hdrop : discardEntries l (s.lane l).queue.length (frameCompleted link s)
      = dropped e.key n i (setQueue l [] (frameCompleted link s)) := by
    have hframe : (frameCompleted link s).lane l = s.lane l := by simp
    rw [← hframe, discardEntries_of_last (hframe ▸ hq)]
    exact discardEffect_of_dropped ht hk hv hpk hslot hplace hcover hsheets (by simp) (by simp) (by simp) (by simp [hu]) hplaces
  rw [exec_laneClear_taken hf, hdrop,
    endEvent_of_no_key_waiting (by simp [hu, dropped]) (by simp [hp]) (by simp) true true]

/-- What a taken Lane Clear leaves of its lane, whatever its entries were and the event's end does (R45). -/
theorem laneClear_leaves (hf : (s.lane l).inFault = true) (link : Lane) (tag : Byte) :
    ∃ t, exec (.laneClear link tag [laneCode l]) s = .next t ∧ (t.lane l).inFault = false ∧ (t.lane l).queue = []
      ∧ (t.lane l).expected = none ∧ (t.lane l).transit = none ∧ (t.lane l).counter = (s.lane l).counter
      ∧ t.stamp = s.stamp ∧ t.tray = s.tray ∧ t.tables = s.tables ∧ t.now = s.now ∧ t.pending = s.pending := by
  have hframe : (frameCompleted link s).lane l = s.lane l := by simp
  obtain ⟨-, -, hcounter, -⟩ := discardEntries_keeps (lic := .none) l (s.lane l).queue.length (frameCompleted link s)
    (by rw [hframe]; exact hf)
  refine ⟨_, exec_laneClear_taken hf link tag, ?_⟩
  obtain ⟨x, hx⟩ : ∃ x, x = discardEntries l (s.lane l).queue.length (frameCompleted link s) := ⟨_, rfl⟩
  rw [← hx] at hcounter ⊢
  have hreply : (reply link tag .ok 0x20#8 [] (restarted l x)).lane l = (restarted l x).lane l := reply_lane ..
  have hends := ((restarted_alike l x).trans (.of_eq hreply)).trans
    (endEvent_endsAlike (frameCompleted link s) { relief := true, purge := true, pass := false } _ l)
  exact ⟨hends.inFault, hends.queue, hends.expected rfl, hends.transit, by rw [hends.counter, ← hframe, ← hcounter],
    by simp [hx, restarted]⟩

/-- Settles O42: the refusals, then the restarted lane, with nothing queued and with a dropped packet. -/
theorem laneClearRestartsTheLane : Obligations.LaneClearRestartsTheLane := by
  refine ⟨fun link l tag b s => ⟨fun hb => ⟨_, ?_, turnedAway_reply link tag .field 0x20#8 s⟩,
    fun hf => ⟨_, ?_, turnedAway_reply link tag .state 0x20#8 s⟩, fun hf => laneClear_leaves hf link tag⟩,
    fun link l tag s hf hq hp hu => ?_, fun link l tag e n i p s ht hk hf hq hv hp hu hpk hplace hslot hcover hsheets hnone => ?_⟩
  · have hcode : laneOfCode (byteAt [b] 0) = none := laneOfCode_of_ge hb
    rw [exec_laneClear, onLaneClear, withLength_of_length rfl, hcode]
    rfl
  · have hframe : (frameCompleted link s).lane l = s.lane l := by simp
    rw [exec_laneClear, onLaneClear_of_lane, hframe, if_neg (by simp [hf])]
  · intro held
    obtain ⟨hlane, -⟩ := restarted_lane (s := frameCompleted link s) (by simpa using hp) l
    obtain ⟨hne, heq⟩ := restarted_reply_link hp link l tag
    refine ⟨_, exec_laneClear_empty hf hq hp hu link tag, by simp, ?_, ?_, hne, heq, ?_⟩
    · simp only [frameCompleted_frame] at hlane
      rw [reply_lane]
      exact hlane
    · have hpackets := restarted_packets l (frameCompleted link s)
      simp only [frameCompleted_frame] at hpackets
      simp only [reply_frame, hpackets]
      split
      · rfl
      · exact List.map_congr_left fun p _ => (thaw_eq p).symm
    · refine (OnlyChanges.append (OnlyChanges.append (onlyChanges_frameCompleted link s)
        (onlyChanges_restarted l (frameCompleted link s))) (onlyChanges_reply link tag _ _ _ _)).mono ?_
      cases l <;> cases link <;> simp [Part.lane, Part.link]
  · have hkey : p.key = e.key := (mem_of_packet hpk).2
    rw [hkey] at hslot ⊢
    refine ⟨_, exec_laneClear_dropped ht hk hf hq hv hp hu hpk hplace hslot hcover hsheets hnone link tag, ?_⟩
    obtain ⟨c, hc⟩ : ∃ c, c = setQueue l [] (frameCompleted link s) := ⟨_, rfl⟩
    have hclass : c.classes = s.classes := by simp [hc]
    have hrank : (c.rankAt e.key).isSome = true := by
      rw [rankAt_congr hclass]
      exact rankAt_isSome_of_packet ht hpk
    rw [← hc]
    have hranks : ∀ j, (reply link tag .ok 0x20#8 [] (restarted l (dropped e.key n i c))).rankAt j
        = if j = e.key then some .waiting else s.rankAt j := fun j => by
      rw [rankAt_congr (s := dropped e.key n i c) (by simp), rankAt_dropped hrank, rankAt_congr hclass]
    have hslots : ∀ j, (reply link tag .ok 0x20#8 [] (restarted l (dropped e.key n i c))).slot j
        = if j = n then (if i then .fenced else .free) else s.slot j := fun j => by
      rw [slot_congr (s := dropped e.key n i c) (by simp), slot_dropped, slot_congr (s := s) (by simp [hc])]
    refine ⟨?_, by rw [hranks, if_pos rfl], by rw [hslots, if_pos rfl], fun j hj => by rw [hranks, if_neg hj],
      fun j hj => by rw [hslots, if_neg hj], by simp [hc]⟩
    rw [packet_congr (s := restarted l (dropped e.key n i c)) (by simp)]
    exact packet_restarted_eq_none (by rw [packet_dropped, if_pos rfl]) l

end
end Sys2Proof.Lanes

namespace Sys2Proof.Lanes

open Sys2Proof.Machine Sys2Proof.Safety Sys2Proof.ClassTable Sys2Proof.Requests Sys2Proof.Events

/-! # Announcements that are appended (R29, R30, R34) -/

section
variable {s t u v : State} {l m : Lane} {x : Announcement} {k : Key} {c : Nat}

/-! ## The completed frame and the verdict: neither reads what the other writes -/

theorem setClassRec_frameCompleted (l : Lane) (c : Nat) (r : ClassRec) (s : State) :
    (frameCompleted l s).setClassRec c r = frameCompleted l (s.setClassRec c r) := by
  unfold State.setClassRec
  cases finOf 48 c with
  | none => rfl
  | some i => cases l <;> rfl

theorem setRank_frameCompleted (l : Lane) (k : Key) (r : RankState) (s : State) :
    setRank k r (frameCompleted l s) = frameCompleted l (setRank k r s) := by
  rw [setRank, frameCompleted_classRec, setClassRec_frameCompleted]
  rfl

theorem activate_frameCompleted (l : Lane) (c : Nat) (s : State) :
    activate c (frameCompleted l s) = frameCompleted l (activate c s) := by
  rw [activate, activate, setClassState, frameCompleted_classRec, setClassRec_frameCompleted]
  split <;> rfl

theorem frameCompleted_unplaced (l : Lane) (s : State) : (frameCompleted l s).unplaced = s.unplaced := by simp

theorem setUnplaced_frameCompleted (l : Lane) (y : List Waiting) (s : State) :
    (frameCompleted l s).setUnplaced y = frameCompleted l (s.setUnplaced y) := by
  cases l <;> rfl

theorem created_frameCompleted (l : Lane) (k : Key) (n : Fin 24) (a : Assignment) (tag : BitVec 16) (s : State) :
    created k n a tag (frameCompleted l s) = frameCompleted l (created k n a tag s) := by
  have stores : ∀ (p : Packet) (z : Slot), setSlot n z (addPacket p (frameCompleted l s))
      = frameCompleted l (setSlot n z (addPacket p s)) := fun p z => by cases l <;> rfl
  rw [created, frameCompleted_classRec, stores, setRank_frameCompleted, activate_frameCompleted]
  rfl

theorem identityReason_frameCompleted (l : Lane) (x : Announcement) (s : State) :
    identityReason x (frameCompleted l s) = identityReason x s := by
  simp [identityReason, State.thickness, State.purging]

theorem openVerdict_frameCompleted (l : Lane) (x : Announcement) (s : State) :
    openVerdict x (frameCompleted l s) = openVerdict x s := by
  rw [openVerdict, openVerdict, packet_congr (s := s) (by simp)]

theorem frameCompleted_reads (l : Lane) (x : Announcement) (s : State) :
    (frameCompleted l s).assignmentOf x.key.cls = s.assignmentOf x.key.cls
      ∧ (frameCompleted l s).isUnplaced x.key = s.isUnplaced x.key ∧ (frameCompleted l s).lowestFree = s.lowestFree
      ∧ (frameCompleted l s).rankAt x.key = s.rankAt x.key := by
  have hslot : ∀ n, (frameCompleted l s).slot n = s.slot n := slot_congr (by simp)
  refine ⟨by simp [State.assignmentOf], by simp [State.isUnplaced], ?_, rankAt_congr (by simp) _⟩
  simp only [State.lowestFree, State.isFree, hslot]

theorem verdictOf_fst_frameCompleted (l : Lane) (x : Announcement) (s : State) :
    (verdictOf x (frameCompleted l s)).1 = (verdictOf x s).1 := by
  obtain ⟨hassign, hun, hfree, hrank⟩ := frameCompleted_reads l x s
  have hwaiting : (waitingVerdict x (frameCompleted l s)).1 = (waitingVerdict x s).1 := by
    rw [waitingVerdict, waitingVerdict, hassign, hun, hfree]
    repeat' split
    all_goals rfl
  rw [verdictOf, verdictOf, identityReason_frameCompleted, hrank, openVerdict_frameCompleted]
  cases identityReason x s with
  | some r => rfl
  | none =>
    cases s.rankAt x.key with
    | none => rfl
    | some r =>
      cases r
      case waiting => exact hwaiting
      all_goals rfl

/-- In a state that keeps the class laws the verdict writes no link and starts no action, and reads none. -/
theorem verdictOf_snd_frameCompleted (hk : ClassesKept s) (l : Lane) (x : Announcement) :
    (verdictOf x (frameCompleted l s)).2 = frameCompleted l (verdictOf x s).2 := by
  obtain ⟨hassign, hun, hfree, hrank⟩ := frameCompleted_reads l x s
  have hkept : ClassesKept (frameCompleted l s) := fun c => by
    rw [frameCompleted_classRec]
    exact hk c
  have hwaiting : s.rankAt x.key = some .waiting →
      (waitingVerdict x (frameCompleted l s)).2 = frameCompleted l (waitingVerdict x s).2 := fun hw => by
    have hcreate : ∀ n a, createPacket x.key n a x.jobTag (frameCompleted l s)
        = frameCompleted l (createPacket x.key n a x.jobTag s) := fun n a => by
      rw [createPacket_eq_created hkept (hrank.trans hw), createPacket_eq_created hk hw, created_frameCompleted]
    have hlist : activate x.key.cls ((frameCompleted l s).setUnplaced
          ((frameCompleted l s).unplaced ++ [{ key := x.key, jobTag := x.jobTag }]))
        = frameCompleted l (activate x.key.cls (s.setUnplaced (s.unplaced ++ [{ key := x.key, jobTag := x.jobTag }]))) := by
      rw [setUnplaced_frameCompleted, activate_frameCompleted, (frameCompleted_unplaced l s)]
    rw [waitingVerdict, waitingVerdict, hassign, hun, hfree]
    simp only [hcreate, hlist]
    repeat' split
    all_goals rfl
  rw [verdictOf, verdictOf, identityReason_frameCompleted, hrank]
  cases identityReason x s with
  | some r => rfl
  | none =>
    cases hr : s.rankAt x.key with
    | none => rfl
    | some r =>
      cases r
      case waiting => exact hwaiting hr
      all_goals rfl

/-! ## What a verdict sets up (R34, R54) -/

/-- In a state that keeps the class laws a verdict leaves the state, or creates a packet for a key that does not wait, or puts the
key at the end of the unplaced list. -/
theorem verdictOf_state (hk : ClassesKept s) (x : Announcement) :
    (verdictOf x s).2 = s
      ∨ (∃ n a, s.rankAt x.key = some .waiting ∧ s.isUnplaced x.key = false
        ∧ (verdictOf x s).2 = created x.key n a x.jobTag s)
      ∨ ∃ y, (verdictOf x s).2 = activate x.key.cls (s.setUnplaced y) := by
  rw [verdictOf]
  cases identityReason x s with
  | some r => exact .inl rfl
  | none =>
    cases hr : s.rankAt x.key with
    | none => exact .inl rfl
    | some r =>
      cases r
      case waiting =>
        dsimp only
        rw [waitingVerdict]
        split
        · exact .inl rfl
        · split
          · exact .inl rfl
          · split
            · exact .inl rfl
            · rename_i hu
              split
              · rename_i n _
                exact .inr (.inl ⟨n, _, rfl, by simpa using hu, createPacket_eq_created hk hr n _ _⟩)
              · exact .inr (.inr ⟨_, rfl⟩)
      all_goals exact .inl rfl

theorem onlyChanges_verdictOf (hk : ClassesKept s) (x : Announcement) :
    OnlyChanges [.classes, .packets, .slots, .unplaced] s (verdictOf x s).2 := by
  obtain e | ⟨n, a, -, -, e⟩ | ⟨y, e⟩ := verdictOf_state hk x <;> rw [e]
  · exact .refl _ s
  · exact (onlyChanges_created _ n a _ s).mono (by simp)
  · exact (OnlyChanges.append (onlyChanges_setUnplaced y s) (onlyChanges_activate _ _)).mono (by simp)

/-- A verdict creates no packet of a key that waits, and takes none out. -/
theorem packet_verdictOf (ht : TowerKept s) (hk : ClassesKept s) (x : Announcement) (j : Key) :
    ((s.packet j).isSome = true → ((verdictOf x s).2.packet j).isSome = true)
      ∧ (s.isUnplaced j = true → (verdictOf x s).2.packet j = s.packet j) := by
  obtain e | ⟨n, a, hw, hu, e⟩ | ⟨y, e⟩ := verdictOf_state hk x <;> rw [e]
  · exact ⟨id, fun _ => rfl⟩
  · have hp := packet_created (packet_eq_none_of_waiting ht hw) n a x.jobTag j
    refine ⟨fun hs => ?_, fun hj => ?_⟩
    · rw [hp]
      split
      · rfl
      · exact hs
    · rw [hp, if_neg]
      rintro rfl
      simp [hu] at hj
  · have hp : (activate x.key.cls (s.setUnplaced y)).packet j = s.packet j := packet_congr (by simp) j
    rw [hp]
    exact ⟨id, fun _ => rfl⟩

/-! ## The entry (R29, R30, R44) -/

/-- The lane with an announcement's entry at the end of its queue, before its hold conditions are evaluated. -/
def appendedLane (x : Announcement) (v : Verdict) (deadline : Nat) (u : LaneUnit) : LaneUnit :=
  { u with
    counter := u.counter + 1#32, expected := some (x.sequence + 1#8),
    queue := u.queue ++ [x.entry v (u.counter + 1#32) deadline],
    transit := (u.queue ++ [x.entry v (u.counter + 1#32) deadline]).head?.map Entry.deadline }

/-- The state with the entry appended, before the evaluation. -/
def appended (l : Lane) (x : Announcement) (v : Verdict) (s : State) : State :=
  retime l (s.setLane l
    { s.lane l with
      counter := (s.lane l).counter + 1#32, expected := some (x.sequence + 1#8),
      queue := (s.lane l).queue ++ [x.entry v ((s.lane l).counter + 1#32) s.newDeadline] })

theorem appendEntry_eq (l : Lane) (x : Announcement) (v : Verdict) (s : State) :
    appendEntry l x v s = evalHold l (appended l x v s) := rfl

theorem appended_lane (hf : (s.lane l).inFault = false) (x : Announcement) (v : Verdict) :
    (appended l x v s).lane l = appendedLane x v s.newDeadline (s.lane l) := by
  have hf' : ∀ q c n, ({ s.lane l with queue := q, counter := c, expected := n } : LaneUnit).inFault = false := fun _ _ _ => hf
  simp [appended, retime_lane, appendedLane, hf']

@[simp] theorem appended_frame (l : Lane) (x : Announcement) (v : Verdict) (s : State) :
    (appended l x v s).settings = s.settings ∧ (appended l x v s).tray = s.tray ∧ (appended l x v s).purge = s.purge
      ∧ (appended l x v s).flags = s.flags ∧ (∀ m, (appended l x v s).link m = s.link m)
      ∧ (∀ m, m ≠ l → (appended l x v s).lane m = s.lane m) := by
  refine ⟨by simp [appended], by simp [appended], by simp [appended], by simp [appended], by simp [appended], fun m hm => ?_⟩
  simp [appended, retime_lane, hm]

theorem onlyChanges_appendEntry (l : Lane) (x : Announcement) (v : Verdict) (s : State) :
    OnlyChanges [Part.lane l, Part.link l] s (appendEntry l x v s) :=
  (OnlyChanges.append (OnlyChanges.append (onlyChanges_setLane l _ s) (onlyChanges_setLane l _ _))
    (onlyChanges_evalHold l _)).mono (by simp)

/-- An entry more gives no hold condition but by its place and its verdict (R44). -/
theorem appended_holdCondition (hf : (s.lane l).inFault = false) (hlen : (s.lane l).queue.length < 6) (x : Announcement)
    (v : Verdict) : (appended l x v s).holdCondition l = false
      ↔ s.holdCondition l = false ∧ ¬((s.lane l).queue.length = 5 ∨ v = .unplaced) := by
  rw [holdCondition_eq_false_iff, holdCondition_eq_false_iff, appended_lane hf]
  simp only [hf, appended_frame, appendedLane, List.length_append, List.length_singleton, List.forall_mem_append,
    List.forall_mem_singleton, Announcement.entry, and_true, not_or]
  constructor
  · rintro ⟨hroom, ⟨hun, hv⟩, htray, hidle, -⟩
    exact ⟨⟨hlen, hun, htray, hidle⟩, by omega, hv⟩
  · rintro ⟨⟨-, hun, htray, hidle⟩, hne, hv⟩
    exact ⟨by omega, ⟨hun, hv⟩, htray, hidle, hf⟩

/-- A RUNNING lane is held by its sixth entry and by an UNPLACED one; a HELD lane stays held (R44). -/
theorem appendEntry_lane (hf : (s.lane l).inFault = false) (hlen : (s.lane l).queue.length < 6) (hset : LaneSettled s l)
    (x : Announcement) (v : Verdict) :
    let holds := (s.lane l).state = .running ∧ ((s.lane l).queue.length = 5 ∨ v = .unplaced)
    (appendEntry l x v s).lane l
        = { appendedLane x v s.newDeadline (s.lane l) with state := if holds then .held else (s.lane l).state }
      ∧ (appendEntry l x v s).link l = if holds then sentLink (s.link l) s.attention .hold [] else s.link l := by
  intro holds
  have hl := appended_lane hf x v
  have hstate : ((appended l x v s).lane l).state = (s.lane l).state := by rw [hl]; rfl
  have hcond := appended_holdCondition hf hlen x v
  by_cases hh : holds
  · have hc : (appended l x v s).holdCondition l = true := by
      rw [← Bool.not_eq_false, hcond]
      exact fun h => h.2 hh.2
    obtain ⟨hel, hek⟩ := evalHold_of_condition hc l
    have ha : (appended l x v s).attention = s.attention := attention_congr (by simp)
    rw [appendEntry_eq, hel, hek, if_pos rfl, if_pos rfl, if_pos hh, if_pos hh, ha, LaneUnit.held, heldLink, hstate, if_pos hh.1,
      if_pos hh.1, hl]
    exact ⟨rfl, by simp⟩
  · have hsettled : LaneSettled (appended l x v s) l := by
      refine ⟨fun h => hcond.mpr ?_, fun h => ?_⟩ <;> rw [hstate] at h
      · exact ⟨hset.1 h, fun hv => hh ⟨h, hv⟩⟩
      · rw [← Bool.not_eq_false, hcond]
        exact fun hc => by simp [hset.2 h] at hc
    rw [appendEntry_eq, evalHold_of_settled hsettled, hl, if_neg hh, if_neg hh]
    exact ⟨rfl, by simp⟩

/-! ## Relief and a pass send nothing (R86, R109) -/

/-- Every key of the held list has its packet (R84). -/
def HeldKnown (s : State) : Prop := ∀ k ∈ s.held, (s.packet k).isSome = true

theorem heldKnown_of_towerKept (h : TowerKept s) : HeldKnown s := fun k hk => by
  obtain ⟨p, hp, rfl, -⟩ := h.heldPackets k hk
  rw [packet_of_mem h hp]
  rfl

theorem HeldKnown.of (h : HeldKnown s) (hheld : t.held ⊆ s.held)
    (hknown : ∀ j, (s.packet j).isSome = true → (t.packet j).isSome = true) : HeldKnown t :=
  fun k hk => hknown k (h k (hheld hk))

/-- A packet's record changed under its key leaves every packet in the map. -/
theorem updatePacket_known {f : Packet → Packet} (hf : ∀ p, (f p).key = p.key) (k : Key) {j : Key}
    (hj : (s.packet j).isSome = true) : ((updatePacket k f s).packet j).isSome = true := by
  rw [packet_updatePacket _ _ _ _ hf]
  by_cases hjk : j = k
  · subst hjk
    simpa using hj
  · simpa [hjk] using hj

theorem movePacket_known (h : SlotHold) (k : Key) {j : Key} (hj : (s.packet j).isSome = true) :
    ((movePacket k h s).packet j).isSome = true := by
  rw [packet_movePacket]
  by_cases hjk : j = k
  · subst hjk
    simpa using hj
  · simpa [hjk] using hj

theorem known_congr (h : t.packets = s.packets) {j : Key} (hj : (s.packet j).isSome = true) : (t.packet j).isSome = true := by
  rwa [packet_congr h]

/-- A relieved packet is still in the map, so its class is not done and no report is made (R8, R94). -/
theorem relieve_link (hk : (s.packet k).isSome = true) (m : Lane) :
    (relieve k s).link m = s.link m ∧ (relieve k s).held ⊆ s.held
      ∧ ∀ j, (s.packet j).isSome = true → ((relieve k s).packet j).isSome = true := by
  unfold relieve
  extract_lets s1 s2
  obtain ⟨w, hw⟩ : ∃ w, w = raise .orderRelief (joinFinishing (s.classQueue k.cls) k s2) := ⟨_, rfl⟩
  have hknown : ∀ j, (s.packet j).isSome = true → (w.packet j).isSome = true := fun j hj =>
    known_congr (s := s2) (by simp [hw]) (movePacket_known .queued k
      (known_congr (s := s1) (by simp) (updatePacket_known (by simp) k hj)))
  obtain ⟨y, hy⟩ := Option.isSome_iff_exists.mp (hknown k hk)
  have hrel := cursorAdvance_releases k.cls w
  rw [← hw, orderStep_of_packet hy]
  refine ⟨by simp [hw, s2, s1, updateFlags], List.Subset.trans hrel.held (by simp [hw, s2, s1, updateFlags, leaveHeld]),
    fun j hj => ?_⟩
  rw [hrel.known]
  exact hknown j hj

theorem tryRelief_link (h : HeldKnown s) (m : Lane) : (tryRelief s).link m = s.link m ∧ HeldKnown (tryRelief s) := by
  unfold tryRelief
  split
  · split
    · rename_i k rest hheld
      obtain ⟨hlink, hsub, hknown⟩ := relieve_link (h k (by simp [hheld])) m
      exact ⟨hlink, h.of hsub hknown⟩
    · exact ⟨rfl, h⟩
  · exact ⟨rfl, h⟩

theorem takePacket_link (h : HeldKnown s) (k : Key) (t : Target) (b : Budget) (m : Lane) :
    (takePacket k t b s).link m = s.link m := by
  unfold takePacket
  extract_lets c s1 s2 s3 s4
  have hknown : HeldKnown s4 := h.of (by simp [s4, s3, s2, s1, updateFlags]) fun j hj =>
    known_congr (s := s3) (by simp [s4]) (updatePacket_known (s := leaveFinishing k s2) (by simp) k
      (known_congr (s := s1) (by simp [s2]) (updatePacket_known (by simp) k hj)))
  have hlink : s4.link m = s.link m := by simp [s4, s3, s2, s1, updateFlags]
  split
  · rw [(tryRelief_link hknown m).1, hlink]
  · exact hlink

theorem selectFrom_link (qs : List Queued) (h : HeldKnown s) (m : Lane) : (selectFrom qs s).link m = s.link m := by
  induction qs generalizing s with
  | nil => rfl
  | cons q qs ih =>
    unfold selectFrom
    split
    · exact ih h
    · rename_i c _
      exact (ih (h.of (by simp) fun j hj => by rwa [packet_congr (s := s) (by simp)])).trans (by simp)
    · exact takePacket_link h _ _ _ m

theorem selectionPass_link (h : HeldKnown s) (m : Lane) : (selectionPass s).link m = s.link m := by
  unfold selectionPass
  split
  · exact selectFrom_link _ h m
  · rfl

/-- An event whose end may be relief and a pass alone makes no frame at its end. -/
theorem endEvent_link (h : HeldKnown u) (s0 : State) (relief pass : Bool) (m : Lane) :
    (endEvent s0 { relief := relief, purge := false, pass := pass } u).link m = u.link m := by
  have hrelief : ∀ b : Bool, (if b then tryRelief u else u).link m = u.link m ∧ HeldKnown (if b then tryRelief u else u) :=
    fun b => by
      cases b
      · exact ⟨rfl, h⟩
      · exact tryRelief_link h m
  have hpass : ∀ (b : Bool) {w : State}, HeldKnown w → (if b then selectionPass w else w).link m = w.link m := fun b w hw => by
    cases b
    · rfl
    · exact selectionPass_link hw m
  unfold endEvent
  exact (hpass _ (hrelief _).2).trans (hrelief _).1

end
end Sys2Proof.Lanes

namespace Sys2Proof.Lanes

open Sys2Proof.Machine Sys2Proof.Safety Sys2Proof.ClassTable Sys2Proof.Requests Sys2Proof.Events

/-! # An announcement appended with its verdict (O34) -/

section
variable {s t u : State} {l m : Lane} {x : Announcement} {k : Key}

/-- The state in which the entry is appended: the frame is completed, the verdict has been set up, and UNPLACED has raised
SLOTS_EXHAUSTED (R34, R54). -/
def judged (l : Lane) (x : Announcement) (s : State) : State :=
  if (verdictOf x s).1 = .unplaced then raise .slotsExhausted (verdictOf x (frameCompleted l s)).2
  else (verdictOf x (frameCompleted l s)).2

@[simp] theorem judged_frame (l : Lane) (x : Announcement) (s : State) :
    (judged l x s).now = s.now ∧ (judged l x s).stamp = s.stamp ∧ (judged l x s).tables = s.tables
      ∧ (judged l x s).settings = s.settings ∧ (judged l x s).pending = s.pending ∧ (judged l x s).actions = []
      ∧ (judged l x s).tray = s.tray ∧ (judged l x s).purge = s.purge ∧ (∀ m, (judged l x s).lane m = s.lane m) := by
  unfold judged
  split <;> simp

theorem exec_sheetAnnounce_taken {body : List Byte} (hx : Announcement.ofBody body = some x) (hf : (s.lane l).inFault = false)
    (hseq : (s.lane l).expected = none ∨ (s.lane l).expected = some x.sequence) (hlen : (s.lane l).queue.length < 6) :
    exec (.sheetAnnounce l body) s
      = .next (endEvent (frameCompleted l s) { relief := decide ((verdictOf x s).1 = .unplaced), purge := false, pass := false }
          (appendEntry l x (verdictOf x s).1 (judged l x s))) := by
  have hframe : (frameCompleted l s).lane l = s.lane l := by simp
  have hin : ¬(s.lane l).outOfSequence x = true := by
    rw [outOfSequence_iff]
    exact fun h => hseq.elim h.1 h.2
  have e : exec (.sheetAnnounce l body) s = .next (onSheetAnnounce l body (frameCompleted l s)) := rfl
  rw [e, onSheetAnnounce, hx]
  dsimp only
  rw [hframe, if_neg (by simp [hf]), if_neg hin, if_neg (show ¬Config.queueRoom ≤ _ from Nat.not_le.mpr hlen), takeAnnouncement]
  simp only [verdictOf_fst_frameCompleted]
  rfl

/-- What an appended entry makes of its lane, whatever its hold conditions say (R29, R30). -/
theorem appendEntry_judged (hf : (s.lane l).inFault = false) (v : Verdict) :
    ∃ y, (appendEntry l x v (judged l x s)).lane l
        = { appendedLane x v (s.now + s.settings.transitWindow * 100) (s.lane l) with state := y }
      ∧ ((appendEntry l x v (judged l x s)).lane l).inFault = false := by
  have hl : (judged l x s).lane l = s.lane l := by simp
  have hd : (judged l x s).newDeadline = s.now + s.settings.transitWindow * 100 := by simp [State.newDeadline, Config.tenthMs]
  obtain ⟨y, hy, hfault, -⟩ := evalHold_lane l l (appended l x v (judged l x s))
  rw [appended_lane (by rw [hl]; exact hf), hl, hd] at hy hfault
  exact ⟨y, hy, hfault.trans hf⟩

/-- In a state that keeps the class laws the verdict's state differs from the judged one in the frame's receiver, the actions and
SLOTS_EXHAUSTED only. -/
theorem onlyChanges_judged (hk : ClassesKept s) (l : Lane) (x : Announcement) :
    OnlyChanges [Part.link l, .actions, .flags] (verdictOf x s).2 (judged l x s) := by
  rw [judged, verdictOf_snd_frameCompleted hk]
  split
  · exact OnlyChanges.append (onlyChanges_frameCompleted l _) (onlyChanges_raise _ _)
  · exact (onlyChanges_frameCompleted l _).mono (by simp)

theorem judged_flags (hk : ClassesKept s) (l : Lane) (x : Announcement) :
    (judged l x s).flags = (if (verdictOf x s).1 = .unplaced then s.flags ||| BitVec.twoPow 12 6 else s.flags)
      ∧ (judged l x s).link l = { s.link l with rx := .hunt } := by
  have hflags : (verdictOf x s).2.flags = s.flags := onlyChanges_verdictOf hk x .flags (by simp)
  have hlink : (verdictOf x s).2.link l = s.link l := OnlyChanges.link (onlyChanges_verdictOf hk x) (by cases l <;> simp [Part.link])
  rw [judged, verdictOf_snd_frameCompleted hk]
  split
  · refine ⟨?_, ?_⟩
    · simp [raise, hflags, Cause.bit]
    · simp [frameCompleted_link, hlink]
  · exact ⟨by simp [hflags], by simp [frameCompleted_link, hlink]⟩

/-- The appended entry's state has the verdict's packets, lists, classes and slots. -/
theorem onlyChanges_appended (hk : ClassesKept s) (l : Lane) (x : Announcement) (v : Verdict) :
    OnlyChanges [Part.lane l, Part.link l, .flags, .actions] (verdictOf x s).2 (appendEntry l x v (judged l x s)) :=
  (OnlyChanges.append (onlyChanges_judged hk l x) (onlyChanges_appendEntry l x v _)).mono (by simp)

/-- The lane and the link of an appended entry, by the hold conditions of its lane (R44). -/
theorem appendEntry_judged_lane (hf : (s.lane l).inFault = false) (hlen : (s.lane l).queue.length < 6) (hk : ClassesKept s)
    (hset : HoldsSettled s) (v : Verdict) :
    let w := appendEntry l x v (judged l x s)
    let holds := (s.lane l).state = .running ∧ ((s.lane l).queue.length = 5 ∨ v = .unplaced)
    w.lane l = { appendedLane x v (s.now + s.settings.transitWindow * 100) (s.lane l) with
        state := if holds then .held else (s.lane l).state }
      ∧ w.link l = if holds then sentLink { s.link l with rx := .hunt } (w.flags != 0#12) .hold []
        else { s.link l with rx := .hunt } := by
  intro w holds
  have hl : (judged l x s).lane l = s.lane l := by simp
  have hd : (judged l x s).newDeadline = s.now + s.settings.transitWindow * 100 := by simp [State.newDeadline, Config.tenthMs]
  have hsettled : LaneSettled (judged l x s) l :=
    LaneSettled.congr (hset l) hl (holdCondition_congr (by rw [hl]) (by rw [hl]) (by simp) (by simp) (by simp))
  have hatt : (judged l x s).attention = (w.flags != 0#12) := by
    rw [attention_eq]
    simp [w]
  obtain ⟨hlane, hlink⟩ := appendEntry_lane (by rw [hl]; exact hf) (by rw [hl]; exact hlen) hsettled x v
  rw [hl, hd] at hlane
  rw [hl, hatt, (judged_flags hk l x).2] at hlink
  exact ⟨hlane, hlink⟩

/-- The end of an announcement's event sends nothing to the other link, and follows the verdict alone (R86). -/
theorem endEvent_appended (ht : TowerKept s) (hk : ClassesKept s) (l : Lane) (x : Announcement) (v : Verdict) :
    let w := appendEntry l x v (judged l x s)
    let t := fun b => endEvent (frameCompleted l s) { relief := b, purge := false, pass := false } w
    (∀ b, (t b).link (otherLane l) = s.link (otherLane l)) ∧ t false = w ∧ EndsWithRelief w (.next (t true)) := by
  intro w t
  have hparts := onlyChanges_appended hk l x v
  have hverdict := onlyChanges_verdictOf hk x
  have hheld : w.held = s.held := (hparts .held (by cases l <;> simp [Part.lane, Part.link])).trans (hverdict .held (by simp))
  have hqueued : w.queued = s.queued :=
    (hparts .queued (by cases l <;> simp [Part.lane, Part.link])).trans (hverdict .queued (by simp))
  have hpackets : ∀ j, w.packet j = (verdictOf x s).2.packet j :=
    packet_congr (hparts .packets (by cases l <;> simp [Part.lane, Part.link]))
  have hknown : HeldKnown w := (heldKnown_of_towerKept ht).of (by rw [hheld]; exact List.Subset.refl _) fun j hj => by
    rw [hpackets]
    exact (packet_verdictOf ht hk x j).1 hj
  refine ⟨fun b => ?_, ?_, endsWithRelief rfl (by simpa using hqueued) nofun⟩
  · rw [endEvent_link hknown, OnlyChanges.link hparts (by cases l <;> simp [Part.lane, Part.link, otherLane]),
      OnlyChanges.link hverdict (by cases l <;> simp [Part.link, otherLane])]
  · refine endEvent_of_nothing_joined (giftedSince_eq_false_of_waiting fun j hj hsome => ?_) (by simp [hheld])
      (by simp [hqueued]) false
    rw [hpackets, (packet_verdictOf ht hk x j).2 (by simpa [State.isUnplaced] using hj)] at hsome
    rwa [packet_congr (s := s) (by simp)]

/-- Settles O34: the verdict's state judged, the entry appended, the end of the event relief at most. -/
theorem announcementIsAppendedWithItsVerdict : Obligations.AnnouncementIsAppendedWithItsVerdict := by
  refine ⟨fun l body s x hx hf hseq hlen => ?_, fun b0 b1 b2 b3 b4 b5 b6 b7 b8 => ?_⟩
  · intro v u e holds link
    obtain ⟨hpurge, hlanes⟩ := endEvent_lanes (frameCompleted l s)
      (o := { relief := decide ((verdictOf x s).1 = .unplaced), purge := false, pass := false }) rfl
      (appendEntry l x v (judged l x s))
    obtain ⟨y, hy, hyf⟩ := appendEntry_judged (x := x) hf v
    have hother : (appendEntry l x v (judged l x s)).lane (otherLane l) = s.lane (otherLane l) := by
      rw [OnlyChanges.lane (onlyChanges_appendEntry l x v _) (by cases l <;> simp [Part.lane, Part.link, otherLane])]
      simp
    have hl := (hlanes l).trans hy
    refine ⟨_, exec_sheetAnnounce_taken hx hf hseq hlen, by rw [hl]; rfl, by rw [hl]; rfl, by rw [hl]; rfl, by rw [hl]; rfl,
      by rw [hlanes]; exact hyf, (hlanes _).trans hother, by simp, by simp, by simp, hpurge.trans (by simp), by simp, by simp,
      fun ht hk hset => ?_⟩
    obtain ⟨hlink, hfalse, htrue⟩ := endEvent_appended ht hk l x v
    obtain ⟨hwl, hwk⟩ := appendEntry_judged_lane (x := x) hf hlen hk hset v
    have hflags := (judged_flags hk l x).1
    refine ⟨hlink _, appendEntry l x v (judged l x s), onlyChanges_appended hk l x v, by simp, ?_, hwl, hwk, fun hv => ?_,
      fun hv => ?_⟩
    · rw [← hflags]
      simp
    · rw [show decide ((verdictOf x s).1 = .unplaced) = false from decide_eq_false hv]
      exact hfalse
    · rw [show decide ((verdictOf x s).1 = .unplaced) = true from decide_eq_true hv]
      exact htrue
  · refine ⟨_, rfl, rfl, ?_, rfl, rfl, rfl, rfl, rfl, rfl⟩
    have h : (b1 ++ b2 : BitVec 16).toNat = b1.toNat * 256 + b2.toNat := by
      rw [BitVec.toNat_append, ← Nat.shiftLeft_add_eq_or_of_lt b2.isLt, Nat.shiftLeft_eq]
    exact h

end
end Sys2Proof.Lanes

namespace Sys2Proof.Tower

open Sys2Proof.Machine Sys2Proof.Safety Sys2Proof.ClassTable Sys2Proof.Requests Sys2Proof.Events Sys2Proof.Lanes

/-! # Placement: the cover pocket and the next body index (R61, R62) -/

/-- A cover sheet is decided by the cover pocket alone (R61). -/
theorem decidePlacement_cover {p : Packet} (h : p.snapshot.cover = true) :
    decidePlacement p 1 = if p.coverReceived then .refused else .placed { p with coverReceived := true } := by
  simp [decidePlacement, h]

/-- A body sheet is decided by its index, in the order of the table (R62). -/
theorem decidePlacement_body {p : Packet} {i : Nat} (h : ¬(p.snapshot.cover = true ∧ i = 1)) :
    decidePlacement p i
      = if p.snapshot.sheetCount < i then .refused
        else if i = p.nextBody then .placed { p with nextBody := i + 1 }
        else if i < p.nextBody then .refused
        else .placed { p with nextBody := i + 1, flags := { p.flags with disordered := true } } := by
  rw [decidePlacement, if_neg (by simpa using h)]

/-- Settles O40: each clause picks one branch of the two tables. -/
theorem placementIsDecidedByPocketAndIndex : Obligations.PlacementIsDecidedByPocketAndIndex := by
  refine ⟨fun p hp => ⟨fun hr => ?_, fun hr => ?_⟩,
    fun p i hb => ⟨fun hc => ?_, fun hc hi => ?_, fun hc hi => ?_, fun hc hi => ?_⟩⟩
  · rw [decidePlacement_cover hp, if_neg (by simp [hr])]
  · rw [decidePlacement_cover hp, if_pos hr]
  · rw [decidePlacement_body hb, if_pos hc]
  · rw [decidePlacement_body hb, if_neg (by omega), if_pos hi]
  · rw [decidePlacement_body hb, if_neg (by omega), if_neg (by omega), if_pos hi]
  · rw [decidePlacement_body hb, if_neg (by omega), if_neg (by omega), if_neg (by omega)]

end Sys2Proof.Tower

namespace Sys2Proof.Tower

open Sys2Proof.Machine Sys2Proof.Safety Sys2Proof.ClassTable Sys2Proof.Requests Sys2Proof.Events Sys2Proof.Lanes

/-! # The tower's law, read by key (R49 to R53, R56, R84, R108) -/

/-- The state of the packet of a key, where it has one (R53). -/
def stateOf (s : State) (k : Key) : Option PacketState := (s.packet k).map Packet.state

/-- The keys of the map rise strictly (R51). -/
def KeysRise (s : State) : Prop := (s.packets.map Packet.key).Pairwise (fun j k => j.below k = true)

/-- What the law says of one key: its packet, where it has one, stands where its state says, each list names it exactly where it is
in that list's state, and its rank is OPEN or HELD only with the packet that belongs to it. The key `o` is exempt from the law of OPEN
ranks: inside an event its packet has left the map while its rank is still to change. -/
structure KeyFits (o : Option Key) (s : State) (k : Key) : Prop where
  active : stateOf s k ≠ none → (s.classRec k.cls).state = .active
  rank : ∀ x, stateOf s k = some x → PacketState.fitsRank x (s.rankAt k)
  timer : ∀ p, s.packet k = some p → p.timer ≠ .stopped → p.state = .collecting
  gone : ∀ x, stateOf s k = some x → s.slotOf k = none → x = .finishing
  slot : ∀ x n, stateOf s k = some x → s.slotOf k = some n → ∃ h m, s.slot n = .occupied h m k ∧ PacketState.fitsSlot x h
  held : k ∈ s.held ↔ stateOf s k = some .held
  queued : k ∈ s.queued.map Queued.key ↔ stateOf s k = some .queued
  current : s.fin.current.map Current.key = some k ↔ stateOf s k = some .finishing
  opened : o ≠ some k → s.rankAt k = some .opened → stateOf s k = some .collecting
  heldRank : s.rankAt k = some .held → stateOf s k = some .held

/-- `TowerKept` but for the Finishing Unit's own law, read by key. Inside an event two things may stand out: the exempt key `o`, and
the slot `f`, which is FREE while the allocator is still to run. -/
structure Agrees (o : Option Key) (f : Option (Fin 24)) (s : State) : Prop where
  rise : KeysRise s
  fits : ∀ k, KeyFits o s k
  occupied : ∀ n h m k, s.slot n = .occupied h m k → s.slotOf k = some n
  heldOnce : s.held.Nodup
  queuedOnce : (s.queued.map Queued.key).Nodup
  transferred : ∀ c, s.fin.current = some c → s.fin.unit.running ≠ none → s.fin.unit.running ≠ some .transfer →
    s.slotOf c.key = none
  waiting : ∀ u ∈ s.unplaced, (s.classRec u.key.cls).state = .active ∧ s.rankAt u.key = some .waiting
    ∧ (s.assignmentOf u.key.cls).isSome
  waitingOnce : (s.unplaced.map Waiting.key).Nodup
  noIdleSlot : s.unplaced ≠ [] → ∀ n, f ≠ some n → s.slot n ≠ .free
  doneClasses : ∀ c, (s.classRec c).state = .done →
    (s.classRec c).cursor = (s.classRec c).size ∧ (s.classRec c).countOf .waiting = 0
  exempt : ∀ k, o = some k → (s.classRec k.cls).state = .active ∧ stateOf s k = none ∧ s.rankAt k = some .opened

section
variable {s t u : State} {o : Option Key} {f : Option (Fin 24)} {j k : Key} {n : Fin 24} {p : Packet} {x y : PacketState}

theorem stateOf_eq_some : stateOf s k = some x ↔ ∃ p, s.packet k = some p ∧ p.state = x := by
  simp [stateOf]

theorem stateOf_of_packet (h : s.packet k = some p) : stateOf s k = some p.state := by rw [stateOf, h]; rfl

theorem slotOf_of_packet (h : s.packet k = some p) : s.slotOf k = p.slot := by rw [State.slotOf, h]

theorem slotOf_eq (s : State) (k : Key) : s.slotOf k = (s.packet k).bind Packet.slot := by
  unfold State.slotOf
  cases s.packet k <;> rfl

/-- In a map of rising keys a packet is found by its key (R51). -/
theorem KeysRise.packet (h : KeysRise s) (hp : p ∈ s.packets) : s.packet p.key = some p := by
  have hne : (s.packets.map Packet.key).Nodup := h.imp fun hb e => by simp [Key.below, e] at hb
  cases hk : s.packet p.key with
  | none => simpa using List.find?_eq_none.mp hk p hp
  | some q =>
    obtain ⟨hq, hkey⟩ := mem_of_packet hk
    rw [List.inj_on_of_nodup_map hne hq hp hkey]

/-- A packet of the map and the packet of a key are the same thing (R51). -/
theorem KeysRise.exists_mem_iff (h : KeysRise s) : (∃ p ∈ s.packets, p.key = k ∧ p.state = x) ↔ stateOf s k = some x := by
  rw [stateOf_eq_some]
  constructor
  · rintro ⟨p, hp, rfl, hx⟩
    exact ⟨p, h.packet hp, hx⟩
  · rintro ⟨p, hp, hx⟩
    obtain ⟨hmem, hk⟩ := mem_of_packet hp
    exact ⟨p, hmem, hk, hx⟩

theorem agrees_of_towerKept (h : TowerKept s) : Agrees none none s := by
  have rise : KeysRise s := List.pairwise_map.mpr h.keysRise
  have kept : ∀ k x, stateOf s k = some x → ∃ p, PacketKept s p ∧ p.key = k ∧ p.state = x ∧ s.slotOf k = p.slot := by
    intro k x hx
    obtain ⟨p, hp, rfl, hst⟩ := rise.exists_mem_iff.mpr hx
    exact ⟨p, h.packets p hp, rfl, hst, slotOf_of_packet (rise.packet hp)⟩
  refine
    { rise := rise, fits := fun k => ?_, occupied := fun n g m k hs => ?_, heldOnce := h.heldOnce, queuedOnce := h.queuedOnce,
      transferred := h.transferred, waiting := h.waiting, waitingOnce := h.waitingOnce,
      noIdleSlot := fun hu n _ => lowestFree_eq_none.mp (h.noIdleSlot hu) n, doneClasses := h.doneClasses, exempt := nofun }
  · refine
      { active := fun hx => ?_, rank := fun x hx => ?_, timer := fun p hp => (h.packets p (mem_of_packet hp).1).timer,
        gone := fun x hx hn => ?_, slot := fun x n hx hn => ?_,
        held := ⟨fun hk => rise.exists_mem_iff.mp (h.heldPackets k hk), fun hk => ?_⟩,
        queued := ⟨fun hk => ?_, fun hk => ?_⟩, current := ⟨fun hk => ?_, fun hk => ?_⟩,
        opened := fun _ hk => rise.exists_mem_iff.mp (h.openRanks k hk),
        heldRank := fun hk => rise.exists_mem_iff.mp (h.heldRanks k hk) }
    · obtain ⟨x, hx⟩ := Option.ne_none_iff_exists'.mp hx
      obtain ⟨p, hp, rfl, -, -⟩ := kept k x hx
      exact hp.active
    · obtain ⟨p, hp, rfl, rfl, -⟩ := kept k x hx
      exact hp.rank
    · obtain ⟨p, hp, rfl, rfl, hs⟩ := kept k x hx
      exact hp.gone (hs ▸ hn)
    · obtain ⟨p, hp, rfl, rfl, hs⟩ := kept k x hx
      exact hp.slot n (hs ▸ hn)
    · obtain ⟨p, hp, rfl, hx, -⟩ := kept k _ hk
      exact hp.held hx
    · obtain ⟨q, hq, rfl⟩ := List.mem_map.mp hk
      exact rise.exists_mem_iff.mp (h.queuedPackets q hq)
    · obtain ⟨p, hp, rfl, hx, -⟩ := kept k _ hk
      exact List.mem_map.mpr (hp.queued hx)
    · obtain ⟨c, hc, rfl⟩ := Option.map_eq_some_iff.mp hk
      exact rise.exists_mem_iff.mp (h.currentPacket c hc)
    · obtain ⟨p, hp, rfl, hx, -⟩ := kept k _ hk
      exact Option.map_eq_some_iff.mpr (hp.current hx)
  · obtain ⟨p, hp, rfl, hn⟩ := h.occupied n g m k hs
    rw [slotOf_of_packet (rise.packet hp), hn]

theorem towerKept_of_agrees (h : Agrees none none s) (hfits : CurrentFits s.fin) : TowerKept s := by
  have rise := h.rise
  refine
    { keysRise := List.pairwise_map.mp rise, packets := fun p hp => ?_, waiting := h.waiting, waitingOnce := h.waitingOnce,
      noIdleSlot := fun hu => lowestFree_eq_none.mpr fun n => h.noIdleSlot hu n nofun, heldOnce := h.heldOnce,
      heldPackets := fun k hk => rise.exists_mem_iff.mpr ((h.fits k).held.mp hk), queuedOnce := h.queuedOnce,
      queuedPackets := fun q hq => rise.exists_mem_iff.mpr ((h.fits q.key).queued.mp (List.mem_map_of_mem hq)),
      currentPacket := fun c hc => rise.exists_mem_iff.mpr ((h.fits c.key).current.mp (by rw [hc]; rfl)), currentFits := hfits,
      transferred := h.transferred, occupied := fun n g m k hs => ?_,
      openRanks := fun k hk => rise.exists_mem_iff.mpr ((h.fits k).opened nofun hk),
      heldRanks := fun k hk => rise.exists_mem_iff.mpr ((h.fits k).heldRank hk), doneClasses := h.doneClasses }
  · have hp := rise.packet hp
    have hx := stateOf_of_packet hp
    have hslot := slotOf_of_packet hp
    have hk := h.fits p.key
    exact
      { active := hk.active (by simp [hx]), rank := hk.rank _ hx, timer := hk.timer p hp
        held := fun e => hk.held.mpr (e ▸ hx)
        queued := fun e => List.mem_map.mp (hk.queued.mpr (e ▸ hx))
        current := fun e => Option.map_eq_some_iff.mp (hk.current.mpr (e ▸ hx))
        gone := fun e => hk.gone _ hx (hslot.trans e), slot := fun n e => hk.slot _ n hx (hslot.trans e) }
  · have hk := h.occupied n g m k hs
    rw [slotOf_eq] at hk
    obtain ⟨p, hp, hn⟩ := Option.bind_eq_some_iff.mp hk
    obtain ⟨hmem, rfl⟩ := mem_of_packet hp
    exact ⟨p, hmem, rfl, hn⟩

/-- A slot holds one packet at most (R49). -/
theorem Agrees.slotOf_inj (h : Agrees o f s) (hj : s.slotOf j = some n) (hk : s.slotOf k = some n) : j = k := by
  have occupant : ∀ k, s.slotOf k = some n → ∃ g m, s.slot n = .occupied g m k := by
    intro k hk
    have hp := hk
    rw [slotOf_eq] at hp
    obtain ⟨p, hp, -⟩ := Option.bind_eq_some_iff.mp hp
    obtain ⟨g, m, hs, -⟩ := (h.fits k).slot _ n (stateOf_of_packet hp) hk
    exact ⟨g, m, hs⟩
  obtain ⟨g, m, hs⟩ := occupant j hj
  obtain ⟨g', m', hs'⟩ := occupant k hk
  rw [hs] at hs'
  cases hs'
  rfl

end
end Sys2Proof.Tower

namespace Sys2Proof.Tower

open Sys2Proof.Machine Sys2Proof.Safety Sys2Proof.ClassTable Sys2Proof.Requests Sys2Proof.Events Sys2Proof.Lanes

/-! # Changes of the state that keep the tower's law -/

section
variable {s t u : State} {o o' : Option Key} {f f' z : Option (Fin 24)} {j k : Key} {n : Fin 24} {p q : Packet}
  {x y : PacketState}

/-! ## Parts that the law does not read -/

theorem stateOf_congr (h : t.packet k = s.packet k) : stateOf t k = stateOf s k := by rw [stateOf, stateOf, h]

theorem slotOf_congr_packet (h : t.packet k = s.packet k) : t.slotOf k = s.slotOf k := by rw [slotOf_eq, slotOf_eq, h]

theorem assignmentOf_congr (hc : t.classes = s.classes) (ha : t.tables.assignments = s.tables.assignments) (c : Nat) :
    t.assignmentOf c = s.assignmentOf c := by
  simp only [State.assignmentOf, classRec_congr hc, ha]

/-- What a state says of a key stays while its packet, rank, class, slot and places in the lists stay. -/
theorem KeyFits.congr (h : KeyFits o s k) (hp : t.packet k = s.packet k) (hr : t.rankAt k = s.rankAt k)
    (ha : stateOf s k ≠ none → (s.classRec k.cls).state = .active → (t.classRec k.cls).state = .active)
    (hs : ∀ n, s.slotOf k = some n → t.slot n = s.slot n) (hh : k ∈ t.held ↔ k ∈ s.held)
    (hq : k ∈ t.queued.map Queued.key ↔ k ∈ s.queued.map Queued.key)
    (hc : t.fin.current.map Current.key = some k ↔ s.fin.current.map Current.key = some k)
    (ho : o' ≠ some k → o ≠ some k) : KeyFits o' t k := by
  have e := stateOf_congr hp
  have es := slotOf_congr_packet hp
  refine
    { active := fun hx => ?_, rank := by rw [e, hr]; exact h.rank, timer := by rw [hp]; exact h.timer,
      gone := by rw [e, es]; exact h.gone, slot := fun x n hx hn => ?_, held := by rw [e, hh]; exact h.held,
      queued := by rw [e, hq]; exact h.queued, current := by rw [e, hc]; exact h.current,
      opened := fun hk => by rw [e, hr]; exact h.opened (ho hk), heldRank := by rw [e, hr]; exact h.heldRank }
  · rw [e] at hx
    exact ha hx (h.active hx)
  · rw [e] at hx
    rw [es] at hn
    rw [hs n hn]
    exact h.slot x n hx hn

/-- The law reads nothing but these parts. -/
theorem Agrees.congr (h : Agrees o f s) (hp : t.packets = s.packets := by simp) (hc : t.classes = s.classes := by simp)
    (hs : t.slots = s.slots := by simp) (hu : t.unplaced = s.unplaced := by simp) (hh : t.held = s.held := by simp)
    (hq : t.queued = s.queued := by simp) (hf : t.fin = s.fin := by simp)
    (ha : t.tables.assignments = s.tables.assignments := by simp) : Agrees o f t := by
  have ep := packet_congr hp
  have es := slotOf_congr hp
  have ec := classRec_congr hc
  have er := rankAt_congr hc
  have en := slot_congr hs
  have ea := assignmentOf_congr hc ha
  refine
    { rise := by rw [KeysRise, hp]; exact h.rise
      fits := fun k => (h.fits k).congr (ep k) (er k) (fun _ => by rw [ec]; exact id) (fun n _ => en n) (by rw [hh]) (by rw [hq])
        (by rw [hf]) id
      occupied := fun n g m k => by rw [en, es]; exact h.occupied n g m k
      heldOnce := hh ▸ h.heldOnce, queuedOnce := hq ▸ h.queuedOnce
      transferred := fun c => by rw [hf, es]; exact h.transferred c
      waiting := fun u => by rw [hu, ec, er, ea]; exact h.waiting u
      waitingOnce := hu ▸ h.waitingOnce
      noIdleSlot := fun he n hn => by rw [en]; exact h.noIdleSlot (hu ▸ he) n hn
      doneClasses := fun c => by rw [ec]; exact h.doneClasses c
      exempt := fun k => by rw [ec, er, stateOf_congr (ep k)]; exact h.exempt k }

/-- Where no key waits, or the slot that may be FREE is another one's to say, less stands out. -/
theorem Agrees.weaken (h : Agrees o f s) (hf : s.unplaced = [] ∨ ∀ n, f = some n → f' = some n) : Agrees o f' s :=
  { h with noIdleSlot := fun he n hn => hf.elim (absurd · he) fun hf => h.noIdleSlot he n fun e => hn (hf n e) }

theorem raise_agrees (h : Agrees o f s) (c : Cause) : Agrees o f (raise c s) := h.congr

/-! ## A packet changed in place -/

/-- What a change of a packet in place keeps: key, slot and state, and a timer that runs in COLLECTING only (R53, R66). -/
structure InPlace (p q : Packet) : Prop where
  key : q.key = p.key
  slot : q.slot = p.slot
  state : q.state = p.state
  timer : q.timer ≠ .stopped → p.timer ≠ .stopped ∨ p.state = .collecting

/-- Packets changed in place keep the law. -/
theorem mapPackets_agrees (h : Agrees o f s) {g : Packet → Packet} (hg : ∀ p ∈ s.packets, InPlace p (g p)) :
    Agrees o f (s.setPackets (s.packets.map g)) := by
  have hkeys : (s.packets.map g).map Packet.key = s.packets.map Packet.key := by
    rw [List.map_map]
    exact List.map_congr_left fun p hp => (hg p hp).key
  have rise : KeysRise (s.setPackets (s.packets.map g)) := by
    rw [KeysRise, State.setPackets_packets, hkeys]
    exact h.rise
  have hfind : ∀ k, (s.setPackets (s.packets.map g)).packet k = (s.packet k).map g := by
    intro k
    cases hk : s.packet k with
    | none =>
      refine List.find?_eq_none.mpr fun q hq => ?_
      obtain ⟨p, hp, rfl⟩ := List.mem_map.mp hq
      rw [(hg p hp).key]
      exact List.find?_eq_none.mp hk p hp
    | some p =>
      obtain ⟨hp, rfl⟩ := mem_of_packet hk
      have := rise.packet (List.mem_map_of_mem hp)
      rwa [(hg p hp).key] at this
  have est : ∀ k, stateOf (s.setPackets (s.packets.map g)) k = stateOf s k := by
    intro k
    rw [stateOf, stateOf, hfind]
    cases hk : s.packet k with
    | none => rfl
    | some p => simp [(hg p (mem_of_packet hk).1).state]
  have esl : ∀ k, (s.setPackets (s.packets.map g)).slotOf k = s.slotOf k := by
    intro k
    rw [slotOf_eq, slotOf_eq, hfind]
    cases hk : s.packet k with
    | none => rfl
    | some p => simp [(hg p (mem_of_packet hk).1).slot]
  refine
    { rise := rise, fits := fun k => ?_, occupied := fun n g m k hs => ?_, heldOnce := h.heldOnce, queuedOnce := h.queuedOnce,
      transferred := fun c hc => ?_, waiting := h.waiting, waitingOnce := h.waitingOnce, noIdleSlot := h.noIdleSlot,
      doneClasses := h.doneClasses, exempt := fun k hk => ?_ }
  · obtain ⟨hactive, hrank, htimer, hgone, hslot, hheld, hqueued, hcurrent, hopened, hheldRank⟩ := h.fits k
    rw [← est] at hactive hheld hqueued hcurrent hheldRank hopened
    refine ⟨hactive, fun x hx => ?_, fun q hq ht => ?_, fun x hx hn => ?_, fun x n hx hn => ?_, hheld, hqueued, hcurrent, hopened,
      hheldRank⟩
    · exact hrank x (est k ▸ hx)
    · rw [hfind] at hq
      obtain ⟨p, hp, rfl⟩ := Option.map_eq_some_iff.mp hq
      have hmem := (mem_of_packet hp).1
      rw [(hg p hmem).state]
      exact ((hg p hmem).timer ht).elim (htimer p hp) id
    · exact hgone x (est k ▸ hx) (esl k ▸ hn)
    · exact hslot x n (est k ▸ hx) (esl k ▸ hn)
  · rw [esl]
    exact h.occupied n g m k hs
  · rw [esl]
    exact h.transferred c hc
  · rw [est]
    exact h.exempt k hk

theorem updatePacket_agrees (h : Agrees o f s) {g : Packet → Packet} (hg : ∀ p ∈ s.packets, p.key = k → InPlace p (g p)) :
    Agrees o f (updatePacket k g s) := by
  refine mapPackets_agrees h fun p hp => ?_
  split
  · rename_i hk
    exact hg p hp hk
  · exact ⟨rfl, rfl, rfl, .inl⟩

theorem updateFlags_agrees (h : Agrees o f s) (g : PacketFlags → PacketFlags) : Agrees o f (updateFlags k g s) :=
  updatePacket_agrees h fun _ _ _ => ⟨rfl, rfl, rfl, .inl⟩

theorem mapTimers_agrees (h : Agrees o f s) {g : CollectTimer → CollectTimer} (hg : g .stopped = .stopped) :
    Agrees o f (mapTimers g s) :=
  mapPackets_agrees h fun p _ => ⟨rfl, rfl, rfl, fun hq => .inl fun hp => hq (by rw [hp, hg])⟩

/-! ## Changes of one key -/

/-- From `s` to `t` nothing changes but for the key `k` and, where it is given one, the slot `z`: any other key keeps its packet, its
rank and its places in the lists, and any other class its record. -/
structure Touches (k : Key) (z : Option (Fin 24)) (s t : State) : Prop where
  rise : KeysRise s → KeysRise t
  packets : ∀ j, j ≠ k → t.packet j = s.packet j
  ranks : ∀ j, j ≠ k → t.rankAt j = s.rankAt j
  records : ∀ c, c ≠ k.cls → t.classRec c = s.classRec c
  assignments : ∀ c, t.assignmentOf c = s.assignmentOf c
  slots : ∀ n, z ≠ some n → t.slot n = s.slot n
  held : ∀ j, j ≠ k → (j ∈ t.held ↔ j ∈ s.held)
  queued : ∀ j, j ≠ k → (j ∈ t.queued.map Queued.key ↔ j ∈ s.queued.map Queued.key)
  current : ∀ j, j ≠ k → (t.fin.current.map Current.key = some j ↔ s.fin.current.map Current.key = some j)
  heldOnce : s.held.Nodup → t.held.Nodup
  queuedOnce : (s.queued.map Queued.key).Nodup → (t.queued.map Queued.key).Nodup
  unplaced : t.unplaced = s.unplaced

theorem Touches.trans (h : Touches k z s t) (h' : Touches k z t u) : Touches k z s u where
  rise := h'.rise ∘ h.rise
  packets j hj := (h'.packets j hj).trans (h.packets j hj)
  ranks j hj := (h'.ranks j hj).trans (h.ranks j hj)
  records c hc := (h'.records c hc).trans (h.records c hc)
  assignments c := (h'.assignments c).trans (h.assignments c)
  slots n hn := (h'.slots n hn).trans (h.slots n hn)
  held j hj := (h'.held j hj).trans (h.held j hj)
  queued j hj := (h'.queued j hj).trans (h.queued j hj)
  current j hj := (h'.current j hj).trans (h.current j hj)
  heldOnce := h'.heldOnce ∘ h.heldOnce
  queuedOnce := h'.queuedOnce ∘ h.queuedOnce
  unplaced := h'.unplaced.trans h.unplaced

/-- One part at a time: what is not named has not changed. -/
theorem Touches.of_parts (rise : KeysRise s → KeysRise t := by simp [KeysRise])
    (packets : ∀ j, j ≠ k → t.packet j = s.packet j := by intro j _; exact packet_congr (by simp) j)
    (ranks : ∀ j, j ≠ k → t.rankAt j = s.rankAt j := by intro j _; exact rankAt_congr (by simp) j)
    (records : ∀ c, c ≠ k.cls → t.classRec c = s.classRec c := by intro c _; exact classRec_congr (by simp) c)
    (assignments : ∀ c, t.assignmentOf c = s.assignmentOf c := by exact assignmentOf_congr (by simp) (by simp))
    (slots : ∀ n, z ≠ some n → t.slot n = s.slot n := by intro n _; exact slot_congr (by simp) n)
    (held : ∀ j, j ≠ k → (j ∈ t.held ↔ j ∈ s.held) := by simp)
    (queued : ∀ j, j ≠ k → (j ∈ t.queued.map Queued.key ↔ j ∈ s.queued.map Queued.key) := by simp)
    (current : ∀ j, j ≠ k → (t.fin.current.map Current.key = some j ↔ s.fin.current.map Current.key = some j) := by simp)
    (heldOnce : s.held.Nodup → t.held.Nodup := by simp)
    (queuedOnce : (s.queued.map Queued.key).Nodup → (t.queued.map Queued.key).Nodup := by simp)
    (unplaced : t.unplaced = s.unplaced := by simp) : Touches k z s t :=
  ⟨rise, packets, ranks, records, assignments, slots, held, queued, current, heldOnce, queuedOnce, unplaced⟩


end
end Sys2Proof.Tower

namespace Sys2Proof.Tower

open Sys2Proof.Machine Sys2Proof.Safety Sys2Proof.ClassTable Sys2Proof.Requests Sys2Proof.Events Sys2Proof.Lanes

/-! # The operations on one key -/

section
variable {s t u : State} {o o' : Option Key} {f f' z : Option (Fin 24)} {j k : Key} {n : Fin 24} {p q : Packet}
  {x y : PacketState}

theorem updatePacket_touches {g : Packet → Packet} (hg : ∀ p, (g p).key = p.key) (s : State) :
    Touches k z s (updatePacket k g s) :=
  .of_parts
    (rise := fun h => by
      have e : (updatePacket k g s).packets.map Packet.key = s.packets.map Packet.key := by
        rw [updatePacket, State.setPackets_packets, List.map_map]
        refine List.map_congr_left fun p _ => ?_
        dsimp only [Function.comp]
        split
        · exact hg p
        · rfl
      rw [KeysRise, e]
      exact h)
    (packets := fun j hj => by rw [packet_updatePacket s k j g hg, if_neg hj])

theorem updateFlags_touches (g : PacketFlags → PacketFlags) (s : State) : Touches k z s (updateFlags k g s) :=
  updatePacket_touches (g := fun p => { p with flags := g p.flags }) (fun _ => rfl) s

theorem slotOf_updateFlags (g : PacketFlags → PacketFlags) (s : State) (j : Key) : (updateFlags k g s).slotOf j = s.slotOf j := by
  rw [slotOf_eq, slotOf_eq, updateFlags, packet_updatePacket _ _ _ _ (by simp)]
  split
  · rename_i hj
    rw [hj]
    cases s.packet k <;> rfl
  · rfl

theorem removePacket_touches (s : State) : Touches k z s (removePacket k s) :=
  .of_parts (rise := fun h => h.sublist (List.filter_sublist.map _))
    (packets := fun j hj => by rw [packet_removePacket, if_neg hj])

theorem addPacket_touches (hp : s.packet p.key = none) : Touches p.key z s (addPacket p s) :=
  .of_parts
    (rise := fun h => List.pairwise_map.mpr (insertByKey_rises p s.packets (List.pairwise_map.mp h) fun q hq e => by
      have := h.packet hq
      rw [e, hp] at this
      cases this))
    (packets := fun j hj => by rw [packet_addPacket s p j hp, if_neg hj])

theorem setSlot_touches (x : Slot) (s : State) : Touches k (some n) s (setSlot n x s) :=
  .of_parts (slots := fun m hm => by rw [slot_setSlot, if_neg fun e => hm (by rw [e])])

theorem movePacket_touches {g : SlotHold} (hz : ∀ n, s.slotOf k = some n → z = some n) : Touches k z s (movePacket k g s) := by
  unfold movePacket
  dsimp only
  refine Touches.trans ?_ (updatePacket_touches (g := fun p => { p with state := g.packetState }) (fun _ => rfl) _)
  split
  · rename_i n hn
    rw [hz n hn]
    exact setSlot_touches _ s
  · exact .of_parts

theorem assignmentOf_eq (s : State) (c : Nat) :
    s.assignmentOf c = ((s.classRec c).body.map ClassBody.assignment).bind fun i => s.tables.assignments[i.val] := by
  unfold State.assignmentOf
  cases (s.classRec c).body <;> rfl

theorem assignmentOf_setRank (k : Key) (x : RankState) (s : State) (c : Nat) :
    (setRank k x s).assignmentOf c = s.assignmentOf c := by
  rw [assignmentOf_eq, assignmentOf_eq, classRec_setRank]
  split
  · rename_i hc
    obtain ⟨rfl, -⟩ := hc
    simp [ClassRec.withRank, Function.comp_def]
  · simp

theorem setRank_touches (x : RankState) (s : State) : Touches k z s (setRank k x s) :=
  .of_parts (ranks := fun j hj => by rw [rankAt_setRank, if_neg fun e => hj e.1])
    (records := fun c hc => by rw [classRec_setRank, if_neg fun e => hc e.1])
    (assignments := assignmentOf_setRank k x s)

theorem endRank_touches (x : RankState) (s : State) : Touches k z s (endRank k x s) := by
  unfold endRank
  split
  · exact setRank_touches x s
  · exact .of_parts

theorem activate_touches (s : State) : Touches k z s (activate k.cls s) :=
  .of_parts (ranks := fun j _ => rankAt_activate k.cls s j)
    (records := fun c hc => by rw [classRec_activate, if_neg fun e => hc e.1])
    (assignments := fun c => by
      rw [assignmentOf_eq, assignmentOf_eq, classRec_activate]
      split
      · rename_i hc
        rw [hc.1]
        simp
      · simp)

theorem raise_touches (c : Cause) (s : State) : Touches k z s (raise c s) := .of_parts

theorem act_touches (x : Action) (s : State) : Touches k z s (act x s) := .of_parts

theorem addTray_touches (n : Nat) (s : State) : Touches k z s (addTray n s) := .of_parts

theorem sendDisposition_touches (p : Packet) (d n u : Nat) (s : State) : Touches k z s (sendDisposition p d n u s) := .of_parts

theorem leaveHeld_touches (s : State) : Touches k z s (leaveHeld k s) :=
  .of_parts (held := fun j hj => by simp [leaveHeld, hj]) (heldOnce := fun h => h.filter _)

theorem joinHeld_touches (hk : k ∉ s.held) : Touches k z s (s.setHeld (s.held ++ [k])) :=
  .of_parts (packets := fun _ _ => rfl) (ranks := fun _ _ => rfl) (records := fun _ _ => rfl) (assignments := fun _ => rfl)
    (slots := fun _ _ => rfl) (held := fun j hj => by simp [hj])
    (heldOnce := fun h => List.nodup_append.mpr ⟨h, List.nodup_singleton k, fun a ha b hb e => by
      rw [List.mem_singleton.mp hb] at e
      exact hk (e ▸ ha)⟩)

theorem joinFinishing_touches (q : QueueName) (hk : k ∉ s.queued.map Queued.key) : Touches k z s (joinFinishing q k s) :=
  .of_parts (queued := fun j hj => by simp [joinFinishing, hj])
    (queuedOnce := fun h => by
      simp only [joinFinishing, State.setQueued_queued, List.map_append, List.map_cons, List.map_nil]
      exact List.nodup_append.mpr ⟨h, List.nodup_singleton k, fun a ha b hb e => by
        rw [List.mem_singleton.mp hb] at e
        exact hk (e ▸ ha)⟩)

theorem leaveFinishing_touches (s : State) : Touches k z s (leaveFinishing k s) :=
  .of_parts
    (queued := fun j hj => by
      simp only [leaveFinishing, State.setQueued_queued, List.mem_map, List.mem_filter, decide_eq_true_eq]
      exact ⟨fun ⟨q, hq, e⟩ => ⟨q, hq.1, e⟩, fun ⟨q, hq, e⟩ => ⟨q, ⟨hq, e ▸ hj⟩, e⟩⟩)
    (queuedOnce := fun h => h.sublist (List.filter_sublist.map _))

theorem setFin_touches {v : Finisher} (hs : ∀ c, s.fin.current = some c → c.key = k ∨ v.current.map Current.key = some c.key)
    (hv : ∀ c, v.current = some c → c.key = k ∨ s.fin.current.map Current.key = some c.key) : Touches k z s (s.setFin v) :=
  .of_parts (packets := fun _ _ => rfl) (ranks := fun _ _ => rfl) (records := fun _ _ => rfl) (assignments := fun _ => rfl)
    (slots := fun _ _ => rfl)
    (current := fun j hj => by
      simp only [State.setFin_fin, Option.map_eq_some_iff]
      constructor
      · rintro ⟨c, hc, rfl⟩
        exact Option.map_eq_some_iff.mp ((hv c hc).resolve_left hj)
      · rintro ⟨c, hc, rfl⟩
        exact Option.map_eq_some_iff.mp ((hs c hc).resolve_left hj))

/-! ## The law after the change of one key -/

/-- The law after a change of one key and its slot, where the key itself fits: nothing else of the state can break it. -/
theorem Agrees.touched (h : Agrees o f s) (ht : Touches k z s t)
    (hours : ∀ n, z = some n → ∀ g m j, s.slot n = .occupied g m j → j = k)
    (hthen : ∀ n, z = some n → ∀ g m j, t.slot n = .occupied g m j → j = k ∧ t.slotOf k = some n)
    (hslot : ∀ n, s.slotOf k = some n → z = some n)
    (hactive : (t.classRec k.cls).state = .active)
    (hwait : ∀ u ∈ s.unplaced, u.key ≠ k)
    (hidle : s.unplaced ≠ [] → ∀ n, f' ≠ some n → t.slot n = .free → f ≠ some n ∧ z ≠ some n)
    (htransferred : ∀ c, t.fin.current = some c → t.fin.unit.running ≠ none → t.fin.unit.running ≠ some .transfer →
      t.slotOf c.key = none)
    (ho : ∀ j, j ≠ k → (o' = some j ↔ o = some j))
    (hexempt : o' = some k → stateOf t k = none ∧ t.rankAt k = some .opened)
    (hfits : KeyFits o' t k) : Agrees o' f' t := by
  have active : ∀ j : Key, (s.classRec j.cls).state = .active → (t.classRec j.cls).state = .active := by
    intro j hj
    by_cases hc : j.cls = k.cls
    · rw [hc]
      exact hactive
    · rw [ht.records _ hc]
      exact hj
  refine
    { rise := ht.rise h.rise, fits := fun j => ?_, occupied := fun n g m j hs => ?_, heldOnce := ht.heldOnce h.heldOnce,
      queuedOnce := ht.queuedOnce h.queuedOnce, transferred := htransferred, waiting := fun u hu => ?_,
      waitingOnce := ht.unplaced ▸ h.waitingOnce, noIdleSlot := fun he n hn hfree => ?_, doneClasses := fun c hc => ?_,
      exempt := fun j hj => ?_ }
  · by_cases hj : j = k
    · rw [hj]
      exact hfits
    · refine (h.fits j).congr (ht.packets j hj) (ht.ranks j hj) (fun _ => active j) (fun n hn => ht.slots n fun hz => ?_)
        (ht.held j hj) (ht.queued j hj) (ht.current j hj) fun hne e => hne ((ho j hj).mpr e)
      have hp := hn
      rw [slotOf_eq] at hp
      obtain ⟨p, hp, -⟩ := Option.bind_eq_some_iff.mp hp
      obtain ⟨g, m, hs, -⟩ := (h.fits j).slot _ n (stateOf_of_packet hp) hn
      exact hj (hours n hz g m j hs)
  · by_cases hz : z = some n
    · obtain ⟨rfl, hk⟩ := hthen n hz g m j hs
      exact hk
    · rw [ht.slots n hz] at hs
      have hjn := h.occupied n g m j hs
      rw [slotOf_congr_packet (ht.packets j fun e => hz (hslot n (e ▸ hjn)))]
      exact hjn
  · rw [ht.unplaced] at hu
    obtain ⟨ha, hr, hb⟩ := h.waiting u hu
    exact ⟨active _ ha, by rw [ht.ranks _ (hwait u hu)]; exact hr, by rw [ht.assignments]; exact hb⟩
  · rw [ht.unplaced] at he
    obtain ⟨hfn, hz⟩ := hidle he n hn hfree
    exact h.noIdleSlot he n hfn ((ht.slots n hz).symm.trans hfree)
  · have hne : c ≠ k.cls := by
      rintro rfl
      rw [hactive] at hc
      cases hc
    rw [ht.records c hne] at hc ⊢
    exact h.doneClasses c hc
  · by_cases hjk : j = k
    · subst hjk
      exact ⟨hactive, hexempt hj⟩
    · obtain ⟨ha, hst, hr⟩ := h.exempt j ((ho j hjk).mp hj)
      exact ⟨active j ha, by rw [stateOf_congr (ht.packets j hjk)]; exact hst, by rw [ht.ranks j hjk]; exact hr⟩

end
end Sys2Proof.Tower

namespace Sys2Proof.Tower

open Sys2Proof.Machine Sys2Proof.Safety Sys2Proof.ClassTable Sys2Proof.Requests Sys2Proof.Events Sys2Proof.Lanes

/-! # A packet moves on (R80, R82, R83, R65, R69, R87, R113) -/

section
variable {s t u : State} {o o' : Option Key} {f f' z : Option (Fin 24)} {j k : Key} {n : Fin 24} {p q : Packet}
  {x y : PacketState} {g : SlotHold} {r : RankState}

/-- The slot of a packet (R50). -/
theorem Agrees.slot_of_packet (h : Agrees o f s) (hk : s.packet k = some p) (hn : p.slot = some n) :
    ∃ g m, s.slot n = .occupied g m k ∧ PacketState.fitsSlot p.state g :=
  (h.fits k).slot _ n (stateOf_of_packet hk) ((slotOf_of_packet hk).trans hn)

/-- A packet that the Finishing Unit has not taken stands in a slot (R73). -/
theorem Agrees.exists_slot (h : Agrees o f s) (hk : s.packet k = some p) (hx : p.state ≠ .finishing) : ∃ n, p.slot = some n := by
  cases hn : p.slot with
  | none => exact absurd ((h.fits k).gone _ (stateOf_of_packet hk) ((slotOf_of_packet hk).trans hn)) hx
  | some n => exact ⟨n, rfl⟩

theorem Agrees.active_of_packet (h : Agrees o f s) (hk : s.packet k = some p) : (s.classRec k.cls).state = .active :=
  (h.fits k).active (by simp [stateOf_of_packet hk])

/-- A key with a packet does not wait (R56). -/
theorem Agrees.not_waiting (h : Agrees o f s) (hk : s.packet k = some p) : ∀ u ∈ s.unplaced, u.key ≠ k := by
  rintro u hu rfl
  have hr := (h.fits u.key).rank _ (stateOf_of_packet hk)
  rw [(h.waiting u hu).2.1] at hr
  cases hx : p.state <;> simp [hx, PacketState.fitsRank] at hr

theorem Agrees.not_exempt (h : Agrees o f s) (hk : s.packet k = some p) : o ≠ some k := fun e => by
  have := (h.exempt k e).2.1
  rw [stateOf_of_packet hk] at this
  cases this

theorem Agrees.mem_held_iff (h : Agrees o f s) (hk : s.packet k = some p) : k ∈ s.held ↔ p.state = .held := by
  rw [(h.fits k).held, stateOf_of_packet hk, Option.some_inj]

theorem Agrees.mem_queued_iff (h : Agrees o f s) (hk : s.packet k = some p) : k ∈ s.queued.map Queued.key ↔ p.state = .queued := by
  rw [(h.fits k).queued, stateOf_of_packet hk, Option.some_inj]

theorem Agrees.current_iff (h : Agrees o f s) (hk : s.packet k = some p) :
    s.fin.current.map Current.key = some k ↔ p.state = .finishing := by
  rw [(h.fits k).current, stateOf_of_packet hk, Option.some_inj]

theorem Agrees.rank_isSome (h : Agrees o f s) (hk : s.packet k = some p) : (s.rankAt k).isSome = true := by
  have hr := (h.fits k).rank _ (stateOf_of_packet hk)
  cases hx : p.state <;> simp only [hx, PacketState.fitsRank] at hr
  case queued | finishing => rcases hr with hr | hr | hr <;> simp [hr]
  all_goals simp [hr]

/-- A packet in a slot moves on to another state, with its slot, its rank and its place in the lists. -/
theorem Agrees.shifted (h : Agrees o f s) (hk : s.packet k = some p) (hx : p.state ≠ .finishing)
    (ht : Touches k (s.slotOf k) s t) (hp : t.packet k = some q) (hplace : q.slot = p.slot) (hstop : q.timer = .stopped)
    (hy : q.state ≠ .collecting) (hs : ∀ n, s.slotOf k = some n → t.slot n = (s.slot n).withHold g)
    (hfit : PacketState.fitsSlot q.state g) (hrank : PacketState.fitsRank q.state (t.rankAt k))
    (hstage : (t.classRec k.cls).state = .active) (hheld : k ∈ t.held ↔ q.state = .held)
    (hqueued : k ∈ t.queued.map Queued.key ↔ q.state = .queued)
    (hcurrent : t.fin.current.map Current.key = some k ↔ q.state = .finishing)
    (htransferred : ∀ c, t.fin.current = some c → t.fin.unit.running ≠ none → t.fin.unit.running ≠ some .transfer →
      t.slotOf c.key = none) : Agrees o f t := by
  obtain ⟨n, hn⟩ := h.exists_slot hk hx
  obtain ⟨g', m, hsn, -⟩ := h.slot_of_packet hk hn
  have hsk : s.slotOf k = some n := (slotOf_of_packet hk).trans hn
  have htk : t.slotOf k = some n := (slotOf_of_packet hp).trans (hplace.trans hn)
  have htn : t.slot n = .occupied g m k := by rw [hs n hsk, hsn]; rfl
  have hst : stateOf t k = some q.state := stateOf_of_packet hp
  refine h.touched ht ?_ ?_ (fun _ => id) hstage (h.not_waiting hk) ?_ htransferred (fun _ _ => Iff.rfl)
    (fun e => absurd e (h.not_exempt hk)) ?_
  · intro n' e g m j hj
    cases hsk.symm.trans e
    rw [hsn] at hj
    cases hj
    rfl
  · intro n' e g m j hj
    cases hsk.symm.trans e
    rw [htn] at hj
    cases hj
    exact ⟨rfl, htk⟩
  · intro _ n' hf hfree
    refine ⟨hf, fun e => ?_⟩
    cases hsk.symm.trans e
    rw [htn] at hfree
    cases hfree
  · refine
      { active := fun _ => hstage, rank := fun x hx => ?_, timer := fun q' hq ht => ?_, gone := fun x hx hn => ?_,
        slot := fun x n' hx hn' => ?_, held := by rw [hheld, hst, Option.some_inj], queued := by rw [hqueued, hst, Option.some_inj],
        current := by rw [hcurrent, hst, Option.some_inj], opened := fun _ hr => ?_, heldRank := fun hr => ?_ }
    · cases hst.symm.trans hx
      exact hrank
    · cases hp.symm.trans hq
      exact absurd hstop ht
    · rw [htk] at hn
      cases hn
    · cases hst.symm.trans hx
      cases htk.symm.trans hn'
      exact ⟨g, m, htn, hfit⟩
    · rw [hr] at hrank
      cases hy' : q.state <;> simp [hy', PacketState.fitsRank] at hrank hy ⊢
    · rw [hr] at hrank
      rw [hst]
      cases hy' : q.state <;> simp [hy', PacketState.fitsRank] at hrank ⊢

/-- The same, where the Finishing Unit has no part in it. -/
theorem Agrees.handed (h : Agrees o f s) (hk : s.packet k = some p) (hx : p.state ≠ .finishing)
    (ht : Touches k (s.slotOf k) s t) (hp : t.packet k = some q) (hplace : q.slot = p.slot) (hq : q.timer = p.timer)
    (hstop : p.timer = .stopped) (hy : q.state = .held ∨ q.state = .queued) (hs : ∀ n, s.slotOf k = some n → t.slot n = (s.slot n).withHold g)
    (hfit : PacketState.fitsSlot q.state g) (hrank : t.rankAt k = some r) (hr : PacketState.fitsRank q.state (some r))
    (hstage : (t.classRec k.cls).state = (s.classRec k.cls).state) (hheld : k ∈ t.held ↔ q.state = .held)
    (hqueued : k ∈ t.queued.map Queued.key ↔ q.state = .queued) (hfin : t.fin = s.fin) : Agrees o f t := by
  refine h.shifted hk hx ht hp hplace (hq.trans hstop) ?_ hs hfit (hrank ▸ hr) (hstage.trans (h.active_of_packet hk)) hheld hqueued ?_ ?_
  · rcases hy with hy | hy <;> simp [hy]
  · rw [hfin, h.current_iff hk]
    rcases hy with hy | hy <;> simp [hy, hx]
  · intro c hc hrun htr
    rw [hfin] at hc hrun htr
    have hslot : t.slotOf c.key = s.slotOf c.key := by
      by_cases hck : c.key = k
      · rw [hck, slotOf_of_packet hk, slotOf_of_packet hp, hplace]
      · exact slotOf_congr_packet (ht.packets _ hck)
    rw [hslot]
    exact h.transferred c hc hrun htr

theorem state_setRank (k : Key) (x : RankState) (s : State) (c : Nat) :
    ((setRank k x s).classRec c).state = (s.classRec c).state := by
  rw [classRec_setRank]
  split
  · rename_i hc
    rw [hc.1]
    rfl
  · rfl

theorem state_of_setRank_classes (h : t.classes = (setRank k r s).classes) (c : Nat) :
    (t.classRec c).state = (s.classRec c).state := by
  rw [classRec_congr h, state_setRank]

/-! ## Out of the held list (R80, R87) -/

theorem Agrees.packet_of_heldRank (h : Agrees o f s) (hk : s.rankAt k = some .held) : ∃ p, s.packet k = some p ∧ p.state = .held :=
  stateOf_eq_some.mp ((h.fits k).heldRank hk)

/-- A packet in another state than COLLECTING has its timer stopped (R63, R66). -/
theorem Agrees.timer_stopped (h : Agrees o f s) (hk : s.packet k = some p) (hx : p.state ≠ .collecting) : p.timer = .stopped := by
  by_contra ht
  exact hx ((h.fits k).timer p hk ht)

theorem release_agrees (h : Agrees o f s) (hk : s.rankAt k = some .held) : Agrees o f (release k s) := by
  obtain ⟨p, hp, hx⟩ := h.packet_of_heldRank hk
  obtain ⟨hqueued, hheld⟩ := release_lists k s
  have hnq : k ∉ s.queued.map Queued.key := by simp [h.mem_queued_iff hp, hx]
  refine h.handed (t := release k s) (q := { p with state := .queued }) (g := .queued) (r := .released) hp (by simp [hx]) ?_
    (by rw [packet_release, if_pos rfl, hp]; rfl) rfl rfl (h.timer_stopped hp (by simp [hx])) (.inr rfl)
    (fun n hn => by rw [slot_release, if_pos hn]) rfl (by rw [rankAt_release, hk, if_pos ⟨rfl, rfl⟩]) (.inl rfl)
    (state_of_setRank_classes (r := .released) (k := k) (by simp [release]) _) (by simp [hheld]) (by simp [hqueued])
    (by simp)
  exact (setRank_touches .released s).trans ((leaveHeld_touches _).trans
    ((movePacket_touches fun n hn => by rw [← hn]; exact (slotOf_congr (by simp) k).symm).trans
      (joinFinishing_touches _ (by simpa using hnq))))

/-- A packet marked to be sent out of roster order, before it moves (R87). -/
def markedRelieved (k : Key) (s : State) : State :=
  setRank k .relieved (leaveHeld k (updateFlags k (fun f => { f with relieved := true }) s))

/-- A packet sent out of roster order, before the advance (R87). -/
def relievedOut (k : Key) (s : State) : State :=
  raise .orderRelief (joinFinishing (s.classQueue k.cls) k (movePacket k .queued (markedRelieved k s)))

theorem relieve_eq (k : Key) (s : State) : relieve k s = orderStep k.cls (relievedOut k s) := rfl

theorem packet_markedRelieved (k : Key) (s : State) (j : Key) :
    (markedRelieved k s).packet j
      = if j = k then (s.packet k).map (fun p => { p with flags := { p.flags with relieved := true } }) else s.packet j := by
  rw [packet_congr (s := updateFlags k (fun f => { f with relieved := true }) s) (by simp [markedRelieved]), updateFlags,
    packet_updatePacket]
  simp

theorem relievedOut_agrees (h : Agrees o f s) (hk : k ∈ s.held) : Agrees o f (relievedOut k s) := by
  obtain ⟨p, hp, hx⟩ := stateOf_eq_some.mp ((h.fits k).held.mp hk)
  have hnq : k ∉ s.queued.map Queued.key := by simp [h.mem_queued_iff hp, hx]
  have hmarked := packet_markedRelieved k s k
  rw [if_pos rfl, hp] at hmarked
  have hslot : (markedRelieved k s).slotOf k = s.slotOf k := by rw [slotOf_of_packet hmarked, slotOf_of_packet hp]
  refine h.handed (t := relievedOut k s) (q := { p with flags := { p.flags with relieved := true }, state := .queued })
    (g := .queued) (r := .relieved) hp (by simp [hx]) ?_ ?_ rfl rfl (h.timer_stopped hp (by simp [hx])) (.inr rfl)
    (fun n hn => ?_) rfl ?_ (.inr (.inl rfl)) ?_ (by simp [relievedOut, markedRelieved, leaveHeld])
    (by simp [relievedOut, joinFinishing]) (by simp [relievedOut, markedRelieved])
  · exact (updateFlags_touches (fun f => { f with relieved := true }) s).trans ((leaveHeld_touches _).trans
      ((setRank_touches .relieved _).trans ((movePacket_touches fun n hn => by rw [← hn]; exact hslot.symm).trans
        ((joinFinishing_touches _ (by simpa [markedRelieved] using hnq)).trans (raise_touches _ _)))))
  · rw [packet_congr (s := movePacket k .queued (markedRelieved k s)) (by simp [relievedOut]), packet_movePacket, if_pos rfl,
      hmarked]
    rfl
  · rw [slot_congr (s := movePacket k .queued (markedRelieved k s)) (by simp [relievedOut]), slot_movePacket, hslot, if_pos hn,
      slot_congr (s := s) (by simp [markedRelieved])]
  · rw [rankAt_congr (s := markedRelieved k s) (by simp [relievedOut]), markedRelieved, rankAt_setRank,
      rankAt_congr (s := s) (by simp), h.rank_isSome hp, if_pos ⟨rfl, rfl⟩]
  · rw [classRec_congr (s := markedRelieved k s) (by simp [relievedOut]), markedRelieved, state_setRank,
      classRec_congr (s := s) (by simp)]

/-! ## Out of COLLECTING (R65, R69, R82, R83) -/

section
variable (h : Agrees o f s) (hk : s.packet k = some p) (hx : p.state = .collecting) (hstop : p.timer = .stopped)
include h hk hx

theorem Agrees.collecting_facts : ∃ n i, p.slot = some n ∧ s.slot n = .occupied .collecting i k
    ∧ k ∉ s.queued.map Queued.key ∧ k ∉ s.held := by
  obtain ⟨n, hn⟩ := h.exists_slot hk (by simp [hx])
  obtain ⟨g, i, hs, hg⟩ := h.slot_of_packet hk hn
  rw [hx] at hg
  cases hg
  exact ⟨n, i, hn, hs, by simp [h.mem_queued_iff hk, hx], by simp [h.mem_held_iff hk, hx]⟩

include hstop

/-- What `MovedAlone` says of a packet that leaves COLLECTING is enough for the law. -/
theorem Agrees.movedAlone (hm : MovedAlone k n q g r s t) (hn : p.slot = some n) (ht : Touches k (s.slotOf k) s t)
    (hq : q.timer = p.timer) (hy : q.state = .held ∨ q.state = .queued) (hfit : PacketState.fitsSlot q.state g)
    (hr : PacketState.fitsRank q.state (some r)) (hstage : (t.classRec k.cls).state = (s.classRec k.cls).state)
    (hheld : k ∈ t.held ↔ q.state = .held) (hqueued : k ∈ t.queued.map Queued.key ↔ q.state = .queued)
    (hfin : t.fin = s.fin) : Agrees o f t := by
  obtain ⟨hpacket, hplace, ⟨i, hs, hts⟩, hrank, -⟩ := hm
  refine h.handed hk (by simp [hx]) ht (by rw [hpacket, if_pos rfl]) (hplace.trans hn.symm) hq hstop hy (fun n' hn' => ?_)
    hfit (by rw [hrank, if_pos rfl]) hr hstage hheld hqueued hfin
  rw [slotOf_of_packet hk, hn] at hn'
  cases hn'
  rw [hs, hts]
  rfl

theorem trayQueued_agrees : Agrees o f (trayQueued k s) := by
  obtain ⟨n, i, hn, hs, hnq, hnh⟩ := h.collecting_facts hk hx
  refine h.movedAlone hk hx hstop (trayQueued_moved hk hn hs (h.rank_isSome hk)) hn ?_ rfl (.inr rfl) rfl (.inr (.inr rfl)) ?_
    (by simp [trayQueued, hnh]) (by simp [trayQueued, joinFinishing]) (by simp [trayQueued])
  · exact (movePacket_touches fun _ => id).trans ((joinFinishing_touches _ (by simpa using hnq)).trans (setRank_touches _ _))
  · exact state_of_setRank_classes (r := .missed) (k := k) (setRank_classes_congr (by simp) _ _) _

theorem lateQueued_agrees : Agrees o f (lateQueued k s) := by
  obtain ⟨n, i, hn, hs, hnq, hnh⟩ := h.collecting_facts hk hx
  refine h.movedAlone hk hx hstop (lateQueued_moved hk hn hs (h.rank_isSome hk)) hn ?_ rfl (.inr rfl) rfl (.inr (.inl rfl)) ?_
    (by simp [lateQueued, hnh]) (by simp [lateQueued, joinFinishing]) (by simp [lateQueued])
  · have hslot : (setRank k .relieved (updateFlags k (fun f => { f with late := true }) s)).slotOf k = s.slotOf k := by
      rw [slotOf_congr (s := updateFlags k (fun f => { f with late := true }) s) (by simp), slotOf_updateFlags]
    exact (updateFlags_touches (g := fun f => { f with late := true }) s).trans ((setRank_touches .relieved _).trans
      ((movePacket_touches fun n hn => hslot.symm.trans hn).trans (joinFinishing_touches _ (by simpa using hnq))))
  · rw [classRec_lateQueued, state_setRank]

theorem newlyHeld_agrees : Agrees o f (newlyHeld k s) := by
  obtain ⟨n, i, hn, hs, hnq, hnh⟩ := h.collecting_facts hk hx
  refine h.movedAlone hk hx hstop (newlyHeld_moved hk hn hs (h.rank_isSome hk)) hn ?_ rfl (.inl rfl) rfl rfl ?_
    (by simp [newlyHeld]) ?_ (by simp [newlyHeld])
  · refine (setRank_touches .held s).trans ((movePacket_touches fun n hn => ?_).trans (joinHeld_touches (by simpa using hnh)))
    rw [← hn]
    exact (slotOf_congr (by simp) k).symm
  · rw [classRec_newlyHeld, state_setRank]
  · simpa [newlyHeld] using hnq

end
end
end Sys2Proof.Tower

namespace Sys2Proof.Tower

open Sys2Proof.Machine Sys2Proof.Safety Sys2Proof.ClassTable Sys2Proof.Requests Sys2Proof.Events Sys2Proof.Lanes

/-! # Changes of class records, and the advance (R7, R8, R78 to R80) -/

section
variable {s t u : State} {o o' : Option Key} {f f' z : Option (Fin 24)} {c : Nat} {j k : Key} {n : Fin 24} {p q : Packet}
  {x y : PacketState} {g : SlotHold} {r : RankState}

/-- The law after a change of class records that leaves the ranks of packets, and of an unplaced list that gives up keys. -/
theorem Agrees.reclassed (h : Agrees o f s)
    (hkept : ∀ k, stateOf s k ≠ none → t.rankAt k = s.rankAt k ∧ (t.classRec k.cls).state = .active)
    (hopened : ∀ k, o' ≠ some k → stateOf s k = none → t.rankAt k ≠ some .opened)
    (hheld : ∀ k, stateOf s k = none → t.rankAt k ≠ some .held)
    (hwait : ∀ u ∈ t.unplaced, (t.classRec u.key.cls).state = .active ∧ t.rankAt u.key = some .waiting
      ∧ (t.assignmentOf u.key.cls).isSome)
    (hdone : ∀ c, (t.classRec c).state = .done →
      (t.classRec c).cursor = (t.classRec c).size ∧ (t.classRec c).countOf .waiting = 0)
    (hexempt : ∀ k, o' = some k → (t.classRec k.cls).state = .active ∧ stateOf s k = none ∧ t.rankAt k = some .opened)
    (hu : t.unplaced.Sublist s.unplaced := by simp) (hp : t.packets = s.packets := by simp) (hs : t.slots = s.slots := by simp)
    (hh : t.held = s.held := by simp) (hq : t.queued = s.queued := by simp) (hf : t.fin = s.fin := by simp) : Agrees o' f t := by
  have est : ∀ k, stateOf t k = stateOf s k := fun k => stateOf_congr (packet_congr hp k)
  have esl := slotOf_congr hp
  have en := slot_congr hs
  refine
    { rise := by rw [KeysRise, hp]; exact h.rise
      fits := fun k => ?_
      occupied := fun n g m k => by rw [en, esl]; exact h.occupied n g m k
      heldOnce := hh ▸ h.heldOnce, queuedOnce := hq ▸ h.queuedOnce
      transferred := fun c => by rw [hf, esl]; exact h.transferred c
      waiting := hwait, waitingOnce := h.waitingOnce.sublist (hu.map _)
      noIdleSlot := fun he n hn => by
        rw [en]
        exact h.noIdleSlot (fun e => he (List.sublist_nil.mp (e ▸ hu))) n hn
      doneClasses := hdone
      exempt := fun k => by rw [est]; exact hexempt k }
  have hk := h.fits k
  refine
    { active := fun hx => (hkept k (est k ▸ hx)).2
      rank := fun x hx => by
        rw [est] at hx
        rw [(hkept k (by simp [hx])).1]
        exact hk.rank x hx
      timer := by rw [packet_congr hp]; exact hk.timer
      gone := by rw [est, esl]; exact hk.gone
      slot := fun x n => by rw [est, esl, en]; exact hk.slot x n
      held := by rw [est, hh]; exact hk.held
      queued := by rw [est, hq]; exact hk.queued
      current := by rw [est, hf]; exact hk.current
      opened := fun ho hr => ?_
      heldRank := fun hr => ?_ }
  · rw [est]
    by_cases hx : stateOf s k = none
    · exact absurd hr (hopened k ho hx)
    · rw [(hkept k hx).1] at hr
      exact hk.opened (fun e => hx (h.exempt k e).2.1) hr
  · rw [est]
    by_cases hx : stateOf s k = none
    · exact absurd hr (hheld k hx)
    · rw [(hkept k hx).1] at hr
      exact hk.heldRank hr

theorem Agrees.not_opened (h : Agrees o f s) (ho : o ≠ some k) (hx : stateOf s k = none) : s.rankAt k ≠ some .opened := fun hr => by
  have := (h.fits k).opened ho hr
  rw [hx] at this
  cases this

theorem Agrees.not_heldRank (h : Agrees o f s) (hx : stateOf s k = none) : s.rankAt k ≠ some .held := fun hr => by
  have := (h.fits k).heldRank hr
  rw [hx] at this
  cases this

/-- The law after a change of class records that leaves ranks and stages. -/
theorem Agrees.recorded (h : Agrees o f s) (hr : ∀ k, t.rankAt k = s.rankAt k)
    (hc : ∀ c, (t.classRec c).state = (s.classRec c).state) (ha : ∀ c, t.assignmentOf c = s.assignmentOf c)
    (hdone : ∀ c, (t.classRec c).state = .done →
      (t.classRec c).cursor = (t.classRec c).size ∧ (t.classRec c).countOf .waiting = 0)
    (hu : t.unplaced = s.unplaced := by simp) (hp : t.packets = s.packets := by simp) (hs : t.slots = s.slots := by simp)
    (hh : t.held = s.held := by simp) (hq : t.queued = s.queued := by simp) (hf : t.fin = s.fin := by simp) : Agrees o f t := by
  refine h.reclassed (fun k hk => ⟨hr k, (hc _).trans ((h.fits k).active hk)⟩) (fun k ho hk => by rw [hr]; exact h.not_opened ho hk)
    (fun k hk => by rw [hr]; exact h.not_heldRank hk) (fun u hu' => ?_) hdone (fun k hk => ?_) (hu ▸ .refl _) hp hs hh hq hf
  · rw [hr, hc, ha]
    exact h.waiting u (hu ▸ hu')
  · rw [hr, hc]
    exact h.exempt k hk

/-- A rank that is exempt gets a state of a rank without a packet, and is exempt no longer (R70). -/
theorem setRank_agrees (h : Agrees (some k) f s) (hx : r ≠ .opened) (hr : r ≠ .held) : Agrees none f (setRank k r s) := by
  obtain ⟨hactive, hst, hopened⟩ := h.exempt k rfl
  have hrank : ∀ j, (setRank k r s).rankAt j = if j = k then some r else s.rankAt j := fun j => by
    simp [rankAt_setRank, hopened]
  refine h.reclassed (fun j hj => ⟨?_, ?_⟩) (fun j _ hj => ?_) (fun j hj => ?_) (fun u hu => ?_) (fun c hc => ?_) nofun
  · rw [hrank, if_neg]
    rintro rfl
    exact hj hst
  · rw [state_setRank]
    exact (h.fits j).active hj
  · rw [hrank]
    split
    · simpa using hx
    · rename_i hjk
      exact h.not_opened (fun e => hjk (Option.some.inj e).symm) hj
  · rw [hrank]
    split
    · simpa using hr
    · exact h.not_heldRank hj
  · obtain ⟨ha, hw, has⟩ := h.waiting u (by simpa using hu)
    refine ⟨by rw [state_setRank]; exact ha, ?_, by rw [assignmentOf_setRank]; exact has⟩
    rw [hrank, if_neg]
    · exact hw
    · intro e
      rw [e, hopened] at hw
      cases hw
  · rw [state_setRank] at hc
    have hne : c ≠ k.cls := by
      rintro rfl
      rw [hactive] at hc
      cases hc
    rw [classRec_setRank, if_neg fun e => hne e.1]
    exact h.doneClasses c hc

theorem classRec_bumpCursor (c d : Nat) (s : State) :
    (bumpCursor c s).classRec d
      = if d = c ∧ c < 48 then { s.classRec c with cursor := (s.classRec c).cursor + 1 } else s.classRec d :=
  State.classRec_setClassRec s c d _

theorem state_bumpCursor (c d : Nat) (s : State) : ((bumpCursor c s).classRec d).state = (s.classRec d).state := by
  rw [classRec_bumpCursor]
  split
  · rename_i hd
    rw [hd.1]
  · rfl

theorem bumpCursor_agrees (h : Agrees o f s) (hc : (s.classRec c).state ≠ .done) : Agrees o f (bumpCursor c s) := by
  refine h.recorded (rankAt_bumpCursor c s) (fun d => state_bumpCursor c d s) (fun d => ?_) (fun d hd => ?_)
  · rw [assignmentOf_eq, assignmentOf_eq, classRec_bumpCursor]
    split
    · rename_i hd
      rw [hd.1]
      simp
    · simp
  · rw [state_bumpCursor] at hd
    rw [classRec_bumpCursor, if_neg]
    · exact h.doneClasses d hd
    · rintro ⟨rfl, -⟩
      exact hc hd

theorem state_release (k : Key) (s : State) (d : Nat) : ((release k s).classRec d).state = (s.classRec d).state :=
  state_of_setRank_classes (r := .released) (k := k) (by simp [release]) d

theorem passOver_agrees (h : Agrees o f s) (hc : (s.classRec c).state ≠ .done) :
    Agrees o f (passOver c s) ∧ ((passOver c s).classRec c).state ≠ .done := by
  unfold passOver
  split
  · rename_i hr
    refine ⟨bumpCursor_agrees (release_agrees h hr) ?_, ?_⟩
    · rwa [state_release]
    · rwa [state_bumpCursor, state_release]
  · exact ⟨bumpCursor_agrees h hc, by rwa [state_bumpCursor]⟩

theorem advance_agrees (fuel : Nat) (h : Agrees o f s) (hc : (s.classRec c).state ≠ .done) : Agrees o f (advance c fuel s) := by
  induction fuel generalizing s with
  | zero => exact h
  | succ fuel ih =>
    rw [advance_succ]
    split
    · exact ih (passOver_agrees h hc).1 (passOver_agrees h hc).2
    · exact h

theorem cursorAdvance_agrees (h : Agrees o f s) (hc : (s.classRec c).state ≠ .done) : Agrees o f (cursorAdvance c s) :=
  advance_agrees _ h hc

/-- A class is done only where the law lets it be: it has no packet, no key of it waits, and no rank of it is exempt (R8). -/
theorem doneCheck_agrees (h : Agrees o f s) (ho : ∀ k, o = some k → k.cls = c → ∃ p ∈ s.packets, p.key.cls = c) :
    Agrees o f (doneCheck c s) := by
  have hrec := classRec_doneCheck c s
  by_cases hd : (s.classRec c).state = .active ∧ s.doneCondition c = true
  · obtain ⟨-, hcond⟩ := id hd
    simp only [State.doneCondition, Bool.and_eq_true, Bool.not_eq_true', List.any_eq_false, decide_eq_true_eq] at hcond
    obtain ⟨⟨hcur, hnone⟩, hcount⟩ := hcond
    have hcls : ∀ k, stateOf s k ≠ none → k.cls ≠ c := by
      rintro k hk rfl
      obtain ⟨x, hx⟩ := Option.ne_none_iff_exists'.mp hk
      obtain ⟨p, hp, rfl, -⟩ := h.rise.exists_mem_iff.mpr hx
      exact hnone p hp rfl
    have hstate : ∀ d, d ≠ c → (doneCheck c s).classRec d = s.classRec d := fun d hdc => by rw [hrec, if_neg fun e => hdc e.1]
    have hself : (doneCheck c s).classRec c = { s.classRec c with state := .done } := by rw [hrec, if_pos ⟨rfl, hd⟩]
    have hbody : ∀ d, ((doneCheck c s).classRec d).body = (s.classRec d).body := fun d => by
      by_cases hdc : d = c
      · rw [hdc, hself]
      · rw [hstate d hdc]
    have htables : (doneCheck c s).tables = s.tables := by simp
    have hrank : ∀ k, (doneCheck c s).rankAt k = s.rankAt k := fun k => by
      rw [State.rankAt, State.rankAt, ClassRec.rankAt, ClassRec.rankAt, hbody]
    refine h.reclassed (fun k hk => ⟨hrank k, ?_⟩) (fun k hok hk => by rw [hrank]; exact h.not_opened hok hk)
      (fun k hk => by rw [hrank]; exact h.not_heldRank hk) (fun u hu => ?_) (fun d hdone => ?_) (fun k hk => ?_)
    · rw [hstate _ (hcls k hk)]
      exact (h.fits k).active hk
    · obtain ⟨ha, hw, has⟩ := h.waiting u (by simpa using hu)
      have hne : u.key.cls ≠ c := by
        rintro rfl
        exact countOf_ne_zero hw hcount
      refine ⟨by rw [hstate _ hne]; exact ha, by rw [hrank]; exact hw, ?_⟩
      rwa [assignmentOf_eq, hbody, htables, ← assignmentOf_eq]
    · by_cases hdc : d = c
      · subst hdc
        rw [hself]
        exact ⟨hcur, hcount⟩
      · rw [hstate d hdc] at hdone ⊢
        exact h.doneClasses d hdone
    · obtain ⟨ha, hst, hr⟩ := h.exempt k hk
      refine ⟨?_, hst, by rw [hrank]; exact hr⟩
      rw [hstate]
      · exact ha
      · intro hkc
        obtain ⟨p, hp, hpc⟩ := ho k hk hkc
        exact hnone p hp hpc
  · have e : doneCheck c s = s := by rw [doneCheck, if_neg (by simpa using hd)]
    rw [e]
    exact h

/-- The advance of a class that is not DONE keeps the law; where a rank is exempt, its class must have a packet (R78). -/
theorem orderStep_agrees (h : Agrees o f s) (hc : (s.classRec c).state ≠ .done)
    (ho : o = none ∨ ∃ k p, s.packet k = some p ∧ k.cls = c) : Agrees o f (orderStep c s) := by
  refine doneCheck_agrees (cursorAdvance_agrees h hc) fun j hj _ => ?_
  rcases ho with rfl | ⟨k, p, hk, hkc⟩
  · cases hj
  · have hknown := (cursorAdvance_releases c s).known k
    rw [hk] at hknown
    obtain ⟨q, hq⟩ := Option.isSome_iff_exists.mp hknown
    obtain ⟨hmem, hkey⟩ := mem_of_packet hq
    exact ⟨q, hmem, hkey ▸ hkc⟩

end
end Sys2Proof.Tower

namespace Sys2Proof.Tower

open Sys2Proof.Machine Sys2Proof.Safety Sys2Proof.ClassTable Sys2Proof.Requests Sys2Proof.Events Sys2Proof.Lanes

/-! # Handing on, relief and creation (R55, R59, R64, R65, R69, R82, R83, R87) -/

section
variable {s t u : State} {o o' : Option Key} {f f' z : Option (Fin 24)} {c : Nat} {j k : Key} {n : Fin 24} {p q : Packet}
  {x y : PacketState} {g : SlotHold} {r : RankState}

theorem Agrees.not_done (h : Agrees o f s) (hk : stateOf s k = some x) : (s.classRec k.cls).state ≠ .done := by
  rw [(h.fits k).active (by simp [hk])]
  decide

/-- The advance of a class that has a packet keeps the law (R78). -/
theorem orderStep_agrees_of_packet (h : Agrees o f s) (hk : stateOf s k = some x) : Agrees o f (orderStep k.cls s) := by
  obtain ⟨p, hp, -⟩ := stateOf_eq_some.mp hk
  exact orderStep_agrees h (h.not_done hk) (.inr ⟨k, p, hp, rfl⟩)

theorem relieve_agrees (h : Agrees o f s) (hk : k ∈ s.held) : Agrees o f (relieve k s) := by
  have h' := relievedOut_agrees h hk
  rw [relieve_eq]
  exact orderStep_agrees_of_packet h' ((h'.fits k).queued.mp (by simp [relievedOut, joinFinishing]))

theorem tryRelief_agrees (h : Agrees o f s) : Agrees o f (tryRelief s) := by
  unfold tryRelief
  split
  · split
    · rename_i k rest hheld
      exact relieve_agrees h (by simp [hheld])
    · exact h
  · exact h

section
variable (h : Agrees o f s) (hk : s.packet k = some p) (hx : p.state = .collecting) (hstop : p.timer = .stopped)
include h hk hx hstop

theorem queueForTray_agrees : Agrees o f (queueForTray k s) := by
  have h' := trayQueued_agrees h hk hx hstop
  exact orderStep_agrees_of_packet h' ((h'.fits k).queued.mp (by simp [trayQueued, joinFinishing]))

theorem handCompleted_agrees : Agrees o f (handCompleted k s) := by
  rw [handCompleted_eq]
  split
  · have h' := lateQueued_agrees h hk hx hstop
    exact orderStep_agrees_of_packet h' ((h'.fits k).queued.mp (by simp [lateQueued, joinFinishing]))
  · have h' := newlyHeld_agrees h hk hx hstop
    exact orderStep_agrees_of_packet h' ((h'.fits k).held.mp (by simp [newlyHeld]))

end

/-- A packet replaced in place (R63). -/
theorem replaced_agrees (h : Agrees o f s) (hk : s.packet k = some p) (hq : InPlace p q) :
    Agrees o f (updatePacket k (fun _ => q) s) ∧ (updatePacket k (fun _ => q) s).packet k = some q := by
  obtain ⟨hmem, hkey⟩ := mem_of_packet hk
  have h' : Agrees o f (updatePacket k (fun _ => q) s) := by
    refine updatePacket_agrees h fun p' hp' hkey' => ?_
    have := h.rise.packet hp'
    rw [hkey', hk] at this
    cases this
    exact hq
  refine ⟨h', ?_⟩
  have hq' := h'.rise.packet (p := q) (List.mem_map.mpr ⟨p, hmem, if_pos hkey⟩)
  rwa [hq.key, hkey] at hq'

/-- A COLLECTING packet with one more sheet in it (R63 to R65). -/
theorem settlePlaced_agrees (h : Agrees o f s) (hk : s.packet q.key = some p) (hx : p.state = .collecting)
    (hslot : q.slot = p.slot) (hstate : q.state = p.state) : Agrees o f (settlePlaced q s) := by
  have hkey : q.key = p.key := (mem_of_packet hk).2.symm
  unfold settlePlaced
  split
  · obtain ⟨h', hk'⟩ := replaced_agrees (q := { q with timer := .stopped }) h hk ⟨hkey, hslot, hstate, fun e => absurd rfl e⟩
    split
    · exact queueForTray_agrees h' hk' (hstate.trans hx) rfl
    · exact handCompleted_agrees h' hk' (hstate.trans hx) rfl
  · exact (replaced_agrees h hk ⟨hkey, hslot, hstate, fun _ => .inr hx⟩).1

theorem becomeStale_agrees (h : Agrees o f s) (hk : s.packet k = some p) (hx : p.state = .collecting) :
    Agrees o f (becomeStale k s) := by
  have h' : Agrees o f (updatePacket k (fun p => { p with timer := .stopped, flags := { p.flags with stale := true } }) s) :=
    updatePacket_agrees h fun _ _ _ => ⟨rfl, rfl, rfl, fun e => absurd rfl e⟩
  refine raise_agrees (queueForTray_agrees h' (k := k) ?_ (p := { p with timer := .stopped, flags := { p.flags with stale := true } })
    hx rfl) .packetStale
  rw [packet_updatePacket, if_pos rfl, hk]
  · rfl
  · simp

/-! ## Creation and the allocator (R55, R59) -/

theorem Agrees.stateOf_eq_none (h : Agrees o f s) (hr : s.rankAt k = some .waiting) : stateOf s k = none := by
  by_contra hx
  obtain ⟨x, hx⟩ := Option.ne_none_iff_exists'.mp hx
  have := (h.fits k).rank x hx
  rw [hr] at this
  cases x <;> simp [PacketState.fitsRank] at this

theorem packet_eq_none_iff : s.packet k = none ↔ stateOf s k = none := by simp [stateOf]

theorem slotOf_eq_none_of_stateOf (hk : stateOf s k = none) : s.slotOf k = none := by
  rw [slotOf_eq, packet_eq_none_iff.mpr hk]
  rfl

theorem Agrees.not_held (h : Agrees o f s) (hk : stateOf s k = none) : k ∉ s.held := by simp [(h.fits k).held, hk]

theorem Agrees.not_queued (h : Agrees o f s) (hk : stateOf s k = none) : k ∉ s.queued.map Queued.key := by
  rw [(h.fits k).queued, hk]
  nofun

theorem Agrees.not_current (h : Agrees o f s) (hk : stateOf s k = none) : s.fin.current.map Current.key ≠ some k := by
  rw [Ne, (h.fits k).current, hk]
  nofun

theorem Agrees.current_packet (h : Agrees o f s) {c : Current} (hc : s.fin.current = some c) :
    stateOf s c.key = some .finishing :=
  (h.fits c.key).current.mp (by rw [hc]; rfl)

/-- A WAITING rank of a class in use gets its packet, in a slot that is FREE (R55). -/
theorem created_agrees (h : Agrees o (some n) s) (hfree : s.slot n = .free) (hw : s.rankAt k = some .waiting)
    (hstage : (s.classRec k.cls).state = .loaded ∨ (s.classRec k.cls).state = .active) (hnew : ∀ u ∈ s.unplaced, u.key ≠ k)
    (a : Assignment) (tag : BitVec 16) : Agrees o none (created k n a tag s) := by
  have hst := h.stateOf_eq_none hw
  have hnone := packet_eq_none_iff.mpr hst
  have hpacket := packet_created hnone n a tag
  have hslot := slot_created k n a tag s
  have hrank := rankAt_created (s := s) (k := k) (by simp [hw]) n a tag
  have hactive : ((created k n a tag s).classRec k.cls).state = .active := by
    rw [classRec_created _ _ _ _ _ (lt_of_rankAt hw), if_pos rfl]
    rcases hstage with e | e <;> simp [e]
  have hthis : stateOf (created k n a tag s) k = some .collecting := stateOf_of_packet (by rw [hpacket, if_pos rfl])
  have hplace : (created k n a tag s).slotOf k = some n := slotOf_of_packet (by rw [hpacket, if_pos rfl])
  have hheld : (created k n a tag s).held = s.held := by simp [created]
  have hqueued : (created k n a tag s).queued = s.queued := by simp [created]
  have hfin : (created k n a tag s).fin = s.fin := by simp [created]
  have hexempt : o ≠ some k := fun e => by
    have := (h.exempt k e).2.2
    rw [hw] at this
    cases this
  refine h.touched (z := some n) ?_ ?_ ?_ ?_ hactive hnew ?_ ?_ (fun _ _ => Iff.rfl) (absurd · hexempt) ?_
  · exact (addPacket_touches (p := newPacket k (s.classRec k.cls).generation n a tag) hnone).trans ((setSlot_touches _ _).trans
      ((setRank_touches (k := k) .opened _).trans (activate_touches (k := k) _)))
  · intro m hm g i j hs
    cases hm
    rw [hfree] at hs
    cases hs
  · intro m hm g i j hs
    cases hm
    rw [hslot, if_pos rfl] at hs
    cases hs
    exact ⟨rfl, hplace⟩
  · intro m hm
    rw [slotOf_eq_none_of_stateOf hst] at hm
    cases hm
  · intro _ m _ hs
    have hmn : m ≠ n := by
      rintro rfl
      rw [hslot, if_pos rfl] at hs
      cases hs
    exact ⟨fun e => hmn (Option.some.inj e).symm, fun e => hmn (Option.some.inj e).symm⟩
  · intro c hc hrun htr
    rw [hfin] at hc hrun htr
    have hck : c.key ≠ k := fun e => by
      have := h.current_packet hc
      rw [e, hst] at this
      cases this
    rw [slotOf_congr_packet (s := s) (by rw [hpacket, if_neg hck])]
    exact h.transferred c hc hrun htr
  · refine
      { active := fun _ => hactive, rank := fun x hx => ?_, timer := fun p hp ht => ?_, gone := fun x _ hn => ?_,
        slot := fun x m hx hm => ?_, held := by simp [hheld, hthis, h.not_held hst],
        queued := by rw [hqueued, hthis]; exact iff_of_false (h.not_queued hst) nofun,
        current := by rw [hfin, hthis]; exact iff_of_false (h.not_current hst) nofun, opened := fun _ _ => hthis,
        heldRank := fun hr => ?_ }
    · cases hthis.symm.trans hx
      rw [hrank, if_pos rfl]
      rfl
    · rw [hpacket, if_pos rfl] at hp
      cases hp
      rfl
    · rw [hplace] at hn
      cases hn
    · cases hthis.symm.trans hx
      cases hplace.symm.trans hm
      exact ⟨.collecting, false, by rw [hslot, if_pos rfl], rfl⟩
    · rw [hrank, if_pos rfl] at hr
      cases hr

theorem createPacket_eq_orderStep (k : Key) (n : Fin 24) (a : Assignment) (tag : BitVec 16) (s : State) :
    createPacket k n a tag s = orderStep k.cls (created k n a tag s) := rfl

theorem createPacket_agrees (h : Agrees o (some n) s) (hfree : s.slot n = .free) (hw : s.rankAt k = some .waiting)
    (hstage : (s.classRec k.cls).state = .loaded ∨ (s.classRec k.cls).state = .active) (hnew : ∀ u ∈ s.unplaced, u.key ≠ k)
    (a : Assignment) (tag : BitVec 16) : Agrees o none (createPacket k n a tag s) := by
  rw [createPacket_eq_orderStep]
  refine orderStep_agrees_of_packet (created_agrees h hfree hw hstage hnew a tag)
    (stateOf_of_packet (p := newPacket k (s.classRec k.cls).generation n a tag) ?_)
  rw [packet_created (packet_eq_none_iff.mpr (h.stateOf_eq_none hw)), if_pos rfl]

/-- The unplaced list gives up keys (R40, R46, R74). -/
theorem setUnplaced_agrees (h : Agrees o f s) {v : List Waiting} (hv : v.Sublist s.unplaced) : Agrees o f (s.setUnplaced v) :=
  h.reclassed (t := s.setUnplaced v) (fun k hk => ⟨rfl, (h.fits k).active hk⟩) (fun _ ho hk => h.not_opened ho hk)
    (fun _ hk => h.not_heldRank hk) (fun u hu => h.waiting u (hv.subset hu)) h.doneClasses h.exempt hv

theorem allocate_nil (hu : s.unplaced = []) (n : Fin 24) : allocate n s = s := by simp [allocate, hu]

/-- A key that waits, with what the allocator needs of it (R59). -/
theorem allocate_cons {w : Waiting} {rest : List Waiting} {a : Assignment} (hu : s.unplaced = w :: rest)
    (ha : s.assignmentOf w.key.cls = some a) (n : Fin 24) :
    allocate n s
      = giveLane w.key n .b (giveLane w.key n .a (createPacket w.key n a w.jobTag (s.setUnplaced rest))) := by
  simp [allocate, hu, ha]

theorem Agrees.exists_assignment (h : Agrees o f s) {w : Waiting} (hw : w ∈ s.unplaced) :
    ∃ a, s.assignmentOf w.key.cls = some a :=
  Option.isSome_iff_exists.mp (h.waiting w hw).2.2

theorem giveLane_agrees (h : Agrees o f s) (k : Key) (n : Fin 24) (l : Lane) : Agrees o f (giveLane k n l s) := h.congr

/-- The allocator's run for a FREE slot (R59). -/
theorem allocate_agrees (h : Agrees o (some n) s) (hfree : s.slot n = .free) : Agrees o none (allocate n s) := by
  cases hu : s.unplaced with
  | nil =>
    rw [allocate_nil hu]
    exact h.weaken (.inl hu)
  | cons w rest =>
    have hw : w ∈ s.unplaced := by simp [hu]
    obtain ⟨hactive, hrank, -⟩ := h.waiting w hw
    obtain ⟨a, ha⟩ := h.exists_assignment hw
    rw [allocate_cons hu ha]
    have hrest : Agrees o (some n) (s.setUnplaced rest) := setUnplaced_agrees h (hu ▸ List.sublist_cons_self w rest)
    have hnew : ∀ u ∈ rest, u.key ≠ w.key := by
      have := h.waitingOnce
      rw [hu, List.map_cons, List.nodup_cons] at this
      exact fun u hu e => this.1 (e ▸ List.mem_map_of_mem hu)
    exact giveLane_agrees (giveLane_agrees (createPacket_agrees hrest hfree hrank (.inr hactive) hnew a w.jobTag) ..) ..

/-- The allocator leaves a packet where it stands (R59). -/
theorem slotOf_allocate (h : Agrees o f s) (hk : stateOf s k ≠ none) (n : Fin 24) : (allocate n s).slotOf k = s.slotOf k := by
  cases hu : s.unplaced with
  | nil => rw [allocate_nil hu]
  | cons w rest =>
    have hw : w ∈ s.unplaced := by simp [hu]
    obtain ⟨-, hrank, -⟩ := h.waiting w hw
    obtain ⟨a, ha⟩ := h.exists_assignment hw
    have hnone := h.stateOf_eq_none hrank
    have hne : k ≠ w.key := by
      rintro rfl
      exact hk hnone
    have hcreated : (created w.key n a w.jobTag (s.setUnplaced rest)).packet k = s.packet k := by
      rw [packet_created (s := s.setUnplaced rest) (packet_eq_none_iff.mpr hnone), if_neg hne]
      rfl
    rw [allocate_cons hu ha, slotOf_congr (s := createPacket w.key n a w.jobTag (s.setUnplaced rest)) (by simp),
      createPacket_eq_orderStep, slotOf_congr (s := cursorAdvance w.key.cls (created w.key n a w.jobTag (s.setUnplaced rest)))
        (by simp [orderStep]), (cursorAdvance_releases _ _).slotOf, slotOf_congr_packet hcreated]

end
end Sys2Proof.Tower

namespace Sys2Proof.Tower

open Sys2Proof.Machine Sys2Proof.Safety Sys2Proof.ClassTable Sys2Proof.Requests Sys2Proof.Events Sys2Proof.Lanes

/-! # A packet leaves its slot or the map (R58, R70, R73, R74, R119, R122) -/

section
variable {s t u : State} {o o' : Option Key} {f f' z : Option (Fin 24)} {c : Nat} {j k : Key} {n : Fin 24} {p q : Packet}
  {x y : PacketState} {g : SlotHold} {r : RankState}

/-- A packet has left the map and its slot. -/
theorem Agrees.gone (h : Agrees none none s) (hk : s.packet k = some p) (ht : Touches k (s.slotOf k) s t) (hp : t.packet k = none)
    (hslot : ∀ n, s.slotOf k = some n → t.slot n = .free ∨ t.slot n = .fenced)
    (hidle : s.unplaced = [] ∨ ∀ n, s.slotOf k = some n → f = some n)
    (hheld : k ∉ t.held) (hqueued : k ∉ t.queued.map Queued.key) (hcurrent : t.fin.current.map Current.key ≠ some k)
    (hstage : (t.classRec k.cls).state = .active) (ho : ∀ j, o = some j → j = k) (hrank : t.rankAt k ≠ some .held)
    (hopened : t.rankAt k = some .opened ↔ o = some k)
    (htransferred : ∀ c, t.fin.current = some c → t.fin.unit.running ≠ none → t.fin.unit.running ≠ some .transfer →
      t.slotOf c.key = none) : Agrees o f t := by
  have hst : stateOf t k = none := packet_eq_none_iff.mp hp
  have htk : t.slotOf k = none := slotOf_eq_none_of_stateOf hst
  refine h.touched ht (fun n hn g m j hs => ?_) (fun n hn g m j hs => ?_) (fun _ => id) hstage (h.not_waiting hk)
    (fun he n hf hfree => ⟨nofun, fun e => ?_⟩) htransferred
    (fun j hj => ⟨fun e => absurd (ho j e) hj, nofun⟩) (fun e => ⟨hst, hopened.mpr e⟩) ?_
  · exact h.slotOf_inj (h.occupied n g m j hs) hn
  · rcases hslot n hn with e | e <;> rw [e] at hs <;> cases hs
  · exact hidle.elim (absurd · he) fun hidle => hf (hidle n e)
  · exact
      { active := fun hx => absurd hst hx
        rank := fun x hx => nomatch hst.symm.trans hx
        timer := fun p hp' => nomatch hp.symm.trans hp'
        gone := fun x hx => nomatch hst.symm.trans hx
        slot := fun x n hx => nomatch hst.symm.trans hx
        held := iff_of_false hheld (by simp [hst])
        queued := iff_of_false hqueued (by simp [hst])
        current := iff_of_false hcurrent (by simp [hst])
        opened := fun hne hr => absurd (hopened.mp hr) hne
        heldRank := fun hr => absurd hr hrank }

/-- The current packet's slot, where the Finishing Unit and the current packet stay (R73). -/
theorem Agrees.transferred_of_fin (h : Agrees o f s) (hfin : t.fin = s.fin)
    (hp : ∀ j, stateOf s j = some .finishing → t.slotOf j = s.slotOf j) :
    ∀ c, t.fin.current = some c → t.fin.unit.running ≠ none → t.fin.unit.running ≠ some .transfer → t.slotOf c.key = none := by
  intro c hc hrun htr
  rw [hfin] at hc hrun htr
  rw [hp _ (h.current_packet hc)]
  exact h.transferred c hc hrun htr

/-- A slot that is not FREE needs no allocator (R58). -/
theorem Agrees.settled (h : Agrees o (some n) s) (hn : s.slot n ≠ .free) : Agrees o none s :=
  { h with
    noIdleSlot := fun he m _ => by
      by_cases hm : m = n
      · rw [hm]
        exact hn
      · exact h.noIdleSlot he m fun e => hm (Option.some.inj e).symm }

/-- A slot frees: FENCED where a fence is pending, FREE with the allocator run otherwise (R58). -/
theorem freeSlot_agrees {i : Bool} (hs : s.slot n = .occupied g i k)
    (h : ∀ x : Slot, x = .free ∨ x = .fenced → Agrees o (some n) (setSlot n x s)) : Agrees o none (freeSlot n s) := by
  rw [freeSlot, hs]
  cases i
  · exact allocate_agrees (h .free (.inl rfl)) (by simp)
  · exact (h .fenced (.inr rfl)).settled (by simp)

theorem slotOf_removePacket_of_ne (h : j ≠ k) (s : State) : (removePacket k s).slotOf j = s.slotOf j :=
  slotOf_congr_packet (by rw [packet_removePacket, if_neg h])

/-- A packet without a sheet is dropped: its rank waits again (R70). -/
theorem dropPacket_agrees (h : Agrees none none s) (hk : s.packet k = some p) (hx : p.state = .collecting) (hn : p.slot = some n) :
    Agrees none none (dropPacket k n s) := by
  obtain ⟨g, i, hs, -⟩ := h.slot_of_packet hk hn
  have hopened : s.rankAt k = some .opened := by
    have := (h.fits k).rank _ (stateOf_of_packet hk)
    rwa [hx] at this
  have hsk : s.slotOf k = some n := (slotOf_of_packet hk).trans hn
  have hfree : Agrees (some k) none (freeSlot n (removePacket k s)) := by
    refine freeSlot_agrees (k := k) (g := g) (i := i) ((slot_congr (by simp) n).trans hs) fun x hx' => ?_
    have hrank : (setSlot n x (removePacket k s)).rankAt k = s.rankAt k := rankAt_congr (by simp) k
    have hpacket : ∀ j, (setSlot n x (removePacket k s)).packet j = (removePacket k s).packet j := packet_congr (by simp)
    refine h.gone (t := setSlot n x (removePacket k s)) hk ?_ ?_ ?_ (.inr fun m hm => ?_) ?_ ?_ ?_ ?_ (by simp) ?_ ?_ ?_
    · rw [hsk]
      exact (removePacket_touches s).trans (setSlot_touches x _)
    · rw [hpacket, packet_removePacket, if_pos rfl]
    · intro m hm
      cases hsk.symm.trans hm
      rw [slot_setSlot, if_pos rfl]
      exact hx'
    · cases hsk.symm.trans hm
      rfl
    · simp [h.mem_held_iff hk, hx]
    · simpa [hx] using (h.mem_queued_iff hk).not
    · simpa [hx] using (h.current_iff hk).not
    · rw [classRec_congr (s := s) (by simp)]
      exact h.active_of_packet hk
    · rw [hrank, hopened]
      decide
    · simp [hrank, hopened]
    · refine h.transferred_of_fin (by simp) fun j hj => ?_
      have hjk : j ≠ k := by
        rintro rfl
        rw [stateOf_of_packet hk, hx] at hj
        cases hj
      rw [slotOf_congr (s := removePacket k s) (by simp), slotOf_removePacket_of_ne hjk]
  have hdone : ((setRank k .waiting (freeSlot n (removePacket k s))).classRec k.cls).state ≠ .done := by
    rw [state_setRank, (hfree.exempt k rfl).1]
    decide
  exact orderStep_agrees (setRank_agrees hfree (by decide) (by decide)) hdone (.inl rfl)

/-- With no key waiting a slot that frees becomes FREE or FENCED, and nothing follows (R58). -/
theorem freeSlot_of_no_key_waiting {i : Bool} (hs : s.slot n = .occupied g i k) (hu : s.unplaced = []) :
    ∃ x : Slot, (x = .free ∨ x = .fenced) ∧ freeSlot n s = setSlot n x s := by
  rw [freeSlot, hs]
  cases i
  · exact ⟨.free, .inl rfl, allocate_nil (by simpa using hu) n⟩
  · exact ⟨.fenced, .inr rfl, rfl⟩

/-- A packet is dumped: out of list and queue, its sheets counted and its Disposition sent (R74, R92). -/
def dumpedOut (n : Fin 24) (p : Packet) (s : State) : State :=
  sendDisposition { p with flags := { p.flags with purged := true }, timer := .stopped } 17 0 0
    (addTray p.sheetsHeld (leaveFinishing p.key (leaveHeld p.key (act (.dumpGate n) s))))

theorem dumpPacket_eq (n : Fin 24) (p : Packet) (s : State) :
    dumpPacket n p s
      = orderStep p.key.cls (setRank p.key .missed (freeSlot n (removePacket p.key (dumpedOut n p s)))) := rfl

theorem dumpedOut_touches (n : Fin 24) (p : Packet) (s : State) : Touches p.key z s (dumpedOut n p s) :=
  (act_touches _ s).trans ((leaveHeld_touches _).trans ((leaveFinishing_touches _).trans ((addTray_touches _ _).trans
    (sendDisposition_touches ..))))

/-- A dumped packet out of the map, its slot freed and its rank MISSED (R74, R92). -/
theorem dumped_agrees (h : Agrees none none s) (hu : s.unplaced = []) (hk : s.packet p.key = some p) (hx : p.state ≠ .finishing)
    (hn : p.slot = some n) {v : Slot} (hv : v = .free ∨ v = .fenced) :
    Agrees none none (setRank p.key .missed (setSlot n v (removePacket p.key (dumpedOut n p s)))) := by
  have hsk : s.slotOf p.key = some n := (slotOf_of_packet hk).trans hn
  have hpacket : ∀ j, (setRank p.key .missed (setSlot n v (removePacket p.key (dumpedOut n p s)))).packet j
      = (removePacket p.key s).packet j := packet_congr (by simp [dumpedOut, removePacket])
  have hrank : (setRank p.key .missed (setSlot n v (removePacket p.key (dumpedOut n p s)))).rankAt p.key = some .missed := by
    rw [rankAt_setRank, rankAt_congr (s := s) (by simp [dumpedOut]), h.rank_isSome hk, if_pos ⟨rfl, rfl⟩]
  refine h.gone hk ?_ ?_ ?_ (.inl hu) ?_ ?_ ?_ ?_ nofun ?_ ?_ ?_
  · rw [hsk]
    exact (dumpedOut_touches n p s).trans ((removePacket_touches _).trans ((setSlot_touches v _).trans (setRank_touches .missed _)))
  · rw [hpacket, packet_removePacket, if_pos rfl]
  · intro m hm
    cases hsk.symm.trans hm
    rw [slot_congr (s := setSlot n v (removePacket p.key (dumpedOut n p s))) (by simp), slot_setSlot, if_pos rfl]
    exact hv
  · simp [dumpedOut, leaveHeld]
  · simp [dumpedOut, leaveFinishing]
  · simpa [dumpedOut, hx] using (h.current_iff hk).not
  · rw [state_setRank, classRec_congr (s := s) (by simp [dumpedOut])]
    exact h.active_of_packet hk
  · rw [hrank]
    decide
  · simp [hrank]
  · refine h.transferred_of_fin (by simp [dumpedOut]) fun j hj => ?_
    have hjk : j ≠ p.key := by
      rintro rfl
      rw [stateOf_of_packet hk, Option.some_inj] at hj
      exact hx hj
    rw [slotOf_congr_packet (hpacket j), slotOf_removePacket_of_ne hjk]

/-- A packet of the Purge is dumped from its slot (R74, R92). -/
theorem dumpPacket_agrees (h : Agrees none none s) (hu : s.unplaced = []) (hk : s.packet p.key = some p) (hx : p.state ≠ .finishing)
    (hn : p.slot = some n) : Agrees none none (dumpPacket n p s) ∧ (dumpPacket n p s).unplaced = [] := by
  obtain ⟨g, i, hs, -⟩ := h.slot_of_packet hk hn
  obtain ⟨v, hv, e⟩ := freeSlot_of_no_key_waiting (s := removePacket p.key (dumpedOut n p s)) (i := i) (g := g) (k := p.key)
    ((slot_congr (by simp [dumpedOut]) n).trans hs) (by simpa [dumpedOut] using hu)
  have hdumped := dumped_agrees h hu hk hx hn hv
  have hactive : ((setRank p.key .missed (setSlot n v (removePacket p.key (dumpedOut n p s)))).classRec p.key.cls).state = .active := by
    rw [state_setRank, classRec_congr (s := s) (by simp [dumpedOut])]
    exact h.active_of_packet hk
  rw [dumpPacket_eq, e]
  exact ⟨orderStep_agrees hdumped (by rw [hactive]; decide) (.inl rfl), by simpa [dumpedOut] using hu⟩

/-- The slots of a Purge, dumped one after the other (R74). -/
theorem foldl_dumpSlot_agrees (ns : List (Fin 24)) (h : Agrees none none s) (hu : s.unplaced = []) :
    Agrees none none (ns.foldl dumpSlot s) := by
  induction ns generalizing s with
  | nil => exact h
  | cons n ns ih =>
    have hstep : Agrees none none (dumpSlot s n) ∧ (dumpSlot s n).unplaced = [] := by
      unfold dumpSlot
      split
      · rename_i p hp
        split
        · exact ⟨h, hu⟩
        · rename_i hx
          unfold State.packetIn at hp
          split at hp
          · rename_i g i k hs
            obtain rfl := (mem_of_packet hp).2
            exact dumpPacket_agrees h hu hp hx ((slotOf_of_packet hp).symm.trans (h.occupied n g i _ hs))
          · cases hp
          · cases hp
      · exact ⟨h, hu⟩
    exact ih hstep.1 hstep.2

theorem purgeTower_agrees (h : Agrees none none s) : Agrees none none (purgeTower s) :=
  foldl_dumpSlot_agrees _ (setUnplaced_agrees h (List.nil_sublist _)) rfl

/-! ## The current packet (R73, R113, R119, R122) -/

/-- The packet of a key leaves its slot. -/
def slotLeft (k : Key) (s : State) : State := updatePacket k (fun p => { p with slot := none }) s

theorem packet_slotLeft (k : Key) (s : State) (j : Key) :
    (slotLeft k s).packet j = if j = k then (s.packet k).map (fun p => { p with slot := none }) else s.packet j := by
  rw [slotLeft, packet_updatePacket]
  simp

/-- The current packet's slot frees: the packet stays in the map without one (R73). -/
theorem slotLeft_agrees (h : Agrees none none s) (hk : s.packet k = some p) (hx : p.state = .finishing) (hn : p.slot = some n)
    {v : Slot} (hv : v = .free ∨ v = .fenced) : Agrees none (some n) (setSlot n v (slotLeft k s)) := by
  have hsk : s.slotOf k = some n := (slotOf_of_packet hk).trans hn
  have hpacket : ∀ j, (setSlot n v (slotLeft k s)).packet j = (slotLeft k s).packet j := packet_congr (by simp)
  have hthis : (setSlot n v (slotLeft k s)).packet k = some { p with slot := none } := by
    rw [hpacket, packet_slotLeft, if_pos rfl, hk]
    rfl
  have hst : stateOf (setSlot n v (slotLeft k s)) k = some .finishing := by rw [stateOf_of_packet hthis, hx]
  have hlost : (setSlot n v (slotLeft k s)).slotOf k = none := slotOf_of_packet hthis
  have hold := h.fits k
  have hstold : stateOf s k = some .finishing := by rw [stateOf_of_packet hk, hx]
  have hrank : (setSlot n v (slotLeft k s)).rankAt k = s.rankAt k := rankAt_congr (by simp [slotLeft]) k
  have hstage : ((setSlot n v (slotLeft k s)).classRec k.cls).state = .active := by
    rw [classRec_congr (s := s) (by simp [slotLeft])]
    exact h.active_of_packet hk
  refine h.touched (z := some n) ((updatePacket_touches (by simp) s).trans (setSlot_touches v _)) ?_ ?_
    (fun m hm => hm ▸ hsk.symm) hstage (h.not_waiting hk) ?_ ?_ (fun _ _ => Iff.rfl) nofun ?_
  · intro m hm g i j hs
    cases hm
    exact h.slotOf_inj (h.occupied n g i j hs) hsk
  · intro m hm g i j hs
    cases hm
    rw [slot_setSlot, if_pos rfl] at hs
    rcases hv with rfl | rfl <;> cases hs
  · exact fun _ m hm _ => ⟨nofun, fun e => hm e⟩
  · intro c hc hrun htr
    rw [show (setSlot n v (slotLeft k s)).fin = s.fin by simp [slotLeft]] at hc hrun htr
    by_cases hck : c.key = k
    · rw [hck]
      exact hlost
    · have hsame : (setSlot n v (slotLeft k s)).packet c.key = s.packet c.key := by rw [hpacket, packet_slotLeft, if_neg hck]
      exact (slotOf_congr_packet hsame).trans (h.transferred c hc hrun htr)
  · refine
      { active := fun _ => hstage, rank := fun x hx => ?_, timer := fun q hq ht => ?_, gone := fun x hx _ => ?_,
        slot := fun x m _ hm => (nomatch hlost.symm.trans hm), held := ?_, queued := ?_, current := ?_, opened := fun _ hr => ?_,
        heldRank := fun hr => ?_ }
    · rw [hst] at hx
      rw [hrank]
      exact hold.rank x (hstold.trans hx)
    · cases hthis.symm.trans hq
      exact hold.timer p hk ht
    · rw [hst] at hx
      exact (Option.some.inj hx).symm
    · refine Iff.trans ?_ (hold.held.trans (by rw [hst, hstold]))
      simp [slotLeft]
    · refine Iff.trans ?_ (hold.queued.trans (by rw [hst, hstold]))
      simp [slotLeft]
    · refine Iff.trans ?_ (hold.current.trans (by rw [hst, hstold]))
      simp [slotLeft]
    · rw [hrank] at hr
      exact hst.trans (hstold.symm.trans (hold.opened nofun hr))
    · rw [hrank] at hr
      exact hst.trans (hstold.symm.trans (hold.heldRank hr))

theorem leaveSlot_eq (hn : s.slotOf k = some n) : leaveSlot k s = freeSlot n (slotLeft k s) := by
  rw [leaveSlot, hn]
  rfl

/-- The current packet leaves its slot, where it has one, and the slot frees (R73). -/
theorem leaveSlot_agrees (h : Agrees none none s) (hk : stateOf s k = some .finishing) :
    Agrees none none (leaveSlot k s) ∧ (leaveSlot k s).slotOf k = none := by
  obtain ⟨p, hp, hx⟩ := stateOf_eq_some.mp hk
  cases hn : s.slotOf k with
  | none =>
    have e : leaveSlot k s = s := by rw [leaveSlot, hn]
    rw [e]
    exact ⟨h, hn⟩
  | some n =>
    have hpn : p.slot = some n := (slotOf_of_packet hp).symm.trans hn
    obtain ⟨g, i, hs, -⟩ := h.slot_of_packet hp hpn
    have hs' : (slotLeft k s).slot n = .occupied g i k := (slot_congr (by simp [slotLeft]) n).trans hs
    have hleft : ∀ v : Slot, v = .free ∨ v = .fenced → Agrees none (some n) (setSlot n v (slotLeft k s)) := fun v hv =>
      slotLeft_agrees h hp hx hpn hv
    have hpacket : ∀ v, (setSlot n v (slotLeft k s)).packet k = some { p with slot := none } := fun v => by
      rw [packet_congr (s := slotLeft k s) (by simp), packet_slotLeft, if_pos rfl, hp]
      rfl
    rw [leaveSlot_eq hn]
    refine ⟨freeSlot_agrees hs' hleft, ?_⟩
    rw [freeSlot, hs']
    dsimp only
    split
    · exact slotOf_of_packet (hpacket _)
    · rw [slotOf_allocate (hleft .free (.inl rfl)) (by simp [stateOf, hpacket])]
      exact slotOf_of_packet (hpacket _)

/-- The current packet leaves the map with its delivery or its removal: its rank is what it was, or what it ended as (R119, R122). -/
theorem departed_agrees (h : Agrees none none s) (hk : stateOf s k = some .finishing) (hn : s.slotOf k = none)
    (hr : r ≠ .opened) (hr' : r ≠ .held) : Agrees none none (setCurrent none (removePacket k (endRank k r s))) := by
  obtain ⟨p, hp, hx⟩ := stateOf_eq_some.mp hk
  have hold : (s.rankAt k).isSome = true ∧ s.rankAt k ≠ some .opened ∧ s.rankAt k ≠ some .held := by
    have := (h.fits k).rank _ hk
    rcases this with e | e | e <;> rw [e] <;> decide
  have hrank : (setCurrent none (removePacket k (endRank k r s))).rankAt k ≠ some .opened
      ∧ (setCurrent none (removePacket k (endRank k r s))).rankAt k ≠ some .held := by
    rw [rankAt_congr (s := endRank k r s) (by simp), endRank]
    split
    · rw [rankAt_setRank, if_pos ⟨rfl, hold.1⟩]
      simpa using ⟨hr, hr'⟩
    · exact hold.2
  refine h.gone hp (t := setCurrent none (removePacket k (endRank k r s))) ?_ ?_ ?_ (.inr ?_) ?_ ?_ ?_ ?_ nofun hrank.2
    ⟨fun e => absurd e hrank.1, nofun⟩ ?_
  · refine (endRank_touches r s).trans ((removePacket_touches _).trans (setFin_touches (fun c hc => .inl ?_) (by simp)))
    have := (h.fits k).current.mpr hk
    rw [show (removePacket k (endRank k r s)).fin = s.fin by simp] at hc
    rw [hc] at this
    exact Option.some.inj this
  · rw [packet_congr (s := removePacket k (endRank k r s)) (by simp), packet_removePacket, if_pos rfl]
  · simp [hn]
  · simp [hn]
  · simp [h.mem_held_iff hp, hx]
  · simpa [hx] using (h.mem_queued_iff hp).not
  · simp [setCurrent]
  · rw [classRec_congr (s := endRank k r s) (by simp), endRank]
    split
    · rw [state_setRank]
      exact h.active_of_packet hp
    · exact h.active_of_packet hp
  · simp [setCurrent]

/-- A change of the Finishing Unit's own state that leaves the current packet. -/
theorem setFin_agrees (h : Agrees o f s) {v : Finisher} (hv : v.current.map Current.key = s.fin.current.map Current.key)
    (htransferred : ∀ c, v.current = some c → v.unit.running ≠ none → v.unit.running ≠ some .transfer → s.slotOf c.key = none) :
    Agrees o f (s.setFin v) :=
  { h with
    fits := fun k => (h.fits k).congr (t := s.setFin v) rfl rfl (fun _ => id) (fun _ _ => rfl) Iff.rfl Iff.rfl
      (by rw [State.setFin_fin, hv]) id
    transferred := htransferred }

end
end Sys2Proof.Tower

namespace Sys2Proof.Tower

open Sys2Proof.Machine Sys2Proof.Safety Sys2Proof.ClassTable Sys2Proof.Requests Sys2Proof.Events Sys2Proof.Lanes

/-! # The stages, the take and the selection pass (R109, R113, R114) -/

section
variable {s t u : State} {o o' : Option Key} {f f' z : Option (Fin 24)} {c : Current} {j k : Key} {n : Fin 24} {p q : Packet}
  {x y : PacketState} {g : Stage} {r : RankState}

/-! ## The Finishing Unit's own state -/

/-- Nothing has changed that the law of the tower reads outside the Finishing Unit, and no lane has entered or left FAULT. -/
structure OnlyFin (s t : State) : Prop where
  packets : t.packets = s.packets := by simp
  classes : t.classes = s.classes := by simp
  slots : t.slots = s.slots := by simp
  unplaced : t.unplaced = s.unplaced := by simp
  held : t.held = s.held := by simp
  queued : t.queued = s.queued := by simp
  assignments : t.tables.assignments = s.tables.assignments := by simp
  faults : ∀ l, (t.lane l).inFault = (s.lane l).inFault := by simp

theorem OnlyFin.trans (h : OnlyFin s t) (h' : OnlyFin t u) : OnlyFin s u :=
  ⟨h'.packets.trans h.packets, h'.classes.trans h.classes, h'.slots.trans h.slots, h'.unplaced.trans h.unplaced,
    h'.held.trans h.held, h'.queued.trans h.queued, h'.assignments.trans h.assignments,
    fun l => (h'.faults l).trans (h.faults l)⟩

/-- A change of the Finishing Unit keeps the law while its current packet stays, and stands in its slot only for a transfer. -/
theorem OnlyFin.agrees (e : OnlyFin s t) (h : Agrees o f s)
    (hcurrent : t.fin.current.map Current.key = s.fin.current.map Current.key)
    (htransferred : ∀ c, t.fin.current = some c → t.fin.unit.running ≠ none → t.fin.unit.running ≠ some .transfer →
      s.slotOf c.key = none) : Agrees o f t :=
  setFin_agrees (v := t.fin) (h.congr (t := t.setFin s.fin) e.packets e.classes e.slots e.unplaced e.held e.queued rfl e.assignments)
    hcurrent fun c hc hrun htr => (slotOf_congr e.packets c.key).trans (htransferred c hc hrun htr)

theorem OnlyFin.touches (e : OnlyFin s t)
    (hs : ∀ c, s.fin.current = some c → c.key = k ∨ t.fin.current.map Current.key = some c.key)
    (ht : ∀ c, t.fin.current = some c → c.key = k ∨ s.fin.current.map Current.key = some c.key) : Touches k z s t :=
  (setFin_touches hs ht).trans (.of_parts (s := s.setFin t.fin) (rise := by simp [KeysRise, e.packets])
    (packets := fun j _ => packet_congr e.packets j) (ranks := fun j _ => rankAt_congr e.classes j)
    (records := fun c _ => classRec_congr e.classes c) (assignments := assignmentOf_congr e.classes e.assignments)
    (slots := fun n _ => slot_congr e.slots n) (held := by simp [e.held]) (queued := by simp [e.queued])
    (heldOnce := by simp [e.held]) (queuedOnce := by simp [e.queued]) (unplaced := e.unplaced))

theorem running_toStage (u : UnitState) (g : Stage) : (u.toStage g).running = some g := by cases u <;> rfl

/-- A stage is entered: it runs with its timer, and the current packet stays (R114). -/
structure Enters (g : Stage) (s t : State) : Prop extends OnlyFin s t where
  current : t.fin.current = s.fin.current
  running : t.fin.unit.running = some g
  timer : t.fin.timer.isSome = true

theorem startStage_enters (g : Stage) (s : State) : Enters g s (startStage g s) where
  current := rfl
  running := running_toStage _ g
  timer := rfl

theorem Enters.of_acted (hx : OnlyFin s t) (hf : t.fin = s.fin) (h : Enters g t u) : Enters g s u :=
  ⟨hx.trans h.toOnlyFin, h.current.trans (by rw [hf]), h.running, h.timer⟩

theorem enterTransfer_enters (k : Key) (s : State) : Enters .transfer s (enterTransfer k s) := by
  unfold enterTransfer
  split
  · exact .of_acted {} (by simp) (startStage_enters .transfer _)
  · exact startStage_enters .transfer s

theorem enterJog_enters (s : State) : Enters .jog s (enterJog s) := .of_acted {} (by simp) (startStage_enters .jog (act .jog s))

theorem fireStaple_enters (c : Current) (s : State) : Enters .staple s (fireStaple c s) := by
  unfold fireStaple
  split
  · exact .of_acted {} (by simp) (startStage_enters .staple _)
  · exact startStage_enters .staple s

theorem enterEject_enters (c : Current) (s : State) : Enters .eject s (enterEject c s) :=
  .of_acted {} (by simp) (startStage_enters .eject (act _ s))

theorem Enters.agrees (e : Enters g s t) (h : Agrees o f s)
    (hg : g ≠ .transfer → ∀ c, s.fin.current = some c → s.slotOf c.key = none) : Agrees o f t :=
  e.toOnlyFin.agrees h (by rw [e.current]) fun c hc _ htr => by
    rw [e.running] at htr
    exact hg (fun e => htr (by rw [e])) c (e.current ▸ hc)

/-! ## The take (R113) -/

/-- A queued packet becomes the current one, and its transfer starts (R113). -/
def takenUp (k : Key) (c : Current) (s : State) : State :=
  enterTransfer k (setCurrent (some c) (updatePacket k (fun p => { p with state := .finishing }) (leaveFinishing k s)))

theorem takenUp_fin (k : Key) (c : Current) (s : State) :
    (takenUp k c s).fin.current = some c ∧ (takenUp k c s).fin.unit.running = some .transfer
      ∧ (takenUp k c s).fin.timer.isSome = true :=
  have e := enterTransfer_enters k
    (setCurrent (some c) (updatePacket k (fun p => { p with state := .finishing }) (leaveFinishing k s)))
  ⟨e.current, e.running, e.timer⟩

theorem takenUp_agrees (h : Agrees o f s) (hk : s.packet k = some p) (hx : p.state = .queued) (hc : c.key = k)
    (hcurrent : s.fin.current = none) : Agrees o f (takenUp k c s) := by
  obtain ⟨n, hn⟩ := h.exists_slot hk (by simp [hx])
  obtain ⟨g, i, hs, hg⟩ := h.slot_of_packet hk hn
  rw [hx] at hg
  cases hg
  obtain ⟨ecur, erun, -⟩ := takenUp_fin k c s
  have hpacket : (takenUp k c s).packet k = some { p with state := .finishing } := by
    rw [packet_congr (s := updatePacket k (fun p => { p with state := .finishing }) (leaveFinishing k s)) (by simp [takenUp]),
      packet_updatePacket _ _ _ _ (by simp), if_pos rfl, packet_congr (s := s) (by simp), hk]
    rfl
  have hstop : p.timer = .stopped := h.timer_stopped hk (by simp [hx])
  refine h.shifted (t := takenUp k c s) (g := .queued) hk (by simp [hx]) ?_ hpacket rfl hstop nofun
    (fun m hm => ?_) rfl ?_ ?_ ?_ ?_ (by simp [ecur, hc]) (fun c' _ _ htr => absurd erun htr)
  · have e : OnlyFin (updatePacket k (fun p => { p with state := .finishing }) (leaveFinishing k s)) (takenUp k c s) :=
      (OnlyFin.trans (t := setCurrent (some c) _) {} (enterTransfer_enters k _).toOnlyFin)
    refine (leaveFinishing_touches s).trans ((updatePacket_touches (by simp) _).trans (e.touches ?_ ?_))
    · simp [hcurrent]
    · intro c' hc'
      rw [ecur] at hc'
      cases hc'
      exact .inl hc
  · rw [slotOf_of_packet hk, hn] at hm
    cases hm
    rw [slot_congr (s := s) (by simp [takenUp]), hs]
    rfl
  · have := (h.fits k).rank _ (stateOf_of_packet hk)
    rw [hx] at this
    rw [rankAt_congr (s := s) (by simp [takenUp])]
    exact this
  · rw [classRec_congr (s := s) (by simp [takenUp])]
    exact h.active_of_packet hk
  · simp [takenUp, h.mem_held_iff hk, hx]
  · simp [takenUp, leaveFinishing]

/-- What the arbiter takes (R113): where the queues are empty after it, relief is tried. -/
theorem takePacket_eq (k : Key) (t : Target) (b : Budget) (s : State) : ∃ (h : PacketFlags → PacketFlags) (c : Current),
    c.key = k ∧ (takePacket k t b s = takenUp k c (reserve t b.units (updateFlags k h s))
      ∨ takePacket k t b s = tryRelief (takenUp k c (reserve t b.units (updateFlags k h s)))) := by
  refine ⟨fun f => { f with overcap := f.overcap || b.overcap, overflowed := f.overflowed || decide (t = .bin 16) },
    { key := k, target := t, units := b.units, staplesNeeded := b.staplesNeeded, staplesPlaced := 0, loft := b.loft }, rfl, ?_⟩
  unfold takePacket
  dsimp only
  split
  · exact .inr rfl
  · exact .inl rfl

theorem takePacket_agrees (h : Agrees o f s) (hk : k ∈ s.queued.map Queued.key) (hcurrent : s.fin.current = none) (t : Target)
    (b : Budget) : Agrees o f (takePacket k t b s) := by
  obtain ⟨p, hp, hx⟩ := stateOf_eq_some.mp ((h.fits k).queued.mp hk)
  obtain ⟨flags, c, hc, e⟩ := takePacket_eq k t b s
  have h' : Agrees o f (reserve t b.units (updateFlags k flags s)) := (updateFlags_agrees (k := k) h flags).congr
  have htaken := takenUp_agrees h' (k := k) (c := c) (p := { p with flags := flags p.flags }) ?_ hx hc (by simpa using hcurrent)
  · rcases e with e | e <;> rw [e]
    · exact htaken
    · exact tryRelief_agrees htaken
  · rw [packet_congr (s := updateFlags k flags s) (by simp), updateFlags, packet_updatePacket _ _ _ _ (by simp), if_pos rfl, hp]
    rfl

theorem selectFrom_agrees (qs : List Queued) (h : Agrees o f s) (hqs : qs ⊆ s.queued) (hcurrent : s.fin.current = none) :
    Agrees o f (selectFrom qs s) := by
  induction qs generalizing s with
  | nil => exact h
  | cons q qs ih =>
    have hrest : qs ⊆ s.queued := fun x hx => hqs (List.mem_cons_of_mem q hx)
    unfold selectFrom
    split
    · exact ih h hrest hcurrent
    · exact ih (raise_agrees h _) (by simpa using hrest) (by simpa using hcurrent)
    · exact takePacket_agrees h (List.mem_map_of_mem (hqs (List.mem_cons_self ..))) hcurrent _ _

theorem selectionPass_agrees (h : Agrees o f s) (hfits : CurrentFits s.fin) : Agrees o f (selectionPass s) := by
  unfold selectionPass
  split
  · rename_i hidle
    refine selectFrom_agrees _ h (fun q hq => ?_) (hfits.1 (.inl hidle))
    rcases List.mem_append.mp hq with hq | hq <;> exact (List.mem_filter.mp hq).1
  · exact h

end
end Sys2Proof.Tower

namespace Sys2Proof.Tower

open Sys2Proof.Machine Sys2Proof.Safety Sys2Proof.ClassTable Sys2Proof.Requests Sys2Proof.Events Sys2Proof.Lanes

/-! # Collection timers inside an event (R63, R66, R67) -/

section
variable {s t u : State} {k : Key} {n : Fin 24} {p : Packet} {l : Lane}

/-- No lane enters or leaves FAULT, and each collection timer is stopped or stands as one stood before. -/
structure TimersFrom (s t : State) : Prop where
  faults : ∀ l, (t.lane l).inFault = (s.lane l).inFault
  timers : ∀ p ∈ t.packets, p.timer = .stopped ∨ ∃ q ∈ s.packets, q.timer = p.timer

theorem TimersFrom.frozen (h : TimersFrom s t) (hs : TimersFrozenInFault s) : TimersFrozenInFault t := by
  intro p hp
  rw [anyFault_congr h.faults]
  rcases h.timers p hp with e | ⟨q, hq, e⟩
  · rw [e]
    exact ⟨fun _ => rfl, fun _ _ => nofun⟩
  · rw [← e]
    exact hs q hq

theorem TimersFrom.trans (h : TimersFrom s t) (h' : TimersFrom t u) : TimersFrom s u := by
  refine ⟨fun l => (h'.faults l).trans (h.faults l), fun p hp => ?_⟩
  rcases h'.timers p hp with e | ⟨q, hq, e⟩
  · exact .inl e
  · rw [← e]
    exact h.timers q hq

theorem TimersFrom.of_same (hp : t.packets = s.packets := by simp) (hf : ∀ l, (t.lane l).inFault = (s.lane l).inFault := by simp) :
    TimersFrom s t :=
  ⟨hf, fun p h => .inr ⟨p, hp ▸ h, rfl⟩⟩

theorem TimersFrom.refl (s : State) : TimersFrom s s := .of_same rfl fun _ => rfl

/-! ## Operations that touch no timer -/

theorem act_timers (x : Action) (s : State) : TimersFrom s (act x s) := .of_same
theorem setRank_timers (k : Key) (x : RankState) (s : State) : TimersFrom s (setRank k x s) := .of_same
theorem endRank_timers (k : Key) (x : RankState) (s : State) : TimersFrom s (endRank k x s) := .of_same
theorem activate_timers (c : Nat) (s : State) : TimersFrom s (activate c s) := .of_same
theorem setSlot_timers (n : Fin 24) (x : Slot) (s : State) : TimersFrom s (setSlot n x s) := .of_same
theorem setHeld_timers (v : List Key) (s : State) : TimersFrom s (s.setHeld v) := .of_same
theorem setUnplaced_timers (v : List Waiting) (s : State) : TimersFrom s (s.setUnplaced v) := .of_same
theorem leaveHeld_timers (k : Key) (s : State) : TimersFrom s (leaveHeld k s) := .of_same
theorem joinFinishing_timers (q : QueueName) (k : Key) (s : State) : TimersFrom s (joinFinishing q k s) := .of_same
theorem leaveFinishing_timers (k : Key) (s : State) : TimersFrom s (leaveFinishing k s) := .of_same
theorem raise_timers (c : Cause) (s : State) : TimersFrom s (raise c s) := .of_same
theorem bumpCursor_timers (c : Nat) (s : State) : TimersFrom s (bumpCursor c s) := .of_same
theorem doneCheck_timers (c : Nat) (s : State) : TimersFrom s (doneCheck c s) := .of_same
theorem setCurrent_timers (c : Option Current) (s : State) : TimersFrom s (setCurrent c s) := .of_same
theorem freeUnit_timers (m : Bool) (s : State) : TimersFrom s (freeUnit m s) := .of_same
theorem reserve_timers (t : Target) (n : Nat) (s : State) : TimersFrom s (reserve t n s) := .of_same
theorem unreserve_timers (t : Target) (n : Nat) (s : State) : TimersFrom s (unreserve t n s) := .of_same
theorem sendDisposition_timers (p : Packet) (d n u : Nat) (s : State) : TimersFrom s (sendDisposition p d n u s) := .of_same

theorem evalHold_timers (l : Lane) (s : State) : TimersFrom s (evalHold l s) := .of_same (by simp) fun m => (evalHold_alike l m s).inFault

theorem addTray_timers (n : Nat) (s : State) : TimersFrom s (addTray n s) :=
  .of_same (by simp) fun m => by
    unfold addTray
    dsimp only
    split
    · split
      · rfl
      · exact ((evalHold_alike .b m _).inFault).trans ((evalHold_alike .a m _).inFault)
    · rfl

/-! ## Packets and slots -/

theorem updatePacket_timers {k : Key} {g : Packet → Packet} (hg : ∀ p, (g p).timer = .stopped ∨ (g p).timer = p.timer) (s : State) :
    TimersFrom s (updatePacket k g s) := by
  refine ⟨by simp, fun p hp => ?_⟩
  obtain ⟨q, hq, rfl⟩ := List.mem_map.mp hp
  split
  · exact (hg q).imp_right fun e => ⟨q, hq, e.symm⟩
  · exact .inr ⟨q, hq, rfl⟩

theorem updateFlags_timers (k : Key) (g : PacketFlags → PacketFlags) (s : State) : TimersFrom s (updateFlags k g s) :=
  updatePacket_timers (g := fun p => { p with flags := g p.flags }) (fun _ => .inr rfl) s

theorem removePacket_timers (k : Key) (s : State) : TimersFrom s (removePacket k s) :=
  ⟨by simp, fun p hp => .inr ⟨p, (List.mem_filter.mp hp).1, rfl⟩⟩

theorem movePacket_timers (k : Key) (h : SlotHold) (s : State) : TimersFrom s (movePacket k h s) := by
  unfold movePacket
  dsimp only
  refine TimersFrom.trans ?_ (updatePacket_timers (g := fun p => { p with state := h.packetState }) (fun _ => .inr rfl) _)
  split
  · exact setSlot_timers ..
  · exact .refl s

theorem created_timers (k : Key) (n : Fin 24) (a : Assignment) (tag : BitVec 16) (s : State) :
    TimersFrom s (created k n a tag s) := by
  refine ⟨by simp [created], fun p hp => ?_⟩
  have e : (created k n a tag s).packets = insertByKey (newPacket k (s.classRec k.cls).generation n a tag) s.packets := by
    simp [created, addPacket]
  rcases (mem_insertByKey ..).mp (e ▸ hp) with rfl | hp
  · exact .inl rfl
  · exact .inr ⟨p, hp, rfl⟩

/-! ## The advance, handing on and relief -/

theorem release_timers (k : Key) (s : State) : TimersFrom s (release k s) :=
  (setRank_timers ..).trans ((leaveHeld_timers ..).trans ((movePacket_timers ..).trans (joinFinishing_timers ..)))

theorem advance_timers (c fuel : Nat) (s : State) : TimersFrom s (advance c fuel s) := by
  induction fuel generalizing s with
  | zero => exact .refl s
  | succ fuel ih =>
    rw [advance_succ]
    split
    · refine TimersFrom.trans ?_ (ih _)
      unfold passOver
      split
      · exact (release_timers ..).trans (bumpCursor_timers ..)
      · exact bumpCursor_timers ..
    · exact .refl s

theorem cursorAdvance_timers (c : Nat) (s : State) : TimersFrom s (cursorAdvance c s) := advance_timers c _ s

theorem orderStep_timers (c : Nat) (s : State) : TimersFrom s (orderStep c s) :=
  (cursorAdvance_timers c s).trans (doneCheck_timers c _)

theorem queueForTray_timers (k : Key) (s : State) : TimersFrom s (queueForTray k s) :=
  (movePacket_timers ..).trans ((joinFinishing_timers ..).trans ((setRank_timers ..).trans (orderStep_timers ..)))

theorem handCompleted_timers (k : Key) (s : State) : TimersFrom s (handCompleted k s) := by
  unfold handCompleted
  dsimp only
  split
  · exact (updateFlags_timers ..).trans ((setRank_timers ..).trans ((movePacket_timers ..).trans ((joinFinishing_timers ..).trans
      (orderStep_timers ..))))
  · exact (setRank_timers ..).trans ((movePacket_timers ..).trans ((setHeld_timers ..).trans (orderStep_timers ..)))

theorem becomeStale_timers (k : Key) (s : State) : TimersFrom s (becomeStale k s) :=
  (updatePacket_timers (g := fun p => { p with timer := .stopped, flags := { p.flags with stale := true } })
    (fun _ => .inl rfl) s).trans ((queueForTray_timers ..).trans (raise_timers ..))

theorem relieve_timers (k : Key) (s : State) : TimersFrom s (relieve k s) :=
  (updateFlags_timers ..).trans ((leaveHeld_timers ..).trans ((setRank_timers ..).trans ((movePacket_timers ..).trans
    ((joinFinishing_timers ..).trans ((raise_timers ..).trans (orderStep_timers ..))))))

theorem tryRelief_timers (s : State) : TimersFrom s (tryRelief s) := by
  unfold tryRelief
  split
  · split
    · exact relieve_timers ..
    · exact .refl s
  · exact .refl s

/-! ## The allocator and slots that free -/

theorem createPacket_timers (k : Key) (n : Fin 24) (a : Assignment) (tag : BitVec 16) (s : State) :
    TimersFrom s (createPacket k n a tag s) :=
  (created_timers ..).trans (orderStep_timers ..)

theorem setQueue_timers (l : Lane) (q : List Entry) (s : State) : TimersFrom s (setQueue l q s) :=
  .of_same (by simp) fun m => by
    rw [setQueue_lane]
    split
    · rename_i e
      rw [e]
      rfl
    · rfl

theorem giveLane_timers (k : Key) (n : Fin 24) (l : Lane) (s : State) : TimersFrom s (giveLane k n l s) := by
  unfold giveLane
  split
  · exact (setQueue_timers ..).trans (evalHold_timers ..)
  · exact .refl s

theorem allocate_timers (n : Fin 24) (s : State) : TimersFrom s (allocate n s) := by
  unfold allocate
  split
  · exact .refl s
  · split
    · exact (setUnplaced_timers ..).trans ((createPacket_timers ..).trans ((giveLane_timers ..).trans (giveLane_timers ..)))
    · exact .refl s

theorem freeSlot_timers (n : Fin 24) (s : State) : TimersFrom s (freeSlot n s) := by
  unfold freeSlot
  split
  · split
    · exact setSlot_timers ..
    · exact (setSlot_timers ..).trans (allocate_timers ..)
  · exact .refl s
  · exact .refl s

theorem leaveSlot_timers (k : Key) (s : State) : TimersFrom s (leaveSlot k s) := by
  unfold leaveSlot
  split
  · exact (updatePacket_timers (g := fun p => { p with slot := none }) (fun _ => .inr rfl) s).trans (freeSlot_timers ..)
  · exact .refl s

theorem dropPacket_timers (k : Key) (n : Fin 24) (s : State) : TimersFrom s (dropPacket k n s) :=
  (removePacket_timers ..).trans ((freeSlot_timers ..).trans ((setRank_timers ..).trans (orderStep_timers ..)))

theorem dumpPacket_timers (n : Fin 24) (p : Packet) (s : State) : TimersFrom s (dumpPacket n p s) :=
  (act_timers ..).trans ((leaveHeld_timers ..).trans ((leaveFinishing_timers ..).trans ((addTray_timers ..).trans
    ((sendDisposition_timers ..).trans ((removePacket_timers ..).trans ((freeSlot_timers ..).trans ((setRank_timers ..).trans
      (orderStep_timers ..))))))))

theorem purgeTower_timers (s : State) : TimersFrom s (purgeTower s) := by
  have dumped : ∀ (ns : List (Fin 24)) (s : State), TimersFrom s (ns.foldl dumpSlot s) := by
    intro ns
    induction ns with
    | nil => exact .refl
    | cons n ns ih =>
      intro s
      refine TimersFrom.trans (t := dumpSlot s n) ?_ (ih _)
      unfold dumpSlot
      split
      · split
        · exact .refl s
        · exact dumpPacket_timers ..
      · exact .refl s
  exact (setUnplaced_timers ..).trans (dumped _ _)

/-! ## The take and the selection pass -/

theorem OnlyFin.timers (e : OnlyFin s t) : TimersFrom s t := .of_same e.packets e.faults

theorem takePacket_timers (k : Key) (t : Target) (b : Budget) (s : State) : TimersFrom s (takePacket k t b s) := by
  obtain ⟨flags, c, -, e⟩ := takePacket_eq k t b s
  have htaken : TimersFrom s (takenUp k c (reserve t b.units (updateFlags k flags s))) :=
    (updateFlags_timers ..).trans ((reserve_timers ..).trans ((leaveFinishing_timers ..).trans ((updatePacket_timers
      (g := fun p => { p with state := .finishing }) (fun _ => .inr rfl) _).trans ((setCurrent_timers ..).trans
        (enterTransfer_enters ..).toOnlyFin.timers))))
  rcases e with e | e <;> rw [e]
  · exact htaken
  · exact htaken.trans (tryRelief_timers _)

theorem selectFrom_timers (qs : List Queued) (s : State) : TimersFrom s (selectFrom qs s) := by
  induction qs generalizing s with
  | nil => exact .refl s
  | cons q qs ih =>
    unfold selectFrom
    split
    · exact ih s
    · exact (raise_timers ..).trans (ih _)
    · exact takePacket_timers ..

theorem selectionPass_timers (s : State) : TimersFrom s (selectionPass s) := by
  unfold selectionPass
  split
  · exact selectFrom_timers _ s
  · exact .refl s

end
end Sys2Proof.Tower

namespace Sys2Proof.Tower

open Sys2Proof.Machine Sys2Proof.Safety Sys2Proof.ClassTable Sys2Proof.Requests Sys2Proof.Events Sys2Proof.Lanes

/-! # What every event keeps of the tower and the timers

The laws of O9 and O10 in one bundle, `Follows`: a shared operation is said once to keep it, and an event keeps it because its
operations do. -/

section
variable {s t u : State} {c : Current} {k : Key} {n : Fin 24} {p : Packet} {l : Lane} {g : Stage}

/-- The laws of the collection timers, of the stage timer and of the tower from `s` to `t`. -/
structure Follows (s t : State) : Prop where
  timers : TimersFrozenInFault s → TimersFrozenInFault t
  stage : StageTimerRuns s → StageTimerRuns t
  tower : TowerKept s → TowerKept t

theorem Follows.refl (s : State) : Follows s s := ⟨id, id, id⟩

theorem Follows.trans (h : Follows s t) (h' : Follows t u) : Follows s u :=
  ⟨h'.timers ∘ h.timers, h'.stage ∘ h.stage, h'.tower ∘ h.tower⟩

/-- An operation that leaves the Finishing Unit alone. -/
theorem Follows.of_agrees (ht : TimersFrom s t) (h : Agrees none none s → Agrees none none t) (hf : t.fin = s.fin := by simp) :
    Follows s t where
  timers := ht.frozen
  stage := by
    unfold StageTimerRuns
    rw [hf]
    exact id
  tower hs := towerKept_of_agrees (h (agrees_of_towerKept hs)) (hf ▸ hs.currentFits)

/-- An operation on the Finishing Unit that leaves the rest alone. -/
theorem Follows.of_onlyFin (e : OnlyFin s t) (hstage : StageTimerRuns s → StageTimerRuns t)
    (hfits : CurrentFits s.fin → CurrentFits t.fin) (h : Agrees none none s → Agrees none none t) : Follows s t where
  timers := e.timers.frozen
  stage := hstage
  tower hs := towerKept_of_agrees (h (agrees_of_towerKept hs)) (hfits hs.currentFits)

/-- An operation that touches none of what the laws read. -/
theorem Follows.of_quiet (e : OnlyFin s t) (hf : t.fin = s.fin := by simp) : Follows s t :=
  .of_agrees e.timers (fun h => h.congr e.packets e.classes e.slots e.unplaced e.held e.queued hf e.assignments) hf

/-- The same, where simp finds each of these facts by the frame lemmas. -/
theorem Follows.of_same (e : OnlyFin s t := by exact {}) (hf : t.fin = s.fin := by simp) : Follows s t := .of_quiet e hf

/-! ## Operations that touch nothing of this -/

theorem act_follows (x : Action) (s : State) : Follows s (act x s) := .of_same
theorem beginEvent_follows (s : State) : Follows s (beginEvent s) := .of_same
theorem raise_follows (c : Cause) (s : State) : Follows s (raise c s) := .of_same
theorem reply_follows (l : Lane) (tag : Byte) (code : ReplyCode) (kind : Byte) (data : List Byte) (s : State) :
    Follows s (reply l tag code kind data s) := .of_same
theorem sendReport_follows (kind : UpKind) (body : List Byte) (s : State) : Follows s (sendReport kind body s) := .of_same
theorem setRx_follows (l : Lane) (r : Receiver) (s : State) : Follows s (setRx l r s) := .of_same
theorem frameCompleted_follows (l : Lane) (s : State) : Follows s (frameCompleted l s) := .of_same
theorem setBin_follows (b : Fin 17) (x : Bin) (s : State) : Follows s (setBin b x s) := .of_same
theorem setStamp_follows (v : BitVec 32) (s : State) : Follows s (s.setStamp v) := .of_same
theorem setTray_follows (n : Nat) (s : State) : Follows s (s.setTray n) := .of_same
theorem setPurge_follows (x : PurgeState) (s : State) : Follows s (s.setPurge x) := .of_same

theorem evalHold_follows (l : Lane) (s : State) : Follows s (evalHold l s) :=
  .of_same { faults := (evalHold_timers l s).faults }
theorem evalHolds_follows (s : State) : Follows s (evalHolds s) := (evalHold_follows .a s).trans (evalHold_follows .b _)
theorem addTray_follows (n : Nat) (s : State) : Follows s (addTray n s) := .of_same { faults := (addTray_timers n s).faults }
theorem setQueue_follows (l : Lane) (q : List Entry) (s : State) : Follows s (setQueue l q s) :=
  .of_same { faults := (setQueue_timers l q s).faults }

/-- A lane changed in a way that does not put it into FAULT or take it out. -/
theorem setLane_follows {v : LaneUnit} (hv : v.inFault = (s.lane l).inFault) : Follows s (s.setLane l v) :=
  .of_same
    { faults := fun m => by
        rw [State.setLane_lane_ite]
        split
        · rename_i e
          rw [e, hv]
        · rfl }

theorem retime_follows (l : Lane) (s : State) : Follows s (retime l s) := setLane_follows rfl

/-! ## The end of an event (R86, R109, R163) -/

theorem tryRelief_follows (s : State) : Follows s (tryRelief s) := .of_agrees (tryRelief_timers s) tryRelief_agrees

theorem purgeLaneEnd_follows (l : Lane) (s : State) : Follows s (purgeLaneEnd l s) :=
  (setLane_follows (v := { s.lane l with expected := none }) rfl).trans (evalHold_follows l _)

theorem purgeTest_follows (s : State) : Follows s (purgeTest s) := by
  unfold purgeTest
  split
  · exact .refl s
  · split
    · exact (setPurge_follows _ s).trans ((purgeLaneEnd_follows ..).trans ((purgeLaneEnd_follows ..).trans (reply_follows ..)))
    · exact .refl s

theorem currentFits_of_running {f : Finisher} (hc : f.current ≠ none) (hr : f.unit.running = some g) : CurrentFits f := by
  refine ⟨fun h => ?_, fun _ => hc⟩
  rcases h with h | h <;> rw [h] at hr <;> cases hr

theorem stageTimerRuns_of_running (hr : s.fin.unit.running = some g) (ht : s.fin.timer.isSome = true) : StageTimerRuns s := by
  rw [StageTimerRuns, hr, ht]
  rfl

theorem takePacket_fin (k : Key) (t : Target) (b : Budget) (s : State) : (takePacket k t b s).fin.current ≠ none
    ∧ (takePacket k t b s).fin.unit.running = some .transfer ∧ (takePacket k t b s).fin.timer.isSome = true := by
  obtain ⟨flags, c, -, e⟩ := takePacket_eq k t b s
  obtain ⟨hc, hr, ht⟩ := takenUp_fin k c (reserve t b.units (updateFlags k flags s))
  rcases e with e | e <;> rw [e]
  · exact ⟨by simp [hc], hr, ht⟩
  · have hfin : ∀ u : State, (tryRelief u).fin = u.fin := fun u => by simp
    rw [hfin]
    exact ⟨by simp [hc], hr, ht⟩

/-- A pass that takes a packet starts its transfer; any other leaves the unit as it is (R109, R113). -/
theorem selectFrom_fin (qs : List Queued) (s : State) : (selectFrom qs s).fin = s.fin
    ∨ (selectFrom qs s).fin.current ≠ none ∧ (selectFrom qs s).fin.unit.running = some .transfer
      ∧ (selectFrom qs s).fin.timer.isSome = true := by
  induction qs generalizing s with
  | nil => exact .inl rfl
  | cons q qs ih =>
    unfold selectFrom
    split
    · exact ih s
    · exact ih (raise _ s)
    · exact .inr (takePacket_fin ..)

theorem selectionPass_fin (s : State) : (selectionPass s).fin = s.fin
    ∨ (selectionPass s).fin.current ≠ none ∧ (selectionPass s).fin.unit.running = some .transfer
      ∧ (selectionPass s).fin.timer.isSome = true := by
  unfold selectionPass
  split
  · exact selectFrom_fin _ s
  · exact .inl rfl

theorem selectionPass_follows (s : State) : Follows s (selectionPass s) where
  timers := (selectionPass_timers s).frozen
  stage h := by
    rcases selectionPass_fin s with e | ⟨-, hr, ht⟩
    · unfold StageTimerRuns
      rw [e]
      exact h
    · exact stageTimerRuns_of_running hr ht
  tower h := by
    refine towerKept_of_agrees (selectionPass_agrees (agrees_of_towerKept h) h.currentFits) ?_
    rcases selectionPass_fin s with e | ⟨hc, hr, -⟩
    · rw [e]
      exact h.currentFits
    · exact currentFits_of_running hc hr

theorem endEvent_follows (s0 : State) (o : Occasion) (s : State) : Follows s (endEvent s0 o s) := by
  have relief : ∀ (b : Bool) (u : State), Follows u (if b then tryRelief u else u) := fun b u => by
    cases b
    · exact .refl u
    · exact tryRelief_follows u
  have test : ∀ (b : Bool) (u : State), Follows u (if b then purgeTest u else u) := fun b u => by
    cases b
    · exact .refl u
    · exact purgeTest_follows u
  have pass : ∀ (b : Bool) (u : State), Follows u (if b then selectionPass u else u) := fun b u => by
    cases b
    · exact .refl u
    · exact selectionPass_follows u
  exact (relief _ s).trans ((test _ _).trans (pass _ _))

theorem Follows.endEvent (h : Follows s t) (s0 : State) (o : Occasion) : Follows s (endEvent s0 o t) :=
  h.trans (endEvent_follows s0 o t)

/-! ## Faults and frozen timers (R26, R66, R67) -/

theorem mapTimers_frozen {v : CollectTimer → CollectTimer} (h : ∀ p ∈ s.packets,
    (s.anyFault → (v p.timer).isRunning = false) ∧ (s.anyFault = false → ∀ t, v p.timer ≠ .frozen t)) :
    TimersFrozenInFault (mapTimers v s) := by
  intro q hq
  obtain ⟨p, hp, rfl⟩ := List.mem_map.mp hq
  rw [show (mapTimers v s).anyFault = s.anyFault by simp [State.anyFault]]
  exact h p hp

theorem thaw_ne_frozen (x : CollectTimer) (t : Nat) : x.thaw ≠ .frozen t := by cases x <;> simp [CollectTimer.thaw]

theorem anyFault_iff (s : State) : s.anyFault = true ↔ ∃ l, (s.lane l).inFault = true := by
  rw [State.anyFault, Bool.or_eq_true]
  constructor
  · rintro (h | h)
    · exact ⟨.a, h⟩
    · exact ⟨.b, h⟩
  · rintro ⟨l, h⟩
    cases l
    · exact .inl h
    · exact .inr h

/-- A lane enters FAULT and the collection timers freeze (R26, R67). -/
theorem enterFault_follows (l : Lane) (c : LaneCause) (s : State) : Follows s (enterFault l c s) where
  timers _ := by
    intro p hp
    have hfault : (enterFault l c s).anyFault = true :=
      (anyFault_iff _).mpr ⟨l, by rw [enterFault_lane, if_pos rfl]; rfl⟩
    rw [enterFault_packets] at hp
    obtain ⟨q, -, rfl⟩ := List.mem_map.mp hp
    refine ⟨fun _ => ?_, fun hf => ?_⟩
    · cases q.timer <;> rfl
    · rw [hfault] at hf
      cases hf
  stage := by simp [StageTimerRuns]
  tower h := by
    refine towerKept_of_agrees ?_ (by simpa using h.currentFits)
    exact (mapTimers_agrees (agrees_of_towerKept h) (g := CollectTimer.freeze) rfl).congr
      (by rw [enterFault_packets]; rfl)

/-- A lane leaves FAULT, and the collection timers run again where neither is in it (R45, R67). -/
theorem restarted_follows (l : Lane) (s : State) : Follows s (restarted l s) := by
  refine Follows.trans (t := thawTimers (s.setLane l
    { s.lane l with state := .held, queue := [], expected := none, transit := none })) ?_ (evalHold_follows l _)
  have hlane : ∀ m, ((s.setLane l { s.lane l with state := .held, queue := [], expected := none, transit := none }).lane m).inFault
      = if m = l then false else (s.lane m).inFault := fun m => by
    rw [State.setLane_lane_ite]
    split <;> rfl
  refine ⟨fun h => ?_, by simp [StageTimerRuns], fun h => ?_⟩
  · unfold thawTimers
    split
    · rename_i hf
      intro p hp
      rw [hf]
      obtain ⟨m, hm⟩ := (anyFault_iff _).mp hf
      rw [hlane] at hm
      have hs : s.anyFault = true := (anyFault_iff s).mpr ⟨m, by
        split at hm
        · cases hm
        · exact hm⟩
      exact ⟨fun _ => (h p (by simpa using hp)).1 hs, nofun⟩
    · rename_i hf
      exact mapTimers_frozen fun p _ => ⟨fun e => absurd e hf, fun _ => thaw_ne_frozen p.timer⟩
  · have h' : Agrees none none (s.setLane l { s.lane l with state := .held, queue := [], expected := none, transit := none }) :=
      (agrees_of_towerKept h).congr
    refine towerKept_of_agrees ?_ (by simpa using h.currentFits)
    unfold thawTimers
    split
    · exact h'
    · exact mapTimers_agrees h' rfl

/-- One millisecond on (log entry 1). -/
theorem passTime_follows (s : State) : Follows s (passTime s) := by
  have ticked : Follows s (mapTimers CollectTimer.tick (beginEvent (s.setNow (s.now + 1)))) := by
    refine ⟨fun h => mapTimers_frozen fun p hp => ?_, by simp [StageTimerRuns], fun h => ?_⟩
    · obtain ⟨h1, h2⟩ := h p (by simpa using hp)
      rw [show (beginEvent (s.setNow (s.now + 1))).anyFault = s.anyFault by simp [State.anyFault]]
      cases ht : p.timer <;> simp_all [CollectTimer.tick, CollectTimer.isRunning]
    · have h' : Agrees none none (beginEvent (s.setNow (s.now + 1))) := (agrees_of_towerKept h).congr
      exact towerKept_of_agrees (mapTimers_agrees h' rfl) (by simpa using h.currentFits)
  refine ticked.trans (.trans (.of_onlyFin (t := State.setFin _ _) {} ?_ ?_ fun h => ?_) ((setRx_follows ..).trans (setRx_follows ..)))
  · unfold StageTimerRuns
    simp
  · exact id
  · exact setFin_agrees h rfl h.transferred

/-! ## Stages (R114) -/

/-- A stage is entered for the current packet, which has left its slot unless it is the transfer (R114, R115). -/
theorem Enters.follows (e : Enters g s t) (hc : s.fin.current ≠ none)
    (hslot : TowerKept s → g ≠ .transfer → ∀ c, s.fin.current = some c → s.slotOf c.key = none) : Follows s t where
  timers := e.toOnlyFin.timers.frozen
  stage _ := stageTimerRuns_of_running e.running e.timer
  tower h := towerKept_of_agrees (e.agrees (agrees_of_towerKept h) (hslot h)) (currentFits_of_running (e.current ▸ hc) e.running)

theorem of_currentIn (h : s.currentIn g = some c) : s.fin.current = some c ∧ s.fin.unit.running = some g := by
  unfold State.currentIn at h
  split at h
  · rename_i hr
    exact ⟨h, hr⟩
  · cases h

/-- After its transfer the current packet has no slot (R73, R106). -/
theorem slotOf_of_currentIn (h : TowerKept s) (hg : g ≠ .transfer) (hc : s.currentIn g = some c) : s.slotOf c.key = none := by
  obtain ⟨hcur, hrun⟩ := of_currentIn hc
  exact h.transferred c hcur (by simp [hrun]) (by simpa [hrun] using hg)

end
end Sys2Proof.Tower

namespace Sys2Proof.Tower

open Sys2Proof.Machine Sys2Proof.Safety Sys2Proof.ClassTable Sys2Proof.Requests Sys2Proof.Events Sys2Proof.Lanes

/-! # The Lane Units' events keep the laws (chapter 2) -/

section
variable {s t u : State} {c : Current} {k : Key} {n : Fin 24} {p q : Packet} {l : Lane} {g : Stage} {x : PacketState}

theorem divertSheet_follows (l : Lane) (r : Reason) (e : Option Entry) (s : State) : Follows s (divertSheet l r e s) :=
  (act_follows ..).trans ((addTray_follows ..).trans ((sendReport_follows ..).trans (raise_follows ..)))

/-! ## A sheet placed (R60 to R65, R70) -/

theorem decidePlacement_same {i : Nat} (h : decidePlacement p i = .placed q) :
    q.key = p.key ∧ q.slot = p.slot ∧ q.state = p.state := by
  unfold decidePlacement at h
  (repeat' split at h) <;> cases h <;> exact ⟨rfl, rfl, rfl⟩

theorem freshTimer_frozen (s : State) :
    (s.anyFault → s.freshTimer.isRunning = false) ∧ (s.anyFault = false → ∀ t, s.freshTimer ≠ .frozen t) := by
  unfold State.freshTimer
  cases s.anyFault <;> simp [CollectTimer.isRunning]

/-- A placed sheet leaves the timer that fits the lanes, or a stopped one (R63, R66). -/
theorem settlePlaced_frozen (h : TimersFrozenInFault s) (hq : q.timer = s.freshTimer) : TimersFrozenInFault (settlePlaced q s) := by
  unfold settlePlaced
  split
  · have hstop : TimersFrom s (updatePacket q.key (fun _ => { q with timer := .stopped }) s) :=
      updatePacket_timers (g := fun _ => { q with timer := .stopped }) (fun _ => .inl rfl) s
    split
    · exact (hstop.trans (queueForTray_timers ..)).frozen h
    · exact (hstop.trans (handCompleted_timers ..)).frozen h
  · intro p hp
    rw [show (updatePacket q.key (fun _ => q) s).anyFault = s.anyFault by simp [State.anyFault]]
    obtain ⟨p', hp', rfl⟩ := List.mem_map.mp hp
    split
    · rw [hq]
      exact freshTimer_frozen s
    · exact h p' hp'

theorem Agrees.packet_of_packetIn {o : Option Key} {f : Option (Fin 24)} (h : Agrees o f s) (hp : s.packetIn n = some p) :
    s.packet p.key = some p ∧ p.slot = some n := by
  unfold State.packetIn at hp
  split at hp
  · rename_i g i k hs
    obtain rfl := (mem_of_packet hp).2
    exact ⟨hp, (slotOf_of_packet hp).symm.trans (h.occupied n g i _ hs)⟩
  · cases hp
  · cases hp

theorem dropPacket_follows (hp : s.packetIn n = some p) (hx : p.state = .collecting) : Follows s (dropPacket p.key n s) :=
  .of_agrees (dropPacket_timers ..) fun h => dropPacket_agrees h (h.packet_of_packetIn hp).1 hx (h.packet_of_packetIn hp).2

theorem packetIn_congr (hs : t.slots = s.slots) (hp : t.packets = s.packets) (n : Fin 24) : t.packetIn n = s.packetIn n := by
  unfold State.packetIn
  rw [slot_congr hs]
  split
  · exact packet_congr hp _
  · rfl
  · rfl

theorem placeSheet_follows (l : Lane) (e : Entry) (hp : s.packetIn n = some p) (hx : p.state = .collecting) :
    Follows s (placeSheet l e n p s) := by
  unfold placeSheet
  split
  · rename_i q hq
    obtain ⟨hkey, hslot, hstate⟩ := decidePlacement_same hq
    refine (act_follows (.divertGate l false) s).trans ⟨fun h => settlePlaced_frozen h ?_, by simp [StageTimerRuns], fun h => ?_⟩
    · simp [Packet.withSheet, State.freshTimer, State.anyFault]
    · have h' := agrees_of_towerKept h
      have hp' : (act (.divertGate l false) s).packetIn n = some p := (packetIn_congr (by simp) (by simp) n).trans hp
      refine towerKept_of_agrees (settlePlaced_agrees h' (p := p) ?_ hx hslot hstate) (by simpa using h.currentFits)
      rw [show (q.withSheet _ _).key = p.key from hkey]
      exact (h'.packet_of_packetIn hp').1
  · have hp' : (divertSheet l .duplicate (some e) s).packetIn n = some p :=
      (packetIn_congr (by simp [divertSheet]) (by simp [divertSheet]) n).trans hp
    dsimp only
    split
    · exact (divertSheet_follows ..).trans (dropPacket_follows hp' hx)
    · exact divertSheet_follows ..

theorem arrivePlaced_follows (l : Lane) (e : Entry) (n : Fin 24) (s : State) : Follows s (arrivePlaced l e n s) := by
  unfold arrivePlaced
  split
  · exact divertSheet_follows ..
  · rename_i p hp
    split
    · split
      · rename_i hx
        exact placeSheet_follows l e hp hx
      · exact divertSheet_follows ..
      · exact divertSheet_follows ..
      · exact divertSheet_follows ..
    · exact divertSheet_follows ..

theorem leaveUnplaced_follows (k : Key) (s : State) : Follows s (leaveUnplaced k s) :=
  .of_agrees (setUnplaced_timers ..) fun h => setUnplaced_agrees h List.filter_sublist

theorem arrive_follows (l : Lane) (e : Entry) (s : State) : Follows s (arrive l e s) := by
  unfold arrive
  split
  · exact divertSheet_follows ..
  · dsimp only
    split
    · exact divertSheet_follows ..
    · exact (divertSheet_follows ..).trans (leaveUnplaced_follows ..)
  · exact arrivePlaced_follows ..

theorem arriveHead_follows (l : Lane) (e : Entry) (rest : List Entry) (s : State) : Follows s (arriveHead l e rest s) := by
  have arrived := (setQueue_follows l rest s).trans ((retime_follows l _).trans ((evalHold_follows l _).trans (arrive_follows l e _)))
  unfold arriveHead
  dsimp only
  split
  · exact arrived.trans (enterFault_follows ..)
  · exact arrived

theorem onLaneEntry_follows (l : Lane) (s : State) : Follows s (onLaneEntry l s) := by
  refine (setStamp_follows (s.stamp + 1#32) s).trans ?_
  unfold onLaneEntry
  dsimp only
  split
  · exact divertSheet_follows ..
  · split
    · exact divertSheet_follows ..
    · exact (arriveHead_follows ..).endEvent _ _

/-! ## Announcements (R29 to R34, R54 to R56) -/

/-- A class with a WAITING rank is not DONE (R8). -/
theorem Agrees.stage_of_waiting {o : Option Key} {f : Option (Fin 24)} (h : Agrees o f s) (hw : s.rankAt k = some .waiting)
    (he : (s.classRec k.cls).state ≠ .empty) : (s.classRec k.cls).state = .loaded ∨ (s.classRec k.cls).state = .active := by
  cases hst : (s.classRec k.cls).state with
  | empty => exact absurd hst he
  | loaded => exact .inl rfl
  | active => exact .inr rfl
  | done => exact absurd (h.doneClasses _ hst).2 (countOf_ne_zero hw)

theorem lowestFree_eq_some_free (h : s.lowestFree = some n) : s.slot n = .free := by
  simpa [State.isFree] using List.find?_some h

/-- A class becomes ACTIVE with the work that begins in it (R7). -/
theorem activate_agrees {o : Option Key} {f : Option (Fin 24)} (h : Agrees o f s) (d : Nat) : Agrees o f (activate d s) := by
  have hrec := classRec_activate d s
  have hactive : ∀ e, (s.classRec e).state = .active → ((activate d s).classRec e).state = .active := fun e he => by
    rw [hrec]
    split
    · rfl
    · exact he
  have hrank := rankAt_activate d s
  refine h.reclassed (fun k hk => ⟨hrank k, hactive _ ((h.fits k).active hk)⟩) (fun k ho hk => by rw [hrank]; exact h.not_opened ho hk)
    (fun k hk => by rw [hrank]; exact h.not_heldRank hk) (fun u hu => ?_) (fun e he => ?_) (fun k hk => ?_)
  · obtain ⟨ha, hw, has⟩ := h.waiting u (by simpa using hu)
    refine ⟨hactive _ ha, by rw [hrank]; exact hw, ?_⟩
    rw [(activate_touches (k := { cls := d, rank := 0 }) (z := none) s).assignments]
    exact has
  · rw [hrec] at he ⊢
    split at he
    · cases he
    · rename_i hne
      rw [if_neg hne]
      exact h.doneClasses e he
  · obtain ⟨ha, hst, hr⟩ := h.exempt k hk
    exact ⟨hactive _ ha, hst, by rw [hrank]; exact hr⟩

theorem activate_setUnplaced (d : Nat) (v : List Waiting) (s : State) :
    activate d (s.setUnplaced v) = (activate d s).setUnplaced v := by
  unfold activate setClassState State.setClassRec
  rw [show (s.setUnplaced v).classRec d = s.classRec d from rfl]
  split
  · cases finOf 48 d <;> rfl
  · rfl

/-- A WAITING rank of an ACTIVE class joins the unplaced list where no slot is FREE (R54, R56). -/
theorem joinUnplaced_agrees {f : Option (Fin 24)} {w : Waiting} (h : Agrees none f s) (hw : s.rankAt w.key = some .waiting)
    (hactive : (s.classRec w.key.cls).state = .active) (ha : (s.assignmentOf w.key.cls).isSome) (hnew : s.isUnplaced w.key = false)
    (hfull : ∀ n, s.slot n ≠ .free) : Agrees none f (s.setUnplaced (s.unplaced ++ [w])) :=
  { h with
    fits := fun k => (h.fits k).congr (t := s.setUnplaced _) rfl rfl (fun _ => id) (fun _ _ => rfl) Iff.rfl Iff.rfl Iff.rfl id
    waiting := fun u hu => by
      rcases List.mem_append.mp hu with hu | hu
      · exact h.waiting u hu
      · cases List.mem_singleton.mp hu
        exact ⟨hactive, hw, ha⟩
    waitingOnce := by
      have hnot : w.key ∉ s.unplaced.map Waiting.key := fun e => by
        rw [← isUnplaced_iff, hnew] at e
        cases e
      rw [State.setUnplaced_unplaced, List.map_append]
      exact List.nodup_append.mpr ⟨h.waitingOnce, List.nodup_singleton _, fun a hx b hb e => hnot (by
        rw [← List.mem_singleton.mp hb, ← e]
        exact hx)⟩
    noIdleSlot := fun _ n _ => hfull n }

/-- A WAITING rank gets a packet, or a place in the unplaced list (R34, R54 to R56). -/
theorem waitingVerdict_follows {x : Announcement} (hw : s.rankAt x.key = some .waiting) (he : (s.classRec x.key.cls).state ≠ .empty) :
    Follows s (waitingVerdict x s).2 := by
  unfold waitingVerdict
  split
  · exact .refl s
  · rename_i a ha
    split
    · exact .refl s
    · split
      · exact .refl s
      · rename_i hnew
        split
        · rename_i n hn
          refine .of_agrees (createPacket_timers ..) fun h => ?_
          have hfree := lowestFree_eq_some_free hn
          have hnone : s.unplaced = [] := by
            by_contra hne
            exact h.noIdleSlot hne n nofun hfree
          exact createPacket_agrees (h.weaken (.inl hnone)) hfree hw (h.stage_of_waiting hw he) (by simp [hnone]) _ _
        · rename_i hfull
          refine .of_agrees ((setUnplaced_timers ..).trans (activate_timers ..)) (fun h => ?_) (by simp)
          have h' := activate_agrees h x.key.cls
          have hactive : ((activate x.key.cls s).classRec x.key.cls).state = .active := by
            rw [classRec_activate]
            rcases h.stage_of_waiting hw he with e | e <;> simp [e]
          have hass : (activate x.key.cls s).assignmentOf x.key.cls = some a := by
            rw [(activate_touches (k := x.key) (z := none) s).assignments, ha]
          rw [activate_setUnplaced]
          have hunplaced : (activate x.key.cls s).unplaced = s.unplaced := by simp
          have hjoined := joinUnplaced_agrees (w := { key := x.key, jobTag := x.jobTag }) h' ((rankAt_activate ..).trans hw) hactive
            (by simp [hass]) (by simpa [State.isUnplaced] using hnew) fun n => by
              rw [slot_congr (s := s) (by simp)]
              exact lowestFree_eq_none.mp hfull n
          rwa [hunplaced] at hjoined

theorem verdictOf_follows (x : Announcement) (s : State) : Follows s (verdictOf x s).2 := by
  unfold verdictOf
  split
  · exact .refl s
  · rename_i hreason
    have he : (s.classRec x.key.cls).state ≠ .empty := fun e => by
      simp only [identityReason, e] at hreason
      split at hreason <;> simp at hreason
    split
    case h_8 hw => exact waitingVerdict_follows hw he
    all_goals exact .refl s

theorem appendEntry_follows (l : Lane) (x : Announcement) (v : Verdict) (s : State) : Follows s (appendEntry l x v s) := by
  unfold appendEntry
  dsimp only
  refine Follows.trans ?_ ((retime_follows l _).trans (evalHold_follows l _))
  exact setLane_follows rfl

theorem takeAnnouncement_follows (l : Lane) (x : Announcement) (s : State) : Follows s (takeAnnouncement l x s) := by
  unfold takeAnnouncement
  dsimp only
  refine Follows.endEvent ((verdictOf_follows x s).trans (.trans ?_ (appendEntry_follows l x _ _))) _ _
  split
  · exact raise_follows ..
  · exact .refl _

theorem onSheetAnnounce_follows (l : Lane) (body : List Byte) (s : State) : Follows s (onSheetAnnounce l body s) := by
  unfold onSheetAnnounce
  split
  · exact raise_follows ..
  · split
    · exact .refl s
    · split
      · exact (enterFault_follows ..).endEvent _ _
      · split
        · exact (enterFault_follows ..).endEvent _ _
        · exact takeAnnouncement_follows ..

/-! ## Faults and Lane Clear (R37, R43, R45, R46) -/

theorem onLaneJam_follows (l : Lane) (s : State) : Follows s (onLaneJam l s) := by
  unfold onLaneJam
  split
  · rename_i hf
    exact (setLane_follows (v := { s.lane l with state := .fault .jam }) (by rw [hf]; rfl)).trans (raise_follows ..)
  · exact (enterFault_follows ..).endEvent _ _

theorem onTransitExpiry_follows (l : Lane) (s : State) : Follows s (onTransitExpiry l s) := by
  unfold onTransitExpiry
  split
  · exact (enterFault_follows ..).endEvent _ _
  · exact .refl s

theorem discardEffect_follows (l : Lane) (e : Entry) (s : State) : Follows s (discardEffect l e s) := by
  unfold discardEffect
  split
  · exact .refl s
  · split
    · exact .refl s
    · exact leaveUnplaced_follows ..
  · split
    · rename_i p hp
      split
      · rename_i hd
        obtain ⟨hkey, huntouched, -⟩ := hd
        have hx : p.state = .collecting := by
          simp only [Packet.untouched, Bool.and_eq_true, decide_eq_true_eq] at huntouched
          exact huntouched.1.1
        rw [← hkey]
        exact dropPacket_follows hp hx
      · exact .refl s
    · exact .refl s

theorem discardEntries_follows (l : Lane) (fuel : Nat) (s : State) : Follows s (discardEntries l fuel s) := by
  induction fuel generalizing s with
  | zero => exact .refl s
  | succ fuel ih =>
    unfold discardEntries
    split
    · exact .refl s
    · exact (setQueue_follows ..).trans ((discardEffect_follows ..).trans (ih _))

theorem clearLane_follows (l : Lane) (s : State) : Follows s (clearLane l s) :=
  (discardEntries_follows l _ s).trans (restarted_follows l _)

theorem withLength_follows {k : DownKind} {tag : Byte} {body : List Byte} {f : State → State} (h : Follows s (f s)) :
    Follows s (withLength k l tag body f s) := by
  unfold withLength
  split
  · exact h
  · exact reply_follows ..

theorem onLaneClear_follows (link : Lane) (tag : Byte) (body : List Byte) (s : State) :
    Follows s (onLaneClear link tag body s) := by
  refine withLength_follows ?_
  split
  · exact reply_follows ..
  · split
    · exact ((clearLane_follows ..).trans (reply_follows ..)).endEvent _ _
    · exact reply_follows ..

end
end Sys2Proof.Tower

namespace Sys2Proof.Tower

open Sys2Proof.Machine Sys2Proof.Safety Sys2Proof.ClassTable Sys2Proof.Requests Sys2Proof.Events Sys2Proof.Lanes

/-! # The Finishing Unit's events keep the laws (chapters 6 and 7) -/

section
variable {s t u : State} {c : Current} {k : Key} {n : Fin 24} {p q : Packet} {l : Lane} {g : Stage} {x : PacketState} {r : RankState}

/-! ## Stages (R115 to R118) -/

theorem onTransferDone_follows (s : State) : Follows s (onTransferDone s) := by
  unfold onTransferDone
  split
  · rename_i c hc
    obtain ⟨hcur, hrun⟩ := of_currentIn hc
    have hfin : (leaveSlot c.key s).fin = s.fin := by simp
    have entered := enterJog_enters (leaveSlot c.key s)
    have htimers : TimersFrom s (enterJog (leaveSlot c.key s)) := (leaveSlot_timers ..).trans entered.toOnlyFin.timers
    refine Follows.endEvent ⟨htimers.frozen, fun _ => stageTimerRuns_of_running entered.running entered.timer, fun h => ?_⟩ _ _
    have h' := agrees_of_towerKept h
    obtain ⟨hleft, hslot⟩ := leaveSlot_agrees h' (h'.current_packet hcur)
    refine towerKept_of_agrees (entered.agrees hleft fun _ d hd => ?_) (currentFits_of_running ?_ entered.running)
    · rw [hfin, hcur] at hd
      cases hd
      exact hslot
    · rw [entered.current, hfin, hcur]
      nofun
  · exact .refl s

theorem onJogDone_follows (s : State) : Follows s (onJogDone s) := by
  unfold onJogDone
  split
  · rename_i c hc
    have hcur := (of_currentIn hc).1
    have hslot : TowerKept s → ∀ d, s.fin.current = some d → s.slotOf d.key = none := fun h d hd => by
      cases hcur.symm.trans hd
      exact slotOf_of_currentIn h (by decide) hc
    split
    · exact (fireStaple_enters c s).follows (by simp [hcur]) fun h _ => hslot h
    · exact (enterEject_enters c s).follows (by simp [hcur]) fun h _ => hslot h
  · exact .refl s

theorem onStapleDone_follows (s : State) : Follows s (onStapleDone s) := by
  unfold onStapleDone
  split
  · rename_i c hc
    obtain ⟨hcur, hrun⟩ := of_currentIn hc
    dsimp only
    have fired : Follows s (setCurrent (some { c with staplesPlaced := c.staplesPlaced + 1 }) (setSupply (s.fin.supply - 1) s)) := by
      refine .of_onlyFin {} (by simp [StageTimerRuns, setCurrent, setSupply]) (fun h => ⟨?_, by simp [setCurrent]⟩) fun h => ?_
      · intro hidle
        have := h.1 hidle
        rw [hcur] at this
        cases this
      · refine OnlyFin.agrees {} h (by simp [setCurrent, hcur]) fun d hd hr htr => ?_
        cases hd
        exact h.transferred c hcur hr htr
    have hslot : TowerKept (setCurrent (some { c with staplesPlaced := c.staplesPlaced + 1 }) (setSupply (s.fin.supply - 1) s)) →
        ∀ d, (setCurrent (some { c with staplesPlaced := c.staplesPlaced + 1 }) (setSupply (s.fin.supply - 1) s)).fin.current = some d →
        (setCurrent (some { c with staplesPlaced := c.staplesPlaced + 1 }) (setSupply (s.fin.supply - 1) s)).slotOf d.key = none :=
      fun h d hd => h.transferred d hd (by simp [setCurrent, setSupply, hrun]) (by simp [setCurrent, setSupply, hrun])
    split
    · exact fired.trans ((enterEject_enters ..).follows nofun fun h _ => hslot h)
    · exact fired.trans ((fireStaple_enters ..).follows nofun fun h _ => hslot h)
  · exact .refl s

/-! ## Delivery and removal (R119, R122) -/

/-- The unit after its packet has gone. -/
def departed (m : Bool) (k : Key) (r : RankState) (s : State) : State :=
  freeUnit m (orderStep k.cls (setCurrent none (removePacket k (endRank k r s))))

theorem departed_timers (m : Bool) (k : Key) (r : RankState) (s : State) : TimersFrom s (departed m k r s) :=
  (endRank_timers ..).trans ((removePacket_timers ..).trans ((setCurrent_timers ..).trans ((orderStep_timers ..).trans
    (freeUnit_timers ..))))

theorem departed_fin (m : Bool) (k : Key) (r : RankState) (s : State) :
    (departed m k r s).fin = { s.fin with current := none, unit := if m then .suspended else .idle } := by
  have hfin : (orderStep k.cls (setCurrent none (removePacket k (endRank k r s)))).fin = { s.fin with current := none } := by
    simp [setCurrent]
  rw [departed, freeUnit, setUnit, State.setFin_fin, hfin]

theorem departed_fits (m : Bool) (k : Key) (r : RankState) (s : State) : CurrentFits (departed m k r s).fin := by
  rw [departed_fin]
  exact ⟨fun _ => rfl, by cases m <;> simp [UnitState.running]⟩

theorem departed_stage (h : s.fin.timer = none) (m : Bool) (k : Key) (r : RankState) : StageTimerRuns (departed m k r s) := by
  rw [StageTimerRuns, departed_fin]
  cases m <;> simp [UnitState.running, h]

theorem departed_tower (h : Agrees none none s) (hk : stateOf s k = some .finishing) (hn : s.slotOf k = none)
    (hr : r ≠ .opened) (hr' : r ≠ .held) (m : Bool) : TowerKept (departed m k r s) := by
  refine towerKept_of_agrees ?_ (departed_fits m k r s)
  have hactive : ((setCurrent none (removePacket k (endRank k r s))).classRec k.cls).state = .active := by
    have h' := (h.fits k).active (by simp [hk])
    rw [classRec_congr (s := endRank k r s) (by simp), endRank]
    split
    · rwa [state_setRank]
    · exact h'
  have hordered := orderStep_agrees (departed_agrees h hk hn hr hr') (by rw [hactive]; decide) (.inl rfl)
  have hcurrent : (departed m k r s).fin.current = none := by rw [departed_fin]
  have freed : OnlyFin (orderStep k.cls (setCurrent none (removePacket k (endRank k r s)))) (departed m k r s) := by
    unfold departed
    constructor <;> simp only [freeUnit_frame, implies_true]
  refine freed.agrees hordered ?_ fun c hc => by rw [hcurrent] at hc; cases hc
  rw [hcurrent]
  simp [setCurrent]

end
end Sys2Proof.Tower

namespace Sys2Proof.Tower

open Sys2Proof.Machine Sys2Proof.Safety Sys2Proof.ClassTable Sys2Proof.Requests Sys2Proof.Events Sys2Proof.Lanes

/-! # Delivery, faults, Finisher Clear and the bins keep the laws (R119 to R139) -/

section
variable {s t u : State} {c : Current} {k : Key} {n : Fin 24} {p q : Packet} {l : Lane} {g : Stage} {m : Bool} {r : RankState}

/-! ## Eject done (R119) -/

theorem commit_onlyFin (c : Current) (p : Packet) (s : State) : OnlyFin s (commit c p s) where
  faults l := by
    unfold commit
    split
    · simp
    · exact (addTray_timers p.sheetsHeld s).faults l

/-- What the books take of a delivery, up to the Disposition (R119 steps 1 to 3). -/
def booked (c : Current) (p : Packet) (s : State) : State :=
  sendDisposition p c.target.code c.staplesPlaced c.units (flipJogSide c p (commit c p (stopStageTimer s)))

theorem booked_onlyFin (c : Current) (p : Packet) (s : State) : OnlyFin s (booked c p s) := by
  have flipped : OnlyFin (commit c p (stopStageTimer s)) (booked c p s) :=
    { packets := by simp [booked], classes := by simp [booked], slots := by simp [booked], unplaced := by simp [booked]
      held := by simp [booked], queued := by simp [booked], assignments := by simp [booked], faults := fun l => by
        unfold booked flipJogSide
        split
        · split <;> simp
        · simp }
  exact OnlyFin.trans (t := stopStageTimer s) {} ((commit_onlyFin c p _).trans flipped)

theorem booked_fin (c : Current) (p : Packet) (s : State) : (booked c p s).fin = { s.fin with timer := none } := by
  simp [booked, stopStageTimer]

theorem onEjectDone_follows (s : State) : Follows s (onEjectDone s) := by
  unfold onEjectDone
  split
  · rename_i c hc
    split
    · rename_i p hp
      refine Follows.endEvent (t := departed s.fin.unit.isSuspendPending c.key .delivered (booked c p s)) ⟨?_, ?_, fun h => ?_⟩ _ _
      · exact ((booked_onlyFin c p s).timers.trans (departed_timers ..)).frozen
      · exact fun _ => departed_stage (by rw [booked_fin]) ..
      · have hcur := (of_currentIn hc).1
        have h' := agrees_of_towerKept h
        have hagrees : Agrees none none (booked c p s) :=
          (booked_onlyFin c p s).agrees h' (by rw [booked_fin]) (by rw [booked_fin]; exact h.transferred)
        refine departed_tower hagrees ?_ ?_ (by decide) (by decide) _
        · rw [stateOf_congr (packet_congr (booked_onlyFin c p s).packets c.key)]
          exact h'.current_packet hcur
        · rw [slotOf_congr (booked_onlyFin c p s).packets]
          exact slotOf_of_currentIn h (by decide) hc
    · exact .refl s
  · exact .refl s

/-! ## Faults (R120) -/

theorem enterUnitFault_follows (x : UnitCause) (s : State) : Follows s (enterUnitFault x s) := by
  refine Follows.trans (t := s.setFin { s.fin with unit := .fault x s.fin.unit.marksSuspend, timer := none }) ?_ (raise_follows _ _)
  refine .of_onlyFin {} (fun _ => by simp [StageTimerRuns, UnitState.running]) (fun _ => ⟨fun e => ?_, fun e => absurd rfl e⟩) fun h => ?_
  · simp at e
  · exact setFin_agrees h rfl fun c _ e => absurd rfl e

theorem onMisfire_follows (s : State) : Follows s (onMisfire s) := by
  unfold onMisfire
  split
  · exact enterUnitFault_follows ..
  · exact .refl s

theorem onStageLimit_follows (s : State) : Follows s (onStageLimit s) := by
  unfold onStageLimit
  split
  · exact enterUnitFault_follows ..
  · exact .refl s

/-! ## Finisher Clear (R121, R122) -/

/-- RETRY starts the transfer again, or the jog where the packet has left its slot (R121). -/
theorem retryPacket_follows (hc : s.fin.current = some c) : Follows s (retryPacket m c s) := by
  have started : ∀ {g : Stage} {t : State}, Enters g (retryUnit m g s) t → (g ≠ .transfer → s.slotOf c.key = none) →
      Follows s t := by
    intro g t e hslot
    have e' : Enters g s t := ⟨OnlyFin.trans (t := retryUnit m g s) {} e.toOnlyFin, e.current.trans rfl, e.running, e.timer⟩
    refine e'.follows (by simp [hc]) fun _ hg d hd => ?_
    cases hc.symm.trans hd
    exact hslot hg
  unfold retryPacket
  split
  · exact started (enterTransfer_enters ..) fun hg => absurd rfl hg
  · rename_i hslot
    exact started (enterJog_enters _) fun _ => by simpa using hslot

/-- What a REMOVED packet leaves before its departure (R122 steps 1 to 3). -/
def setAside (c : Current) (p : Packet) (s : State) : State :=
  sendDisposition { p with flags := { p.flags with removed := true } } 18 c.staplesPlaced 0
    (leaveSlot c.key (unreserve c.target c.units (updateFlags c.key (fun f => { f with removed := true }) s)))

theorem removeCurrent_follows (hc : s.fin.current = some c) (hu : s.fin.unit.running = none) :
    Follows s (removeCurrent m c p s) where
  timers := by
    have ht : TimersFrom s (setAside c p s) :=
      (updateFlags_timers ..).trans ((unreserve_timers ..).trans ((leaveSlot_timers ..).trans (sendDisposition_timers ..)))
    exact (ht.trans (departed_timers m c.key .missed _)).frozen
  stage h := by
    refine departed_stage (s := setAside c p s) ?_ m c.key .missed
    have htimer : s.fin.timer = none := by simpa [StageTimerRuns, hu] using h
    simpa [setAside] using htimer
  tower h := by
    have h' := agrees_of_towerKept h
    have hflagged : Agrees none none (unreserve c.target c.units (updateFlags c.key (fun f => { f with removed := true }) s)) :=
      (updateFlags_agrees (k := c.key) h' fun f => { f with removed := true }).congr
    have hstate : stateOf (unreserve c.target c.units (updateFlags c.key (fun f => { f with removed := true }) s)) c.key
        = some .finishing := hflagged.current_packet (c := c) (by simpa using hc)
    obtain ⟨hleft, hslot⟩ := leaveSlot_agrees hflagged hstate
    have hset : Agrees none none (setAside c p s) := by
      unfold setAside
      exact hleft.congr
    refine departed_tower hset (hset.current_packet (c := c) (by simpa [setAside] using hc)) ?_ (by decide) (by decide) m
    unfold setAside
    exact (slotOf_congr (by simp) _).trans hslot

/-- Where there is no current packet, the unit leaves its FAULT (R121). -/
theorem freeUnit_follows (hc : s.fin.current = none) (hu : s.fin.unit.running = none) : Follows s (freeUnit m s) := by
  refine .of_onlyFin {} ?_ (fun _ => ?_) fun h => ?_
  · unfold StageTimerRuns
    rw [hu]
    cases m <;> exact id
  · refine ⟨fun _ => hc, fun e => absurd ?_ e⟩
    cases m <;> rfl
  · refine OnlyFin.agrees {} h rfl fun c hcur => ?_
    cases hc.symm.trans hcur

theorem onFinisherClear_follows (link : Lane) (tag : Byte) (body : List Byte) (s : State) :
    Follows s (onFinisherClear link tag body s) := by
  refine withLength_follows ?_
  dsimp only
  split
  · exact reply_follows ..
  · rename_i o x mark _ hunit
    have hu : s.fin.unit.running = none := by rw [hunit]; rfl
    split
    · rename_i hc
      exact ((freeUnit_follows hc hu).trans (reply_follows ..)).endEvent _ _
    · rename_i c hc
      split
      · exact (retryPacket_follows hc).trans (reply_follows ..)
      · exact ((removeCurrent_follows hc hu).trans (reply_follows ..)).endEvent _ _
      · rename_i hp _
        refine Follows.endEvent (Follows.trans ?_ (reply_follows ..)) _ _
        refine ⟨TimersFrom.frozen ((unreserve_timers ..).trans ((setCurrent_timers ..).trans (freeUnit_timers ..))), ?_,
          fun h => ?_⟩
        · unfold StageTimerRuns
          rw [hu]
          cases mark <;> simp [freeUnit, setUnit, setCurrent, UnitState.running]
        · have := (agrees_of_towerKept h).current_packet hc
          rw [stateOf, hp] at this
          cases this
  · exact reply_follows ..
  · exact reply_follows ..
  · exact reply_follows ..
  · exact reply_follows ..

/-! ## Suspend and Resume (R123, R124) -/

/-- A unit state with the same running stage, which holds no packet where the old one held none. -/
theorem setUnit_follows {x : UnitState} (hx : x.running = s.fin.unit.running)
    (hrest : x = .idle ∨ x = .suspended → s.fin.unit = .idle ∨ s.fin.unit = .suspended) : Follows s (setUnit x s) := by
  refine .of_onlyFin {} ?_ (fun h => ⟨fun e => h.1 (hrest e), ?_⟩) fun h => OnlyFin.agrees {} h rfl fun c hc => ?_
  · unfold StageTimerRuns
    simp [setUnit, hx]
  · exact fun e => h.2 (by simpa [setUnit, hx] using e)
  · simpa [setUnit, hx] using h.transferred c hc

theorem onSuspendFinishing_follows (link : Lane) (tag : Byte) (body : List Byte) (s : State) :
    Follows s (onSuspendFinishing link tag body s) := by
  refine withLength_follows ((setUnit_follows ?_ ?_).trans (reply_follows ..))
  · cases s.fin.unit <;> rfl
  · cases s.fin.unit <;> simp [UnitState.suspend]

theorem onResumeFinishing_follows (link : Lane) (tag : Byte) (body : List Byte) (s : State) :
    Follows s (onResumeFinishing link tag body s) := by
  refine withLength_follows (((setUnit_follows ?_ ?_).trans (reply_follows ..)).endEvent _ _)
  · cases s.fin.unit <;> rfl
  · cases s.fin.unit <;> simp [UnitState.resume]

/-! ## The supply and the bins (R125, R130 to R135, R139) -/

theorem setSupply_follows (x : Nat) (s : State) : Follows s (setSupply x s) :=
  .of_onlyFin {} id id fun h => setFin_agrees h rfl h.transferred

theorem onCartridgeInserted_follows (s : State) : Follows s (onCartridgeInserted s) := (setSupply_follows _ s).endEvent _ _

theorem onLoadBin_follows (link : Lane) (tag : Byte) (body : List Byte) (s : State) : Follows s (onLoadBin link tag body s) := by
  refine withLength_follows ?_
  dsimp only
  split
  · exact reply_follows ..
  · split
    · exact reply_follows ..
    · exact ((setBin_follows ..).trans (reply_follows ..)).endEvent _ _

theorem onBinReplaced_follows (b : Fin 17) (s : State) : Follows s (onBinReplaced b s) := (setBin_follows ..).endEvent _ _

theorem onTrayEmptied_follows (s : State) : Follows s (onTrayEmptied s) := by
  unfold onTrayEmptied
  refine Follows.endEvent ?_ _ _
  split
  · exact (setTray_follows ..).trans (evalHolds_follows _)
  · exact setTray_follows ..

end
end Sys2Proof.Tower

namespace Sys2Proof.Tower

open Sys2Proof.Machine Sys2Proof.Safety Sys2Proof.ClassTable Sys2Proof.Requests Sys2Proof.Events Sys2Proof.Lanes

/-! # Fences, the slot gift, the collection expiry and the Purge keep the laws (R58, R68 to R74, R162) -/

section
variable {s t u : State} {o : Option Key} {f f' : Option (Fin 24)} {k : Key} {n m : Fin 24} {p q : Packet} {l : Lane}
  {g : SlotHold} {x : Slot} {i j : Bool}

/-! ## Slots (R71, R72) -/

/-- A slot whose occupation stays: only its fence, or its pending mark, changes (R71, R72). -/
theorem setSlot_agrees (h : Agrees o f s) (hx : ∀ g k, (∃ i, x = .occupied g i k) ↔ ∃ i, s.slot n = .occupied g i k)
    (hfree : f' ≠ some n → s.unplaced ≠ [] → x ≠ .free) (hf : ∀ m, m ≠ n → f = some m → f' = some m) :
    Agrees o f' (setSlot n x s) := by
  have here : ∀ g k m, (∃ i, (setSlot n x s).slot m = .occupied g i k) ↔ ∃ i, s.slot m = .occupied g i k := by
    intro g k m
    rw [slot_setSlot]
    split
    · rename_i e
      rw [e]
      exact hx g k
    · rfl
  refine { h with fits := fun k => { h.fits k with slot := fun y m hy hm => ?_ }, occupied := fun m g i k hs => ?_,
                  noIdleSlot := fun he m hm => ?_ }
  · obtain ⟨g, i, hs, hg⟩ := (h.fits k).slot y m hy hm
    obtain ⟨i', hs'⟩ := (here g k m).mpr ⟨i, hs⟩
    exact ⟨g, i', hs', hg⟩
  · obtain ⟨i', hs'⟩ := (here g k m).mp ⟨i, hs⟩
    exact h.occupied m g i' k hs'
  · rw [slot_setSlot]
    split
    · rename_i e
      exact hfree (e ▸ hm) he
    · rename_i e
      exact h.noIdleSlot he m fun e' => hm (hf m e e')

/-- The pending mark of a fence is set or cleared (R71, R72). -/
theorem setPendingMark_follows (hs : s.slot n = .occupied g i k) : Follows s (setSlot n (.occupied g j k) s) :=
  .of_agrees (setSlot_timers ..) fun h => setSlot_agrees h (by simp [hs]) (by simp) (by simp)

theorem onFenceSlot_follows (link : Lane) (tag : Byte) (body : List Byte) (s : State) :
    Follows s (onFenceSlot link tag body s) := by
  refine withLength_follows ?_
  split
  · exact reply_follows ..
  · split
    · rename_i n _ hs
      refine Follows.endEvent (Follows.trans (.of_agrees (setSlot_timers ..) fun h => ?_) (reply_follows ..)) _ _
      exact setSlot_agrees h (by simp [hs]) (by simp) (by simp)
    · rename_i hs
      exact (setPendingMark_follows hs).trans (reply_follows ..)
    · exact reply_follows ..

theorem onUnfenceSlot_follows (link : Lane) (tag : Byte) (body : List Byte) (s : State) :
    Follows s (onUnfenceSlot link tag body s) := by
  refine withLength_follows ?_
  split
  · exact reply_follows ..
  · split
    · rename_i hs
      refine Follows.endEvent (Follows.trans (t := allocate _ (setSlot _ .free s))
        (.of_agrees ((setSlot_timers ..).trans (allocate_timers ..)) fun h => ?_) (reply_follows ..)) _ _
      exact allocate_agrees (setSlot_agrees (f' := some _) h (by simp [hs]) (by simp) (by simp)) (by simp)
    · rename_i hs
      split
      · exact (setPendingMark_follows hs).trans (reply_follows ..)
      · exact reply_follows ..
    · exact reply_follows ..

theorem onSlotGift_follows (n : Fin 24) (s : State) : Follows s (onSlotGift n s) := by
  unfold onSlotGift
  split
  · rename_i hs
    exact (Follows.of_agrees (allocate_timers ..) fun h => allocate_agrees (h.weaken (.inr nofun)) hs).endEvent _ _
  · exact .refl s
  · exact .refl s

/-! ## The collection expiry (R68, R69) -/

theorem ne_stopped_of_isRunning {x : CollectTimer} (h : x.isRunning = true) : x ≠ .stopped := by
  rintro rfl
  cases h

theorem onCollectionExpiry_follows (n : Fin 24) (s : State) : Follows s (onCollectionExpiry n s) := by
  unfold onCollectionExpiry
  split
  · rename_i p hp
    split
    · rename_i hrun
      refine (Follows.of_agrees (becomeStale_timers ..) fun h => ?_).endEvent _ _
      have hpk := (h.packet_of_packetIn hp).1
      exact becomeStale_agrees h hpk ((h.fits p.key).timer p hpk (ne_stopped_of_isRunning hrun))
    · exact .refl s
  · exact .refl s

/-! ## Purge (R162) -/

theorem purgeLaneStart_follows (l : Lane) (s : State) : Follows s (purgeLaneStart l s) :=
  (setQueue_follows l _ s).trans (evalHold_follows l _)

theorem onPurge_follows (link : Lane) (tag : Byte) (body : List Byte) (s : State) : Follows s (onPurge link tag body s) := by
  refine withLength_follows ?_
  dsimp only
  split
  · exact reply_follows ..
  · have started := (setPurge_follows (.inProgress link tag) s).trans
      ((purgeLaneStart_follows .a _).trans (purgeLaneStart_follows .b _))
    exact started.trans ((Follows.of_agrees (purgeTower_timers _) purgeTower_agrees).trans (purgeTest_follows _))

end
end Sys2Proof.Tower

namespace Sys2Proof.Tower

open Sys2Proof.Machine Sys2Proof.Safety Sys2Proof.ClassTable Sys2Proof.Requests Sys2Proof.Events Sys2Proof.Lanes

/-! # The class requests keep the tower's law (R9 to R17) -/

section
variable {s t u : State} {f : Option (Fin 24)} {c : Nat} {k : Key} {n : Fin 24} {p q : Packet} {l : Lane} {r : ClassRec}
  {m : RosterMark}

/-- A class record that fits the packets and the waiting keys of its class. -/
structure RecordFits (s : State) (c : Nat) (r : ClassRec) : Prop where
  packets : ∀ k : Key, k.cls = c → stateOf s k ≠ none → r.rankAt k.rank = s.rankAt k ∧ r.state = .active
  ranks : ∀ k : Key, k.cls = c → stateOf s k = none → r.rankAt k.rank ≠ some .opened ∧ r.rankAt k.rank ≠ some .held
  waiting : ∀ u ∈ s.unplaced, u.key.cls = c → r.state = .active ∧ r.rankAt u.key.rank = some .waiting
    ∧ r.body.map ClassBody.assignment = (s.classRec c).body.map ClassBody.assignment
  done : r.state = .done → r.cursor = r.size ∧ r.countOf .waiting = 0

theorem rankAt_setClassRec (s : State) (c : Nat) (r : ClassRec) (k : Key) :
    (s.setClassRec c r).rankAt k = if k.cls = c ∧ c < 48 then r.rankAt k.rank else s.rankAt k := by
  rw [State.rankAt, State.classRec_setClassRec]
  split
  · rfl
  · rfl

theorem setClassRec_agrees (h : Agrees none f s) (hr : RecordFits s c r) : Agrees none f (s.setClassRec c r) := by
  have hrec := fun d => State.classRec_setClassRec s c d r
  have hrank := rankAt_setClassRec s c r
  refine h.reclassed (fun k hk => ?_) (fun k _ hk => ?_) (fun k hk => ?_) (fun u hu => ?_) (fun d => ?_) nofun
  · rw [hrank, hrec]
    split
    · rename_i hc
      exact hr.packets k hc.1 hk
    · exact ⟨rfl, (h.fits k).active hk⟩
  · rw [hrank]
    split
    · rename_i hc
      exact (hr.ranks k hc.1 hk).1
    · exact h.not_opened nofun hk
  · rw [hrank]
    split
    · rename_i hc
      exact (hr.ranks k hc.1 hk).2
    · exact h.not_heldRank hk
  · have hu' : u ∈ s.unplaced := by simpa using hu
    have htables : (s.setClassRec c r).tables = s.tables := by simp
    rw [hrank, assignmentOf_eq, hrec, htables]
    split
    · rename_i hc
      obtain ⟨ha, hw, hb⟩ := hr.waiting u hu' hc.1
      rw [hb, ← hc.1, ← assignmentOf_eq]
      exact ⟨ha, hw, (h.waiting u hu').2.2⟩
    · rw [← assignmentOf_eq]
      exact h.waiting u hu'
  · rw [hrec]
    split
    · exact hr.done
    · exact h.doneClasses d

/-- A class that is not ACTIVE has no packet and no waiting key (R7), so any record without OPEN and HELD ranks fits it. -/
theorem recordFits_of_not_active (h : Agrees none f s) (ha : (s.classRec c).state ≠ .active) (hd : r.state ≠ .done)
    (hr : ∀ j, r.rankAt j ≠ some .opened ∧ r.rankAt j ≠ some .held) : RecordFits s c r where
  packets := by
    rintro k rfl hk
    exact absurd ((h.fits k).active hk) ha
  ranks k _ _ := hr k.rank
  waiting := by
    rintro u hu rfl
    exact absurd (h.waiting u hu).1 ha
  done e := absurd e hd

/-! ## Load, Unload and Lock (R9 to R12) -/

theorem onLoadClass_follows (link : Lane) (tag : Byte) (body : List Byte) (s : State) :
    Follows s (onLoadClass link tag body s) := by
  unfold onLoadClass withLength
  split
  · rename_i hlen
    split
    · exact reply_follows ..
    · rename_i q hq
      dsimp only
      split
      · exact reply_follows ..
      · rename_i hcheck
        have hload := loads_of_ofBody hlen hq
        have hc : q.cls < 48 := hload.cls ▸ (inRange_of_ofBody hlen hq).1
        refine Follows.endEvent (.of_agrees (.trans (.of_same) (cursorAdvance_timers ..)) fun h => ?_) _ _
        have hloaded : Agrees none none (s.setClassRec q.cls ((s.classRec q.cls).reloaded q)) :=
          setClassRec_agrees h <| recordFits_of_not_active h (fun e => hcheck (.inr e)) (by simp [ClassRec.reloaded])
            fun j => ⟨rankAt_reloaded_ne hload _ j (by decide), rankAt_reloaded_ne hload _ j (by decide)⟩
        refine cursorAdvance_agrees (hloaded.congr) ?_
        rw [reply_classRec, State.classRec_setClassRec, if_pos ⟨rfl, hc⟩]
        simp [ClassRec.reloaded]
  · exact reply_follows ..

theorem onUnloadClass_follows (link : Lane) (tag : Byte) (body : List Byte) (s : State) :
    Follows s (onUnloadClass link tag body s) := by
  refine withLength_follows ?_
  dsimp only
  split
  · exact reply_follows ..
  · split
    · exact reply_follows ..
    · rename_i hcheck
      refine Follows.trans (.of_agrees .of_same fun h => setClassRec_agrees h ?_) (reply_follows ..)
      exact recordFits_of_not_active h (fun e => hcheck (.inr (.inr e))) (by simp [ClassRec.emptyWith])
        (by simp [ClassRec.rankAt, ClassRec.emptyWith])

/-- A record with the roster, the cursor and the stage of the class fits it. -/
theorem recordFits_of_same (h : Agrees none f s) (hb : r.body = (s.classRec c).body) (hs : r.state = (s.classRec c).state)
    (hcur : r.cursor = (s.classRec c).cursor) : RecordFits s c r where
  packets := by
    rintro k rfl hk
    rw [hs]
    exact ⟨by rw [State.rankAt, ClassRec.rankAt, hb, ClassRec.rankAt], (h.fits k).active hk⟩
  ranks := by
    rintro k rfl hk
    have e : r.rankAt k.rank = s.rankAt k := by rw [State.rankAt, ClassRec.rankAt, hb, ClassRec.rankAt]
    rw [e]
    exact ⟨h.not_opened nofun hk, h.not_heldRank hk⟩
  waiting := by
    rintro u hu rfl
    obtain ⟨ha, hw, -⟩ := h.waiting u hu
    rw [hs, hb]
    exact ⟨ha, by rwa [ClassRec.rankAt, hb], rfl⟩
  done e := by
    rw [ClassRec.size, ClassRec.countOf, hb, hcur]
    exact h.doneClasses c (hs ▸ e)

theorem onLockClass_follows (link : Lane) (tag : Byte) (body : List Byte) (s : State) :
    Follows s (onLockClass link tag body s) := by
  refine withLength_follows ?_
  dsimp only
  split
  · exact reply_follows ..
  · split
    · exact reply_follows ..
    · refine Follows.trans (.of_agrees .of_same fun h => setClassRec_agrees h ?_) (reply_follows ..)
      exact recordFits_of_same h rfl rfl rfl

/-! ## Set Roster Mark (R13 to R16) -/

/-- A mark is taken for a rank that has no packet and whose key does not wait. -/
theorem markAllowed_rank (h : Agrees none f s) (hm : markAllowed k s m = true) :
    stateOf s k = none ∧ ∀ u ∈ s.unplaced, u.key ≠ k := by
  have clash : ∀ {x : RankState}, s.rankAt k = some x → x ≠ .waiting → ∀ u ∈ s.unplaced, u.key ≠ k := by
    rintro x hx hne u hu rfl
    exact hne (Option.some.inj (hx.symm.trans (h.waiting u hu).2.1))
  cases m with
  | excuse =>
    simp only [markAllowed, Bool.and_eq_true, decide_eq_true_eq, Bool.not_eq_true'] at hm
    obtain ⟨⟨hr, -⟩, hu⟩ := hm
    refine ⟨h.stateOf_eq_none hr, fun u hmem e => ?_⟩
    simp only [State.isUnplaced, List.any_eq_false, decide_eq_true_eq] at hu
    exact hu u hmem e
  | expect =>
    simp only [markAllowed, Bool.and_eq_true, decide_eq_true_eq] at hm
    refine ⟨?_, clash hm.1 (by decide)⟩
    by_contra hx
    obtain ⟨x, hx⟩ := Option.ne_none_iff_exists'.mp hx
    have := (h.fits k).rank x hx
    rw [hm.1] at this
    cases x <;> simp [PacketState.fitsRank] at this
  | retry =>
    simp only [markAllowed, Bool.and_eq_true, decide_eq_true_eq, Option.isNone_iff_eq_none] at hm
    exact ⟨packet_eq_none_iff.mp hm.2, clash hm.1 (by decide)⟩

/-- The class of a taken mark is not DONE after it: a DONE class has no rank that EXCUSE or EXPECT may take (R8, R14 to R16). -/
theorem markedRec_not_done (h : Agrees none f s) (hm : markAllowed k s m = true) (hk : k.rank < (s.classRec k.cls).size) :
    (markedRec (s.classRec k.cls) k.rank m).state ≠ .done := by
  intro hd
  have hdone : (s.classRec k.cls).state = .done ∧ m ≠ .retry := by
    unfold markedRec at hd
    dsimp only at hd
    split at hd
    · cases hd
    · rename_i hne
      exact ⟨hd, fun e => hne ⟨e, hd⟩⟩
  obtain ⟨hcur, hcount⟩ := h.doneClasses _ hdone.1
  cases m with
  | excuse =>
    simp only [markAllowed, Bool.and_eq_true, decide_eq_true_eq] at hm
    exact countOf_ne_zero hm.1.1 hcount
  | expect =>
    simp only [markAllowed, Bool.and_eq_true, decide_eq_true_eq] at hm
    omega
  | retry => exact hdone.2 rfl

theorem markedRec_fits (h : Agrees none f s) (hm : markAllowed k s m = true) (hk : k.rank < (s.classRec k.cls).size) :
    RecordFits s k.cls (markedRec (s.classRec k.cls) k.rank m) := by
  obtain ⟨hnone, hwait⟩ := markAllowed_rank h hm
  have hrank : ∀ j : Key, j.cls = k.cls → j ≠ k → (markedRec (s.classRec k.cls) k.rank m).rankAt j.rank = s.rankAt j := by
    intro j hj hne
    rw [rankAt_markedRec, if_neg, State.rankAt, hj]
    rintro ⟨e, -⟩
    exact hne (by cases j; cases k; simp_all)
  have hself : (markedRec (s.classRec k.cls) k.rank m).rankAt k.rank = some m.rankState
      ∨ (markedRec (s.classRec k.cls) k.rank m).rankAt k.rank = s.rankAt k := by
    rw [rankAt_markedRec]
    split
    · exact .inl rfl
    · exact .inr rfl
  have hactive : (s.classRec k.cls).state = .active → (markedRec (s.classRec k.cls) k.rank m).state = .active := by
    intro ha
    simp [markedRec, ha]
  refine ⟨fun j hj hst => ?_, fun j hj hst => ?_, fun u hu hj => ?_, fun e => absurd e (markedRec_not_done h hm hk)⟩
  · have hne : j ≠ k := fun e => hst (e ▸ hnone)
    exact ⟨hrank j hj hne, hactive (hj ▸ (h.fits j).active hst)⟩
  · have old : s.rankAt j ≠ some .opened ∧ s.rankAt j ≠ some .held := ⟨h.not_opened nofun hst, h.not_heldRank hst⟩
    by_cases hne : j = k
    · rw [hne]
      rcases hself with e | e <;> rw [e]
      · cases m <;> decide
      · exact hne ▸ old
    · rw [hrank j hj hne]
      exact old
  · obtain ⟨ha, hw, -⟩ := h.waiting u hu
    refine ⟨hactive (hj ▸ ha), by rw [hrank _ hj (hwait u hu)]; exact hw, ?_⟩
    simp [markedRec, ClassRec.withRank, Function.comp_def]

theorem applyMark_follows (link : Lane) (tag : Byte) (hc : k.cls < 48) (hm : markAllowed k s m = true)
    (hk : k.rank < (s.classRec k.cls).size) : Follows s (applyMark link tag m k s) := by
  unfold applyMark
  dsimp only
  rw [reopenDone_setRank hc]
  refine Follows.endEvent (.of_agrees (.trans .of_same (orderStep_timers ..)) fun h => ?_) _ _
  refine orderStep_agrees ((setClassRec_agrees h (markedRec_fits h hm hk)).congr) ?_ (.inl rfl)
  rw [reply_classRec, State.classRec_setClassRec, if_pos ⟨rfl, hc⟩]
  exact markedRec_not_done h hm hk

theorem onSetRosterMark_follows (link : Lane) (tag : Byte) (body : List Byte) (s : State) :
    Follows s (onSetRosterMark link tag body s) := by
  refine withLength_follows ?_
  dsimp only
  split
  · exact reply_follows ..
  · rename_i hc
    split
    · exact reply_follows ..
    · split
      · exact reply_follows ..
      · split
        · exact reply_follows ..
        · rename_i hsize
          split
          · rename_i hm
            exact applyMark_follows link tag (Nat.lt_of_not_le hc) hm (Nat.lt_of_not_le hsize)
          · exact reply_follows ..

/-! ## Close Class (R17) -/

theorem setClassRec_setUnplaced (c : Nat) (r : ClassRec) (v : List Waiting) (s : State) :
    (s.setClassRec c r).setUnplaced v = (s.setUnplaced v).setClassRec c r := by
  unfold State.setClassRec
  split <;> rfl

/-- Every waiting key of the class is abandoned (R17 step 3). -/
theorem not_mem_kept (h : Agrees none f s) {u : Waiting} (hu : u ∈ s.unplaced.filter fun u => !s.abandons c u.key) :
    u.key.cls ≠ c := by
  obtain ⟨hmem, hkept⟩ := List.mem_filter.mp hu
  rintro rfl
  have hun : s.isUnplaced u.key = true := List.any_eq_true.mpr ⟨u, hmem, by simp⟩
  simp [State.abandons, (h.waiting u hmem).2.1, hun] at hkept

/-- A closed record fits an ACTIVE class whose keys wait no more. -/
theorem closeRanks_fits (h : Agrees none f s) (hu : ∀ u ∈ s.unplaced, u.key.cls ≠ c) (hd : (s.classRec c).state ≠ .done) :
    RecordFits s c (s.classRec c).closeRanks where
  packets := by
    rintro k rfl hk
    refine ⟨?_, (h.fits k).active hk⟩
    obtain ⟨x, hx⟩ := Option.ne_none_iff_exists'.mp hk
    have hr := (h.fits k).rank x hx
    rw [rankAt_closeRanks, ← State.rankAt]
    cases hrank : s.rankAt k with
    | none => rfl
    | some y =>
      cases y with
      | waiting => cases x <;> simp [PacketState.fitsRank, hrank] at hr
      | _ => rfl
  ranks := by
    rintro k rfl hk
    rw [rankAt_closeRanks, ← State.rankAt]
    have h1 := h.not_opened nofun hk
    have h2 := h.not_heldRank hk
    cases hrank : s.rankAt k with
    | none => simp
    | some y => cases y <;> simp_all [RankState.closed]
  waiting u hmem e := absurd e (hu u hmem)
  done e := absurd e hd

/-- The advance of a class that is not DONE (R78). -/
theorem orderStep_follows (hd : (s.classRec c).state ≠ .done) : Follows s (orderStep c s) :=
  .of_agrees (orderStep_timers ..) fun h => orderStep_agrees h hd (.inl rfl)

theorem state_activate_ne_done (hd : (s.classRec c).state ≠ .done) : ((activate c s).classRec c).state ≠ .done := by
  rw [classRec_activate]
  split
  · exact nofun
  · exact hd

theorem closeClass_follows (hd : (s.classRec c).state ≠ .done) : Follows s (closeClass c s) := by
  have closed : Follows s (((activate c s).setClassRec c ((activate c s).classRec c).closeRanks).setUnplaced
      (s.unplaced.filter fun u => !s.abandons c u.key)) := by
    refine .of_agrees (.trans (activate_timers c s) .of_same) fun h => ?_
    have hkept := setUnplaced_agrees (activate_agrees h c) (v := s.unplaced.filter fun u => !s.abandons c u.key)
      (by simp)
    rw [setClassRec_setUnplaced]
    exact setClassRec_agrees hkept (closeRanks_fits hkept (fun u hu => not_mem_kept h hu) (state_activate_ne_done hd))
  have hunplaced : ((activate c s).setClassRec c ((activate c s).classRec c).closeRanks).unplaced = s.unplaced := by simp
  unfold closeClass
  dsimp only
  rw [hunplaced]
  exact closed.trans ((setQueue_follows ..).trans ((setQueue_follows ..).trans (evalHolds_follows _)))

theorem onCloseClass_follows (link : Lane) (tag : Byte) (body : List Byte) (s : State) :
    Follows s (onCloseClass link tag body s) := by
  refine withLength_follows ?_
  dsimp only
  split
  · exact reply_follows ..
  · rename_i hc
    split
    · exact reply_follows ..
    · rename_i hcheck
      have hd : (s.classRec (byteAt body 0)).state ≠ .done := fun e => hcheck (.inr e)
      refine Follows.endEvent ((closeClass_follows hd).trans ((reply_follows ..).trans (orderStep_follows ?_))) _ _
      rw [reply_classRec, classRec_closeClass (Nat.lt_of_not_le hc), if_pos rfl]
      exact state_activate_ne_done hd

end
end Sys2Proof.Tower

namespace Sys2Proof.Tower

open Sys2Proof.Machine Sys2Proof.Safety Sys2Proof.ClassTable Sys2Proof.Requests Sys2Proof.Events Sys2Proof.Lanes

/-! # Every command and every step keeps the tower's law and the timers' -/

section
variable {s t : State} {f : Option (Fin 24)} {k : Key} {n : Fin 24}

/-! ## The tables and the queries (R18 to R24, R154 to R159) -/

/-- A class that has an assignment keeps one when a record is loaded (R19). -/
theorem loadAssignment_agrees (h : Agrees none f s) (n : Fin 32) (a : Assignment) :
    Agrees none f (s.setTables { s.tables with assignments := put s.tables.assignments n (some a) }) := by
  refine { h with fits := fun k => { h.fits k with }, waiting := fun u hu => ?_ }
  obtain ⟨hactive, hw, hass⟩ := h.waiting u hu
  refine ⟨hactive, hw, ?_⟩
  rw [assignmentOf_eq, Option.isSome_iff_exists] at hass ⊢
  obtain ⟨b, hb⟩ := hass
  obtain ⟨i, hi, hib⟩ := Option.bind_eq_some_iff.mp hb
  refine ⟨if i.val = n.val then a else b, Option.bind_eq_some_iff.mpr ⟨i, hi, ?_⟩⟩
  rw [State.setTables_tables, put_getElem]
  grind

theorem onLoadAssignment_follows (link : Lane) (tag : Byte) (body : List Byte) (s : State) :
    Follows s (onLoadAssignment link tag body s) := by
  refine withLength_follows ?_
  split
  · exact reply_follows ..
  · exact Follows.trans (.of_agrees .of_same fun h => loadAssignment_agrees h _ _) (reply_follows ..)

theorem onLoadMedia_follows (link : Lane) (tag : Byte) (body : List Byte) (s : State) :
    Follows s (onLoadMedia link tag body s) := by
  refine withLength_follows ?_
  split
  · exact reply_follows ..
  · exact Follows.trans (t := s.setTables _) .of_same (reply_follows ..)

theorem applySettings_follows (v : Settings) (s : State) : Follows s (applySettings v s) := by
  unfold applySettings
  dsimp only
  have tables : Follows s (s.setTables { s.tables with settings := v }) := .of_same
  have supplied : ∀ u : State, Follows u (if v.cartridgeFull < u.fin.supply then setSupply v.cartridgeFull u else u) := fun u => by
    split
    · exact setSupply_follows ..
    · exact .refl u
  have reported : ∀ u : State, Follows u (if u.trayThreshold ≤ u.tray then raise .exceptionTrayFull u else u) := fun u => by
    split
    · exact raise_follows ..
    · exact .refl u
  split
  · exact tables.trans (supplied _)
  · exact tables.trans ((supplied _).trans ((reported _).trans (evalHolds_follows _)))

theorem onLoadSettings_follows (link : Lane) (tag : Byte) (body : List Byte) (s : State) :
    Follows s (onLoadSettings link tag body s) := by
  refine withLength_follows ?_
  split
  · exact reply_follows ..
  · dsimp only
    split
    · exact reply_follows ..
    · exact ((applySettings_follows ..).trans (reply_follows ..)).endEvent _ _

theorem onReadAttention_follows (link : Lane) (tag : Byte) (body : List Byte) (s : State) :
    Follows s (onReadAttention link tag body s) := by
  refine withLength_follows ?_
  split
  · exact Follows.trans (t := s.setFlags _) .of_same (reply_follows ..)
  · exact reply_follows ..

theorem onReadClass_follows (link : Lane) (tag : Byte) (body : List Byte) (s : State) :
    Follows s (onReadClass link tag body s) := by
  refine withLength_follows ?_
  split <;> exact reply_follows ..

theorem onReadSlot_follows (link : Lane) (tag : Byte) (body : List Byte) (s : State) :
    Follows s (onReadSlot link tag body s) := by
  refine withLength_follows ?_
  split <;> exact reply_follows ..

theorem onReadBin_follows (link : Lane) (tag : Byte) (body : List Byte) (s : State) :
    Follows s (onReadBin link tag body s) := by
  refine withLength_follows ?_
  split <;> exact reply_follows ..

theorem onReadStatus_follows (link : Lane) (tag : Byte) (body : List Byte) (s : State) :
    Follows s (onReadStatus link tag body s) :=
  withLength_follows (reply_follows ..)

/-! ## Frames and bytes (R141 to R143) -/

theorem handOver_follows (k : DownKind) (link : Lane) (tag : Byte) (body : List Byte) (s : State) :
    Follows s (handOver k link tag body s) := by
  cases k with
  | sheetAnnounce => exact onSheetAnnounce_follows ..
  | loadClass => exact onLoadClass_follows ..
  | unloadClass => exact onUnloadClass_follows ..
  | lockClass => exact onLockClass_follows ..
  | setRosterMark => exact onSetRosterMark_follows ..
  | closeClass => exact onCloseClass_follows ..
  | loadAssignment => exact onLoadAssignment_follows ..
  | loadMedia => exact onLoadMedia_follows ..
  | loadBin => exact onLoadBin_follows ..
  | loadSettings => exact onLoadSettings_follows ..
  | laneClear => exact onLaneClear_follows ..
  | finisherClear => exact onFinisherClear_follows ..
  | suspendFinishing => exact onSuspendFinishing_follows ..
  | resumeFinishing => exact onResumeFinishing_follows ..
  | fenceSlot => exact onFenceSlot_follows ..
  | unfenceSlot => exact onUnfenceSlot_follows ..
  | purge => exact onPurge_follows ..
  | readAttention => exact onReadAttention_follows ..
  | readClass => exact onReadClass_follows ..
  | readSlot => exact onReadSlot_follows ..
  | readBin => exact onReadBin_follows ..
  | readStatus => exact onReadStatus_follows ..

theorem testKind_follows (link : Lane) (kind tag : Byte) (body : List Byte) (s : State) :
    Follows s (testKind link kind tag body s) := by
  unfold testKind
  split
  · exact handOver_follows ..
  · exact reply_follows ..

theorem completeFrame_follows (link : Lane) (bytes : List Byte) (s : State) : Follows s (completeFrame link bytes s) := by
  unfold completeFrame
  dsimp only
  split
  · exact testKind_follows ..
  · exact raise_follows ..

theorem onByte_follows (link : Lane) (b : Byte) (s : State) : Follows s (onByte link b s) := by
  unfold onByte
  split
  · split
    · exact setRx_follows ..
    · exact .refl s
  · unfold takeByte
    dsimp only
    split
    · exact setRx_follows ..
    · split
      · exact setRx_follows ..
      · exact (setRx_follows ..).trans (completeFrame_follows ..)

theorem onFrameGap_follows (link : Lane) (s : State) : Follows s (onFrameGap link s) := by
  unfold onFrameGap
  split
  · exact .refl s
  · exact (setRx_follows ..).trans (raise_follows ..)

theorem onFrameSent_follows (link : Lane) (s : State) : Follows s (onFrameSent link s) := by
  unfold onFrameSent
  exact .of_same

/-! ## Every command -/

/-- Every command but power-on keeps the laws. -/
theorem exec_follows {i : Instr} (h : exec i s = .next t) (hi : i ≠ .powerOn) : Follows s t := by
  have frame : ∀ (k : DownKind) (link : Lane) (tag : Byte) (body : List Byte),
      Follows s (handOver k link tag body (frameCompleted link s)) := fun k link tag body =>
    (frameCompleted_follows ..).trans (handOver_follows ..)
  have event : ∀ {u : State}, Follows (beginEvent s) u → Follows s u := (beginEvent_follows s).trans
  cases i with
  | powerOn => exact absurd rfl hi
  | sheetAnnounce link body => cases h; exact frame .sheetAnnounce link 0#8 body
  | loadClass link tag body => cases h; exact frame .loadClass link tag body
  | unloadClass link tag body => cases h; exact frame .unloadClass link tag body
  | lockClass link tag body => cases h; exact frame .lockClass link tag body
  | setRosterMarkExcuse link tag fields => cases h; exact frame .setRosterMark link tag _
  | setRosterMarkExpect link tag fields => cases h; exact frame .setRosterMark link tag _
  | setRosterMarkRetry link tag fields => cases h; exact frame .setRosterMark link tag _
  | closeClass link tag body => cases h; exact frame .closeClass link tag body
  | loadAssignment link tag body => cases h; exact frame .loadAssignment link tag body
  | loadMedia link tag body => cases h; exact frame .loadMedia link tag body
  | loadSettings link tag body => cases h; exact frame .loadSettings link tag body
  | loadBin link tag body => cases h; exact frame .loadBin link tag body
  | laneClear link tag body => cases h; exact frame .laneClear link tag body
  | finisherClearRetry link tag fields => cases h; exact frame .finisherClear link tag _
  | finisherClearRemoved link tag fields => cases h; exact frame .finisherClear link tag _
  | fenceSlot link tag body => cases h; exact frame .fenceSlot link tag body
  | unfenceSlot link tag body => cases h; exact frame .unfenceSlot link tag body
  | suspendFinishing link tag body => cases h; exact frame .suspendFinishing link tag body
  | resumeFinishing link tag body => cases h; exact frame .resumeFinishing link tag body
  | purge link tag body => cases h; exact frame .purge link tag body
  | readClass link tag body => cases h; exact frame .readClass link tag body
  | readSlot link tag body => cases h; exact frame .readSlot link tag body
  | readBin link tag body => cases h; exact frame .readBin link tag body
  | readAttention link tag body => cases h; exact frame .readAttention link tag body
  | readStatus link tag body => cases h; exact frame .readStatus link tag body
  | badCheckFrame link => cases h; exact (frameCompleted_follows ..).trans (raise_follows ..)
  | unknownKindFrame link kind tag body => cases h; exact (frameCompleted_follows ..).trans (testKind_follows ..)
  | frameGapExpiry link => cases h; exact event (onFrameGap_follows ..)
  | frameSent link => cases h; exact event (onFrameSent_follows ..)
  | laneEntry l => cases h; exact event ((setStamp_follows ..).trans (onLaneEntry_follows ..))
  | laneJam l => cases h; exact event (onLaneJam_follows ..)
  | transitTimerExpiry l => cases h; exact event (onTransitExpiry_follows ..)
  | collectionTimerExpiry n => cases h; exact event (onCollectionExpiry_follows ..)
  | transferDone => cases h; exact event (onTransferDone_follows _)
  | jogDone => cases h; exact event (onJogDone_follows _)
  | stapleDone => cases h; exact event (onStapleDone_follows _)
  | stapleMisfire => cases h; exact event (onMisfire_follows _)
  | ejectDone => cases h; exact event (onEjectDone_follows _)
  | finisherJam => cases h; exact event (enterUnitFault_follows ..)
  | stageLimitExpiry => cases h; exact event (onStageLimit_follows _)
  | binFull b => cases h; exact event (setBin_follows ..)
  | binRemoved b => cases h; exact event (setBin_follows ..)
  | binReplaced b => cases h; exact event (onBinReplaced_follows ..)
  | exceptionTrayEmptied => cases h; exact event (onTrayEmptied_follows _)
  | cartridgeInserted => cases h; exact event (onCartridgeInserted_follows _)
  | take => cases h; exact event (selectionPass_follows _)
  | slotGift n => cases h; exact event (onSlotGift_follows ..)
  | purgeCompletion => cases h; exact event (purgeTest_follows _)
  | byteReceived link b => cases h; exact event (onByte_follows ..)

/-- A step keeps the laws from the state it begins in, or, at power-on, from the reset state. -/
theorem step_follows (h : step s = .next t) : ∃ s', (s' = s ∨ s' = State.reset) ∧ Follows s' t := by
  have wait : ∀ (u : State) v, Follows u (u.setPending v) := fun u v => .of_same
  unfold step at h
  split at h
  · cases h
    exact ⟨s, .inl rfl, passTime_follows s⟩
  · rename_i i rest _
    by_cases hi : i = .powerOn
    · subst hi
      cases h
      exact ⟨State.reset, .inr rfl, wait ..⟩
    · exact ⟨s, .inl rfl, (wait ..).trans (exec_follows h hi)⟩

/-- A law that `Follows` carries over, and that holds at reset, is kept by every step. -/
theorem law_of_step_follows {P : State → Prop} (hreset : P State.reset) (hfollows : ∀ s t, Follows s t → P s → P t)
    (hs : P s) (h : step s = .next t) : P t := by
  obtain ⟨s', rfl | rfl, hk⟩ := step_follows h
  · exact hfollows _ t hk hs
  · exact hfollows _ t hk hreset

/-! ## The bounds of the tower (R49, R51, R84, R108) -/

/-- Keys that each have a slot are at most as many as the slots (R49). -/
theorem length_le_slots (h : Agrees none none s) {ks : List Key} (hks : ks.Nodup) (hslot : ∀ k ∈ ks, (s.slotOf k).isSome) :
    ks.length ≤ 24 := by
  have hinj : (ks.map s.slotOf).Nodup := by
    refine List.Nodup.map_on (fun j hj k _ e => ?_) hks
    obtain ⟨n, hn⟩ := Option.isSome_iff_exists.mp (hslot j hj)
    exact h.slotOf_inj hn (e ▸ hn)
  have hsub : ks.map s.slotOf ⊆ (List.finRange 24).map some := by
    intro x hx
    obtain ⟨k, hk, rfl⟩ := List.mem_map.mp hx
    obtain ⟨n, hn⟩ := Option.isSome_iff_exists.mp (hslot k hk)
    exact hn ▸ List.mem_map_of_mem (List.mem_finRange n)
  simpa using (hinj.subperm hsub).length_le

/-- A packet that is not the current one has a slot (R53). -/
theorem slotOf_isSome_of_state (h : Agrees none none s) {x : PacketState} (hk : stateOf s k = some x) (hx : x ≠ .finishing) :
    (s.slotOf k).isSome := by
  cases hn : s.slotOf k with
  | none => exact absurd ((h.fits k).gone x hk hn) hx
  | some n => rfl

/-- At most one packet has no slot: the current one (R106, R108). -/
theorem length_packets_le (h : Agrees none none s) : s.packets.length ≤ 25 := by
  have hnodup : (s.packets.map Packet.key).Nodup := h.rise.imp fun hb e => by simp [Key.below, e] at hb
  have slotted : ∀ k ∈ s.packets.map Packet.key, s.fin.current.map Current.key ≠ some k → (s.slotOf k).isSome := by
    intro k hk hcur
    obtain ⟨p, hp, rfl⟩ := List.mem_map.mp hk
    have hx := stateOf_of_packet (h.rise.packet hp)
    exact slotOf_isSome_of_state h hx fun e => hcur ((h.fits p.key).current.mpr (e ▸ hx))
  cases hc : s.fin.current with
  | none =>
    have := length_le_slots h hnodup fun k hk => slotted k hk (by simp [hc])
    simp only [List.length_map] at this
    omega
  | some c =>
    have := length_le_slots h (hnodup.erase c.key) fun k hk => by
      obtain ⟨hne, hmem⟩ := hnodup.mem_erase_iff.mp hk
      exact slotted k hmem (by simpa [hc] using Ne.symm hne)
    have := List.le_length_erase (l := s.packets.map Packet.key) (a := c.key)
    simp only [List.length_map] at *
    omega

end

/-! ## The obligations -/

/-- Settles O9: every step carries both laws over, and both hold at power-on. -/
theorem everyStepKeepsTheTimers : Obligations.EveryStepKeepsTheTimers := by
  obtain ⟨-, -, -, -, hstage, -, -, htimers, -⟩ := resetSatisfiesTheLaws
  exact ⟨fun s t => law_of_step_follows htimers fun _ _ h => h.timers, fun s t => law_of_step_follows hstage fun _ _ h => h.stage⟩

/-- Settles O10: every step carries the law over, which holds at power-on; the bounds follow from the slots, of which each packet but
the current one has one to itself. -/
theorem everyStepKeepsTheTower : Obligations.EveryStepKeepsTheTower := by
  obtain ⟨-, -, -, -, -, -, -, -, -, htower, -⟩ := resetSatisfiesTheLaws
  refine ⟨fun s t => law_of_step_follows htower fun _ _ h => h.tower, fun s hs => ?_⟩
  have h := agrees_of_towerKept hs
  refine ⟨length_packets_le h, ?_, ?_, fun p hp q hq e => ?_⟩
  · exact length_le_slots h h.heldOnce fun k hk => slotOf_isSome_of_state h ((h.fits k).held.mp hk) (by decide)
  · have := length_le_slots h h.queuedOnce fun k hk => slotOf_isSome_of_state h ((h.fits k).queued.mp hk) (by decide)
    simpa using this
  · have hpq := h.rise.packet hp
    rw [e, h.rise.packet hq] at hpq
    exact (Option.some.inj hpq).symm

end Sys2Proof.Tower

namespace Sys2Proof.Tower

open Sys2Proof.Machine Sys2Proof.Safety Sys2Proof.ClassTable Sys2Proof.Requests Sys2Proof.Events Sys2Proof.Lanes

/-! # The collection expiry (R68, R69) -/

section
variable {s t u v : State} {k : Key} {n : Fin 24} {p q : Packet} {ms : Nat}

/-- A packet as its collection expiry leaves it, before it moves (R69). -/
def staled (p : Packet) : Packet := { p with timer := .stopped, flags := { p.flags with stale := true } }

/-- The state in which the tower queues a stale packet. -/
def timedOut (k : Key) (s : State) : State := updatePacket k staled (beginEvent s)

theorem packet_timedOut (k j : Key) (s : State) :
    (timedOut k s).packet j = if j = k then (s.packet k).map staled else s.packet j := by
  have hb : ∀ j, (beginEvent s).packet j = s.packet j := packet_congr (by simp)
  rw [timedOut, packet_updatePacket (f := staled) _ _ _ fun _ => rfl, hb, hb]

theorem slotOf_timedOut (k j : Key) (s : State) : (timedOut k s).slotOf j = s.slotOf j := by
  rw [slotOf_eq, slotOf_eq, packet_timedOut]
  split
  · rename_i e
    rw [e]
    cases s.packet k <;> rfl
  · rfl

theorem onlyChanges_timedOut (k : Key) (s : State) : OnlyChanges [.actions, .packets] s (timedOut k s) :=
  OnlyChanges.append (onlyChanges_beginEvent s) (onlyChanges_updatePacket k staled _)

/-- A timer that does not run cannot expire (log entry 2). -/
theorem onCollectionExpiry_of_not_running (h : ∀ p ms, s.packetIn n = some p → p.timer ≠ .running ms) :
    onCollectionExpiry n s = s := by
  unfold onCollectionExpiry
  split
  · rename_i p hp
    have hstill := h p
    cases ht : p.timer with
    | running ms => exact absurd ht (hstill ms hp)
    | stopped => rfl
    | frozen _ => rfl
  · rfl

theorem onCollectionExpiry_of_running (hp : s.packetIn n = some p) (ht : p.timer = .running ms) :
    onCollectionExpiry n (beginEvent s) = endEvent (beginEvent s) { relief := false, purge := false, pass := false }
      (raise .packetStale (orderStep p.key.cls (trayQueued p.key (timedOut p.key s)))) := by
  have hp' : (beginEvent s).packetIn n = some p := (packetIn_congr (by simp) (by simp) n).trans hp
  rw [onCollectionExpiry, hp']
  simp only [ht, CollectTimer.isRunning, if_true]
  rfl

/-- Where a packet has joined a queue and no other list has grown, the selection pass ends the event (R109). -/
theorem endEvent_of_only_queued (hg : giftedSince s u = false) (hh : u.held ⊆ s.held) (hq : queuedSince s u = true) :
    endEvent s { relief := false, purge := false, pass := false } u = selectionPass u := by
  simp [endEvent, hg, heldSince_eq_false hh, hq]

theorem queuedSince_of_prefix {z : Queued} (hz : z ∉ s.queued) (h : s.queued ++ [z] <+: u.queued) : queuedSince s u = true :=
  List.any_eq_true.mpr ⟨z, h.subset (by simp), by simpa using hz⟩

/-- A stale packet joins the normal queue and its rank is MISSED (R69). -/
theorem trayQueued_timedOut (hs : TowerKept s) (hp : s.packetIn n = some p) (hx : p.state = .collecting) :
    HandedOn p.key n { staled p with state := .queued } .queued .missed (timedOut p.key s)
      (trayQueued p.key (timedOut p.key s)) := by
  obtain ⟨hpacket, hplace, g, i, hslot, hfit⟩ := slot_of_packetIn hs hp
  rw [hx] at hfit
  cases hfit
  have hb : (timedOut p.key s).packet p.key = some (staled p) := by rw [packet_timedOut, if_pos rfl, hpacket]; rfl
  have hrank : ((timedOut p.key s).rankAt p.key).isSome = true := by
    rw [rankAt_congr (s := s) (by simp [timedOut])]
    exact (agrees_of_towerKept hs).rank_isSome hpacket
  exact (trayQueued_moved hb hplace ((slot_congr (by simp [timedOut]) n).trans hslot) hrank).handedOn hb hplace

/-- The state that the selection pass of a collection expiry finds (R69). -/
def afterExpiry (k : Key) (s : State) : State := raise .packetStale (cursorAdvance k.cls (trayQueued k (timedOut k s)))

theorem queued_afterExpiry (k : Key) (s : State) :
    s.queued ++ [{ queue := .normal, key := k }] <+: (afterExpiry k s).queued := by
  refine List.IsPrefix.trans ?_ (cursorAdvance_releases k.cls (trayQueued k (timedOut k s))).queue
  simp [trayQueued, joinFinishing, timedOut]

theorem held_afterExpiry (k : Key) (s : State) : (afterExpiry k s).held ⊆ s.held :=
  List.Subset.trans (cursorAdvance_releases k.cls (trayQueued k (timedOut k s))).held (by simp [trayQueued, timedOut])

/-- What the advance leaves of a stale packet and of the others (R69, R79). -/
theorem afterExpiry_handedOn (hs : TowerKept s) (hp : s.packetIn n = some p) (hx : p.state = .collecting) :
    HandedOn p.key n { staled p with state := .queued } .queued .missed (timedOut p.key s)
      (cursorAdvance p.key.cls (trayQueued p.key (timedOut p.key s))) := by
  refine (trayQueued_timedOut hs hp hx).releases (by decide) (fun j hj => ?_) (cursorAdvance_releases ..)
  have h := agrees_of_towerKept hs
  obtain ⟨hpacket, hplace⟩ := h.packet_of_packetIn hp
  rw [slotOf_timedOut] at hj
  exact h.slotOf_inj hj ((slotOf_of_packet hpacket).trans hplace)

theorem exec_collectionTimerExpiry (hs : TowerKept s) (hp : s.packetIn n = some p) (ht : p.timer = .running ms)
    (hx : p.state = .collecting) : exec (.collectionTimerExpiry n) s = .next (selectionPass (afterExpiry p.key s)) := by
  have hpacket := (slot_of_packetIn hs hp).1
  have hnotq := (not_listed_of_collecting hs hpacket hx).1
  have hold : ∀ j, (beginEvent s).packet j = s.packet j := packet_congr (by simp)
  refine congrArg Host.Outcome.next ?_
  rw [onCollectionExpiry_of_running hp ht, orderStep_of_packet (trayQueued_timedOut hs hp hx).packet]
  refine endEvent_of_only_queued (giftedSince_eq_false fun j hj => ?_) ?_
    (queuedSince_of_prefix (z := { queue := .normal, key := p.key }) ?_ ?_)
  · rw [packet_congr (t := raise _ _) (s := cursorAdvance p.key.cls (trayQueued p.key (timedOut p.key s))) rfl,
      (afterExpiry_handedOn hs hp hx).known, packet_timedOut] at hj
    rw [hold]
    split at hj
    · rename_i e
      rw [e, hpacket]
      rfl
    · exact hj
  · exact held_afterExpiry p.key s
  · simpa using fun hm => hnotq _ hm rfl
  · exact queued_afterExpiry p.key s

/-- Settles O43: the packet is handed on as `afterExpiry_handedOn` says, and a selection pass ends the event. -/
theorem collectionExpiryMakesThePacketStale : Obligations.CollectionExpiryMakesThePacketStale := by
  intro n s
  refine ⟨fun h => ⟨beginEvent s, ?_, rfl, onlyChanges_beginEvent s⟩, fun p ms hs hp ht => ?_⟩
  · refine congrArg Host.Outcome.next (onCollectionExpiry_of_not_running fun p ms hp => h p ms ?_)
    exact (packetIn_congr (t := beginEvent s) (by simp) (by simp) n).symm.trans hp
  have hpacket := (slot_of_packetIn hs hp).1
  have hx : p.state = .collecting := (hs.packets p (mem_of_packet hpacket).1).timer (by simp [ht])
  have hv := afterExpiry_handedOn hs hp hx
  obtain ⟨v, hadvanced⟩ : ∃ v, v = cursorAdvance p.key.cls (trayQueued p.key (timedOut p.key s)) := ⟨_, rfl⟩
  have hafter : afterExpiry p.key s = raise .packetStale v := by rw [afterExpiry, hadvanced]
  rw [← hadvanced] at hv
  have hpackets : ∀ j, (afterExpiry p.key s).packet j = v.packet j := packet_congr (by simp [hafter])
  have hranks : ∀ j, (afterExpiry p.key s).rankAt j = v.rankAt j := rankAt_congr (by simp [hafter])
  have hold : ∀ j, (timedOut p.key s).rankAt j = s.rankAt j := rankAt_congr (by simp [timedOut])
  have kept : ∀ j, j ≠ p.key → j.cls ≠ p.key.cls ∨ s.rankAt j ≠ some .held →
      (afterExpiry p.key s).packet j = s.packet j ∧ (afterExpiry p.key s).rankAt j = s.rankAt j := fun j hj hfree => by
    rw [← hold] at hfree
    rw [hpackets, hranks, hv.packets j hj hfree, hv.ranks j hj hfree, packet_timedOut, if_neg hj, hold]
    exact ⟨rfl, rfl⟩
  have hparts := OnlyChanges.append (onlyChanges_timedOut p.key s) (OnlyChanges.append hv.parts (onlyChanges_raise .packetStale _))
  refine ⟨afterExpiry p.key s, exec_collectionTimerExpiry hs hp ht hx, (hpackets _).trans hv.packet, ?_, (hranks _).trans hv.rank,
    queued_afterExpiry .., ?_, ?_, fun k hk => kept k (fun e => hk (by rw [e])) (.inl hk), fun k hk hr => kept k hk (.inr hr),
    hafter ▸ hparts.mono (by simp)⟩
  · obtain ⟨m, hb, hu⟩ := hv.slot
    exact ⟨m, (slot_congr (t := timedOut p.key s) (by simp [timedOut]) n).symm.trans hb,
      (slot_congr (by simp [hafter]) n).trans hu⟩
  · have hflags : v.flags = s.flags := (hv.parts .flags (by simp)).trans (by simp [timedOut])
    rw [hafter, raise, State.setFlags_flags, hflags]
    rfl
  · have hactions : v.actions = [] := (hv.parts .actions (by simp)).trans (by simp [timedOut, beginEvent])
    rw [hafter, ← hactions]
    simp

end
end Sys2Proof.Tower

namespace Sys2Proof.Tower

open Sys2Proof.Machine Sys2Proof.Safety Sys2Proof.ClassTable Sys2Proof.Requests Sys2Proof.Events Sys2Proof.Lanes

/-! # Fences and gifts (R58, R59, R71, R72) -/

section
variable {s t u v : State} {k : Key} {n m : Fin 24} {l : Lane} {tag b : Byte} {w : Waiting} {rest : List Waiting} {a : Assignment}
  {g : SlotHold} {i : Bool}

/-! ## The two requests, by the state of the slot -/

theorem onFenceSlot_of_le (hb : 24 ≤ b.toNat) (s : State) : onFenceSlot l tag [b] s = reply l tag .field 0x24#8 [] s := by
  simp [onFenceSlot, withLength, DownKind.bodyLength, byteAt_zero, finOf_of_le hb, DownKind.code]

theorem onUnfenceSlot_of_le (hb : 24 ≤ b.toNat) (s : State) : onUnfenceSlot l tag [b] s = reply l tag .field 0x25#8 [] s := by
  simp [onUnfenceSlot, withLength, DownKind.bodyLength, byteAt_zero, finOf_of_le hb, DownKind.code]

section
variable (hn : n.val = b.toNat)
include hn

theorem onFenceSlot_of_free (hs : s.slot n = .free) : onFenceSlot l tag [b] s
    = endEvent s { relief := true, purge := false, pass := false } (reply l tag .ok 0x24#8 [] (setSlot n .fenced s)) := by
  simp [onFenceSlot, withLength, DownKind.bodyLength, byteAt_zero, finOf_eq_some.mpr hn.symm, hs, DownKind.code]

theorem onFenceSlot_of_occupied (hs : s.slot n = .occupied g i k) :
    onFenceSlot l tag [b] s = reply l tag .ok 0x24#8 [] (setSlot n (.occupied g true k) s) := by
  simp [onFenceSlot, withLength, DownKind.bodyLength, byteAt_zero, finOf_eq_some.mpr hn.symm, hs, DownKind.code]

theorem onFenceSlot_of_fenced (hs : s.slot n = .fenced) : onFenceSlot l tag [b] s = reply l tag .state 0x24#8 [] s := by
  simp [onFenceSlot, withLength, DownKind.bodyLength, byteAt_zero, finOf_eq_some.mpr hn.symm, hs, DownKind.code]

theorem onUnfenceSlot_of_fenced (hs : s.slot n = .fenced) : onUnfenceSlot l tag [b] s
    = endEvent s { relief := false, purge := false, pass := false }
        (reply l tag .ok 0x25#8 [] (allocate n (setSlot n .free s))) := by
  simp [onUnfenceSlot, withLength, DownKind.bodyLength, byteAt_zero, finOf_eq_some.mpr hn.symm, hs, DownKind.code]

theorem onUnfenceSlot_of_pending (hs : s.slot n = .occupied g true k) :
    onUnfenceSlot l tag [b] s = reply l tag .ok 0x25#8 [] (setSlot n (.occupied g false k) s) := by
  simp [onUnfenceSlot, withLength, DownKind.bodyLength, byteAt_zero, finOf_eq_some.mpr hn.symm, hs, DownKind.code]

theorem onUnfenceSlot_of_not_fenced (hs : s.slot n = .free ∨ ∃ g k, s.slot n = .occupied g false k) :
    onUnfenceSlot l tag [b] s = reply l tag .state 0x25#8 [] s := by
  obtain hs | ⟨g, k, hs⟩ := hs <;>
    simp [onUnfenceSlot, withLength, DownKind.bodyLength, byteAt_zero, finOf_eq_some.mpr hn.symm, hs, DownKind.code]

end

/-- A taken request that gives one slot a state and answers OK. -/
theorem reply_setSlot_answers (l : Lane) (tag kind : Byte) (n : Fin 24) (x : Slot) (s : State) :
    let t := reply l tag .ok kind [] (setSlot n x (frameCompleted l s))
    t.actions = [] ∧ Answers l tag .ok kind [] s t ∧ OnlyChanges [.link l, .slots, .actions] s t
      ∧ ∀ m, t.slot m = if m = n then x else s.slot m := by
  refine ⟨by simp, answers_reply (by simp) (by simp) .., ?_, fun m => ?_⟩
  · exact (OnlyChanges.append (onlyChanges_frameCompleted l s)
      (OnlyChanges.append (onlyChanges_setSlots _ _) (onlyChanges_reply l tag .ok kind [] _))).mono (by simp)
  · rw [slot_congr (s := setSlot n x (frameCompleted l s)) (by simp), slot_setSlot, slot_congr (s := s) (by simp)]

/-! ## The gift (R58, R59) -/

/-- Where its class is ACTIVE and at rest, a packet's creation is one change of its key and slot (R55, R79). -/
theorem createPacket_of_active (hk : ClassKept (s.classRec k.cls)) (ha : (s.classRec k.cls).state = .active)
    (hw : s.rankAt k = some .waiting) (hp : s.packet k = none) (n : Fin 24) (a : Assignment) (jobTag : BitVec 16) :
    createPacket k n a jobTag s = created k n a jobTag s := by
  obtain ⟨hshape, hrest⟩ := (classKept_iff _).mp hk
  have hrec : (created k n a jobTag s).classRec k.cls = (s.classRec k.cls).withRank k.rank .opened := by
    rw [classRec_created k n a jobTag s (lt_of_rankAt hw), if_pos rfl, if_neg (by rw [ha]; decide)]
    rfl
  have hnew : (created k n a jobTag s).packet k = some (newPacket k (s.classRec k.cls).generation n a jobTag) := by
    rw [packet_created hp, if_pos rfl]
  rw [createPacket_eq_orderStep]
  refine orderStep_of_atRest (hrec ▸ hshape.withRank (.inr (by decide))) (hrec ▸ hrest.withRank (.inr (.inr rfl)))
    (mem_of_packet hnew).1 rfl

/-- A key that may be given a slot. -/
structure MayWait (s : State) (w : Waiting) : Prop where
  rank : s.rankAt w.key = some .waiting
  active : (s.classRec w.key.cls).state = .active
  kept : ClassKept (s.classRec w.key.cls)
  assigned : (s.assignmentOf w.key.cls).isSome
  unknown : s.packet w.key = none

/-- From `s` to `u` the first waiting key has been given the slot (R59). -/
structure Gifted (n : Fin 24) (w : Waiting) (rest : List Waiting) (s u : State) : Prop where
  slot : u.slot n = .occupied .collecting false w.key
  rank : u.rankAt w.key = some .opened
  unplaced : u.unplaced = rest
  packet : ∃ p, u.packet w.key = some p ∧ p.slot = some n ∧ p.jobTag = w.jobTag ∧ some p.snapshot = s.assignmentOf w.key.cls
    ∧ p.sheetsHeld = 0 ∧ p.state = .collecting
  held : u.held = s.held
  queued : u.queued = s.queued
  fin : u.fin = s.fin
  queues : ∀ m, (u.lane m).queue = (s.lane m).queue.map fun e =>
    if e.key = w.key ∧ e.verdict = .unplaced then { e with verdict := .place n } else e

theorem given_eq (k : Key) (n : Fin 24) :
    Entry.given k n = fun e => if e.key = k ∧ e.verdict = .unplaced then { e with verdict := .place n } else e := by
  funext e
  simp [Entry.given, Entry.waitsFor]

/-- The allocator gives a slot to the first waiting key (R59). -/
theorem allocate_gifted (hu : s.unplaced = w :: rest) (hw : MayWait s w) (n : Fin 24) : Gifted n w rest s (allocate n s) := by
  obtain ⟨a, ha⟩ := Option.isSome_iff_exists.mp hw.assigned
  have hcreate := createPacket_of_active (s := s.setUnplaced rest) hw.kept hw.active hw.rank hw.unknown n a w.jobTag
  have halloc := allocate_cons hu ha n
  rw [hcreate] at halloc
  have hpackets : ∀ j, (allocate n s).packet j = (created w.key n a w.jobTag (s.setUnplaced rest)).packet j :=
    packet_congr (by simp [halloc])
  have hnew : (allocate n s).packet w.key
      = some (newPacket w.key ((s.setUnplaced rest).classRec w.key.cls).generation n a w.jobTag) := by
    rw [hpackets, packet_created (s := s.setUnplaced rest) hw.unknown, if_pos rfl]
  refine
    { slot := ?_, rank := ?_, unplaced := by simp [halloc, created], packet := ⟨_, hnew, rfl, rfl, ha.symm, rfl, rfl⟩
      held := by simp [halloc, created], queued := by simp [halloc, created], fin := by simp [halloc, created], queues := fun m => ?_ }
  · rw [slot_congr (s := created w.key n a w.jobTag (s.setUnplaced rest)) (by simp [halloc]), slot_created, if_pos rfl]
  · have hrank : ((s.setUnplaced rest).rankAt w.key).isSome = true := Option.isSome_iff_exists.mpr ⟨_, hw.rank⟩
    rw [rankAt_congr (s := created w.key n a w.jobTag (s.setUnplaced rest)) (by simp [halloc]), rankAt_created hrank, if_pos rfl]
  · rw [halloc, (giveLane_lane w.key n .b m _).1, (giveLane_lane w.key n .a m _).1, ← given_eq]
    cases m <;> simp [created]

/-- What a gift gives is read in the parts named here (R59). -/
theorem Gifted.congr (h : Gifted n w rest s u) (hs : v.slots = u.slots := by simp) (hc : v.classes = u.classes := by simp)
    (hu : v.unplaced = u.unplaced := by simp) (hp : v.packets = u.packets := by simp) (hh : v.held = u.held := by simp)
    (hq : v.queued = u.queued := by simp) (hf : v.fin = u.fin := by simp) (hl : ∀ m, v.lane m = u.lane m := by simp) :
    Gifted n w rest s v where
  slot := (slot_congr hs n).trans h.slot
  rank := (rankAt_congr hc _).trans h.rank
  unplaced := hu.trans h.unplaced
  packet := by
    rw [packet_congr hp]
    exact h.packet
  held := hh.trans h.held
  queued := hq.trans h.queued
  fin := hf.trans h.fin
  queues m := by rw [hl, h.queues]

/-- What a gift is measured against may be any state with the same tables, classes, lists and queues. -/
theorem Gifted.since (h : Gifted n w rest t u) (hc : t.classes = s.classes := by simp) (ht : t.tables = s.tables := by simp)
    (hh : t.held = s.held := by simp) (hq : t.queued = s.queued := by simp) (hf : t.fin = s.fin := by simp)
    (hl : ∀ m, (t.lane m).queue = (s.lane m).queue := by simp) : Gifted n w rest s u :=
  { h with
    packet := by
      rw [← assignmentOf_congr hc (by rw [ht])]
      exact h.packet
    held := h.held.trans hh, queued := h.queued.trans hq, fin := h.fin.trans hf
    queues := fun m => by rw [h.queues, hl] }

/-- A key that may wait before an event, may wait where the event has reached its gift. -/
theorem MayWait.congr (h : MayWait s w) (hc : t.classes = s.classes := by simp) (ht : t.tables = s.tables := by simp)
    (hp : t.packets = s.packets := by simp) : MayWait t w where
  rank := (rankAt_congr hc _).trans h.rank
  active := by rw [classRec_congr hc]; exact h.active
  kept := by rw [classRec_congr hc]; exact h.kept
  assigned := by rw [assignmentOf_congr hc (by rw [ht])]; exact h.assigned
  unknown := (packet_congr hp _).trans h.unknown

/-- Relief is tried after a gift (R86). -/
theorem Gifted.endsWithRelief (h : Gifted n w rest s u) (hu : t.unplaced = w :: rest) (hnew : t.packet w.key = none)
    (hq : u.queued = t.queued) :
    EndsWithRelief u (.next (endEvent t { relief := false, purge := false, pass := false } u)) := by
  obtain ⟨p, hp, -⟩ := h.packet
  have hgift : giftedSince t u = true := by simp [giftedSince, hu, hnew, hp]
  exact Lanes.endsWithRelief (by simp [hgift]) hq nofun

/-- The gift of Unfence Slot (R72, R58). -/
theorem unfence_gift (hn : n.val = b.toNat) (hs : s.slot n = .fenced) (hu : s.unplaced = w :: rest) (hw : MayWait s w) :
    ∃ u, EndsWithRelief u (exec (.unfenceSlot l tag [b]) s) ∧ Gifted n w rest s u := by
  have hgift : Gifted n w rest (setSlot n .free (frameCompleted l s)) (allocate n (setSlot n .free (frameCompleted l s))) :=
    allocate_gifted (by simp [hu]) hw.congr n
  have hreplied : Gifted n w rest s
      (reply l tag .ok 0x25#8 [] (allocate n (setSlot n .free (frameCompleted l s)))) := hgift.congr.since
  refine ⟨_, ?_, hreplied⟩
  have hexec : exec (.unfenceSlot l tag [b]) s = .next (onUnfenceSlot l tag [b] (frameCompleted l s)) := rfl
  rw [hexec, onUnfenceSlot_of_fenced hn (slot_congr (by simp) n |>.trans hs)]
  exact hreplied.endsWithRelief (by simp [hu]) ((packet_congr (by simp) _).trans hw.unknown) (hreplied.queued.trans (by simp))

/-- The allocator's run by itself, where a key waits (R59; log entry 3). -/
theorem slotGift_gift (hs : s.slot n = .free) (hu : s.unplaced = w :: rest) (hw : MayWait s w) :
    ∃ u, EndsWithRelief u (exec (.slotGift n) s) ∧ Gifted n w rest s u := by
  have hgift : Gifted n w rest s (allocate n (beginEvent s)) :=
    (allocate_gifted (s := beginEvent s) (by simp [hu]) hw.congr n).since
  have hs' : (beginEvent s).slot n = .free := (slot_congr (by simp) n).trans hs
  have hexec : exec (.slotGift n) s = .next (onSlotGift n (beginEvent s)) := rfl
  refine ⟨_, ?_, hgift⟩
  rw [hexec, onSlotGift, hs']
  exact hgift.endsWithRelief (by simp [hu]) ((packet_congr (by simp) _).trans hw.unknown) (hgift.queued.trans (by simp))

/-- Where no key waits or the slot is not FREE, the allocator's run does nothing (log entry 3). -/
theorem onSlotGift_of_nothing_to_give (h : s.unplaced = [] ∨ s.slot n ≠ .free) : onSlotGift n s = s := by
  unfold onSlotGift
  split
  · rename_i hs
    rw [allocate_nil (h.resolve_right fun hne => hne hs)]
    exact endEvent_of_lists_eq rfl rfl rfl false
  · rfl
  · rfl

/-- Settles O45: the two requests by the state of the slot; a gift is the allocator's, with relief tried after it. -/
theorem fencesAndGiftsFollowTheSlotState : Obligations.FencesAndGiftsFollowTheSlotState := by
  intro l tag b s
  have fence : exec (.fenceSlot l tag [b]) s = .next (onFenceSlot l tag [b] (frameCompleted l s)) := rfl
  have unfence : exec (.unfenceSlot l tag [b]) s = .next (onUnfenceSlot l tag [b] (frameCompleted l s)) := rfl
  have slots : ∀ n, (frameCompleted l s).slot n = s.slot n := slot_congr (by simp)
  refine ⟨fun hb => ⟨⟨_, by rw [fence, onFenceSlot_of_le hb], turnedAway_reply ..⟩,
    ⟨_, by rw [unfence, onUnfenceSlot_of_le hb], turnedAway_reply ..⟩⟩, ?_⟩
  intro n hn given mayWait
  have may : ∀ w, mayWait w → MayWait s w := fun w ⟨hr, ha, hk, hass, hp⟩ => ⟨hr, ha, hk, hass, hp⟩
  have gave : ∀ {u w rest}, Gifted n w rest s u → given u w rest := fun h =>
    ⟨h.slot, h.rank, h.unplaced, h.packet, h.held, h.queued, h.fin, h.queues⟩
  refine ⟨fun hs => ?_, fun g m k hs => ?_, fun hs => ?_, fun hs hu => ?_, fun w rest hs hu hw => ?_, fun g k hs => ?_,
    fun hs => ?_, fun h => ?_, fun w rest hs hu hw => ?_⟩
  · refine ⟨_, ?_, reply_setSlot_answers l tag 0x24#8 n .fenced s⟩
    rw [fence, onFenceSlot_of_free hn ((slots n).trans hs)]
    exact Lanes.endsWithRelief rfl (by simp) nofun
  · exact ⟨_, by rw [fence, onFenceSlot_of_occupied hn ((slots n).trans hs)], reply_setSlot_answers ..⟩
  · exact ⟨_, by rw [fence, onFenceSlot_of_fenced hn ((slots n).trans hs)], turnedAway_reply ..⟩
  · refine ⟨_, ?_, reply_setSlot_answers l tag 0x25#8 n .free s⟩
    rw [unfence, onUnfenceSlot_of_fenced hn ((slots n).trans hs), allocate_nil (by simp [hu])]
    exact congrArg Host.Outcome.next (endEvent_of_lists_eq (by simp) (by simp) (by simp) false)
  · obtain ⟨u, hexec, hgift⟩ := unfence_gift (l := l) (tag := tag) hn hs hu (may w hw)
    exact ⟨u, hexec, gave hgift⟩
  · exact ⟨_, by rw [unfence, onUnfenceSlot_of_pending hn ((slots n).trans hs)], reply_setSlot_answers ..⟩
  · exact ⟨_, by rw [unfence, onUnfenceSlot_of_not_fenced hn (by rwa [slots])], turnedAway_reply ..⟩
  · refine ⟨beginEvent s, congrArg Host.Outcome.next (onSlotGift_of_nothing_to_give ?_), rfl, onlyChanges_beginEvent s⟩
    rw [slot_congr (s := s) (by simp)]
    simpa using h
  · obtain ⟨u, hexec, hgift⟩ := slotGift_gift hs hu (may w hw)
    exact ⟨u, hexec, gave hgift⟩

end
end Sys2Proof.Tower

namespace Sys2Proof.Tower

open Sys2Proof.Machine Sys2Proof.Safety Sys2Proof.ClassTable Sys2Proof.Requests Sys2Proof.Events Sys2Proof.Lanes

/-! # How the ranks of an event go (R77) -/

/-- The part of the table of R77 that runs on: an event that makes only these changes may make any number of them in a row. A creation
(WAITING to OPEN) and a drop (OPEN to WAITING) may follow each other; a completion, a delivery and a roster mark are not among them. -/
def RankState.inARow : RankState → List RankState
  | .excused => [.excused]
  | .waiting => [.waiting, .opened, .missed]
  | .opened => [.opened, .waiting, .missed]
  | .held => [.held, .released, .relieved, .missed]
  | .released => [.released, .missed]
  | .relieved => [.relieved, .missed]
  | .delivered => [.delivered]
  | .missed => [.missed]

/-- How far an event goes in the table: over changes that run on, or over one other change first. -/
inductive Pace where
  | row
  | once

/-- The states that a rank may have after an event of a pace, by its state before. -/
def Pace.allows : Pace → RankState → List RankState
  | .row => RankState.inARow
  | .once => RankState.mayBecome

/-- Every rank goes as the pace allows, and the held list names HELD ranks after it. -/
structure RanksGo (a : Pace) (s t : State) : Prop where
  ranks : ∀ k x, s.rankAt k = some x → ∃ y ∈ a.allows x, t.rankAt k = some y
  heldRanks : HeldRanks t

/-- What the lists say of the ranks: held keys have HELD ranks, and waiting keys WAITING ones (R56, R84). -/
structure ListedRanks (s : State) : Prop where
  held : HeldRanks s
  waiting : ∀ u ∈ s.unplaced, s.rankAt u.key = some .waiting

section
variable {a : Pace} {s t u : State} {o : Option Key} {f : Option (Fin 24)} {j k : Key} {n : Fin 24} {p q : Packet}
  {x y : RankState} {z : PacketState}

/-! ## The table -/

theorem Pace.allows_self (a : Pace) (x : RankState) : x ∈ a.allows x := by cases a <;> cases x <;> decide

theorem Pace.allows_of_row (a : Pace) {x y : RankState} (h : y ∈ Pace.row.allows x) : y ∈ a.allows x := by
  have table : ∀ y ∈ RankState.inARow x, y ∈ RankState.mayBecome x := by cases x <;> decide
  cases a with
  | row => exact h
  | once => exact table y h

theorem Pace.mayBecome_of_allows (a : Pace) {x y : RankState} (h : y ∈ a.allows x) : y ∈ RankState.mayBecome x := by
  cases a with
  | row => exact Pace.allows_of_row .once h
  | once => exact h

theorem Pace.row_trans {x y z : RankState} (h : y ∈ Pace.row.allows x) (h' : z ∈ Pace.row.allows y) :
    z ∈ Pace.row.allows x := by
  have table : ∀ y ∈ RankState.inARow x, ∀ z ∈ RankState.inARow y, z ∈ RankState.inARow x := by cases x <;> decide
  exact table y h z h'

/-- Whatever may become HELD may be released or relieved too (log entry 21). -/
theorem Pace.allows_order (a : Pace) {x z : RankState} (h : .held ∈ a.allows x) (hz : z = .released ∨ z = .relieved) :
    z ∈ a.allows x := by
  rcases hz with rfl | rfl <;> cases a <;> revert h <;> cases x <;> decide

/-! ## One change after another -/

theorem RanksGo.start (a : Pace) (h : HeldRanks s) : RanksGo a s s := ⟨fun _ x hx => ⟨x, a.allows_self x, hx⟩, h⟩

/-- Changes that run on keep to either pace. -/
theorem RanksGo.toPace (h : RanksGo .row s t) : RanksGo a s t where
  ranks k x hx := by
    obtain ⟨y, hy, ht⟩ := h.ranks k x hx
    exact ⟨y, a.allows_of_row hy, ht⟩
  heldRanks := h.heldRanks

theorem RanksGo.trans (h : RanksGo .row s t) (h' : RanksGo .row t u) : RanksGo .row s u where
  ranks k x hx := by
    obtain ⟨y, hy, ht⟩ := h.ranks k x hx
    obtain ⟨z, hz, hu⟩ := h'.ranks k y ht
    exact ⟨z, Pace.row_trans hy hz, hu⟩
  heldRanks := h'.heldRanks

/-- The Return Order Unit's moves may follow at either pace. -/
theorem RanksGo.order (h : RanksGo a s t) (m : OrderMoves t u) : RanksGo a s u where
  ranks k x hx := by
    obtain ⟨y, hy, ht⟩ := h.ranks k x hx
    obtain e | ⟨hheld, hu⟩ := m.ranks h.heldRanks k
    · exact ⟨y, hy, e.trans ht⟩
    · cases ht.symm.trans hheld
      rcases hu with hu | hu
      · exact ⟨_, a.allows_order hy (.inl rfl), hu⟩
      · exact ⟨_, a.allows_order hy (.inr rfl), hu⟩
  heldRanks := m.heldRanks h.heldRanks

theorem RanksGo.orderStep (h : RanksGo a s t) (c : Nat) : RanksGo a s (orderStep c t) := h.order (orderStep_moves c t)

theorem RanksGo.endEvent (h : RanksGo a s t) (s0 : State) (o : Occasion) : RanksGo a s (endEvent s0 o t) :=
  h.order (endEvent_moves s0 o t)

/-- Operations that leave ranks and held list. -/
theorem RanksGo.still (h : RanksGo a s t) (hu : u.classes = t.classes ∧ u.held = t.held) : RanksGo a s u :=
  h.order (.of_classes_eq hu.1 (by rw [hu.2]; exact List.Subset.refl _))

/-- Operations before, which leave the ranks. -/
theorem RanksGo.after (h : RanksGo a t u) (hc : t.classes = s.classes) : RanksGo a s u where
  ranks k x hx := h.ranks k x ((rankAt_congr hc k).trans hx)
  heldRanks := h.heldRanks

/-- Operations that leave the rank of every key, and the held list. -/
theorem RanksGo.keep (h : RanksGo a s t) (hr : ∀ k, u.rankAt k = t.rankAt k) (hh : u.held = t.held) : RanksGo a s u where
  ranks k x hx := by
    rw [hr]
    exact h.ranks k x hx
  heldRanks k hk := (hr k).trans (h.heldRanks k (hh ▸ hk))

/-- One rank gets another state that its first one may become. -/
theorem RanksGo.change (h : RanksGo a s t) (hx : s.rankAt k = some x) (hy : y ∈ a.allows x)
    (hu : ∀ j, u.rankAt j = if j = k then some y else t.rankAt j) (hheld : HeldRanks u) : RanksGo a s u where
  ranks j z hz := by
    rw [hu]
    split
    · rename_i e
      subst e
      cases hx.symm.trans hz
      exact ⟨y, hy, rfl⟩
    · exact h.ranks j z hz
  heldRanks := hheld

theorem RanksGo.setRank (h : RanksGo a s t) (hx : s.rankAt k = some x) (hy : y ∈ a.allows x) (hk : t.rankAt k ≠ some .held) :
    RanksGo a s (setRank k y t) := by
  obtain ⟨z, -, hz⟩ := h.ranks k x hx
  exact h.change hx hy (fun j => by simp [rankAt_setRank, hz]) (heldRanks_setRank h.heldRanks hk)

/-! ## What the tower's law says of ranks -/

theorem Agrees.listedRanks (h : Agrees o f s) : ListedRanks s where
  held k hk := (h.fits k).rank _ ((h.fits k).held.mp hk)
  waiting u hu := (h.waiting u hu).2.1

theorem ListedRanks.congr (h : ListedRanks s) (ht : t.classes = s.classes ∧ t.held = s.held ∧ t.unplaced = s.unplaced) :
    ListedRanks t := by
  obtain ⟨hc, hh, hu⟩ := ht
  exact ⟨fun k hk => (rankAt_congr hc k).trans (h.held k (hh ▸ hk)),
    fun u hmem => (rankAt_congr hc u.key).trans (h.waiting u (hu ▸ hmem))⟩

theorem Agrees.rank_of_collecting (h : Agrees o f s) (hk : s.packet k = some p) (hx : p.state = .collecting) :
    s.rankAt k = some .opened := by
  have := (h.fits k).rank _ (stateOf_of_packet hk)
  rwa [hx] at this

/-- The rank of a packet may become MISSED, whatever the packet's state (R77). -/
theorem Agrees.rank_may_miss (h : Agrees o f s) (hk : stateOf s k = some z) :
    ∃ x, s.rankAt k = some x ∧ .missed ∈ Pace.row.allows x := by
  have := (h.fits k).rank _ hk
  cases z with
  | collecting => exact ⟨_, this, by decide⟩
  | held => exact ⟨_, this, by decide⟩
  | queued | finishing => rcases this with e | e | e <;> exact ⟨_, e, by decide⟩

/-- An event that leaves ranks and held list. -/
theorem RanksGo.same (h : TowerKept s) (ht : t.classes = s.classes ∧ t.held = s.held) : RanksGo a s t :=
  (RanksGo.start a (heldRanks_of_towerKept h)).still ht

end
end Sys2Proof.Tower

namespace Sys2Proof.Tower

open Sys2Proof.Machine Sys2Proof.Safety Sys2Proof.ClassTable Sys2Proof.Requests Sys2Proof.Events Sys2Proof.Lanes

/-! # The tower's operations and the ranks (R55, R58, R59, R65, R70, R73, R74, R82, R83) -/

section
variable {a : Pace} {s t u : State} {o : Option Key} {f : Option (Fin 24)} {j k : Key} {n : Fin 24} {p q : Packet}
  {x y : RankState}

/-! ## Creation and the allocator -/

/-- A creation opens one WAITING rank, and the order unit follows (R55). -/
theorem createPacket_ranks (h : HeldRanks s) (hw : s.rankAt k = some .waiting) (n : Fin 24) (b : Assignment) (tag : BitVec 16) :
    RanksGo .row s (createPacket k n b tag s) := by
  have hrank := rankAt_created (s := s) (k := k) (by simp [hw]) n b tag
  rw [createPacket_eq_orderStep]
  refine ((RanksGo.start .row h).change hw (by decide) hrank fun j hj => ?_).orderStep _
  have hj' : s.rankAt j = some .held := h j (by simpa [created] using hj)
  rw [hrank, if_neg]
  · exact hj'
  · rintro rfl
    cases hw.symm.trans hj'

theorem allocate_ranks (h : ListedRanks s) (n : Fin 24) : RanksGo .row s (allocate n s) := by
  unfold allocate
  split
  · exact .start _ h.held
  · rename_i w rest hu
    split
    · have hcreated := createPacket_ranks (s := s.setUnplaced rest) h.held (h.waiting w (by simp [hu])) n ‹Assignment› w.jobTag
      exact RanksGo.still (hcreated.after (by simp)) (by simp)
    · exact .start _ h.held

theorem freeSlot_ranks (h : ListedRanks s) (n : Fin 24) : RanksGo .row s (freeSlot n s) := by
  unfold freeSlot
  split
  · split
    · exact (RanksGo.start _ h.held).still (by simp)
    · exact (allocate_ranks (s := setSlot n .free s) (h.congr (by simp)) n).after (by simp)
  · exact .start _ h.held
  · exact .start _ h.held

/-! ## Drop and departure from a slot -/

/-- The rank of a dropped packet waits again (R70); the slot it leaves may open another rank before. -/
theorem dropPacket_ranks (h : ListedRanks s) (hk : s.rankAt k = some .opened) (n : Fin 24) : RanksGo .row s (dropPacket k n s) := by
  have freed : RanksGo .row s (freeSlot n (removePacket k s)) :=
    (freeSlot_ranks (s := removePacket k s) (h.congr (by simp)) n).after (by simp)
  refine (freed.setRank hk (by decide) fun e => ?_).orderStep _
  obtain ⟨y, hy, ht⟩ := freed.ranks k _ hk
  cases ht.symm.trans e
  revert hy
  decide

theorem leaveSlot_ranks (h : ListedRanks s) (k : Key) : RanksGo .row s (leaveSlot k s) := by
  unfold leaveSlot
  split
  · exact (freeSlot_ranks (s := updatePacket k _ s) (h.congr (by simp)) _).after (by simp)
  · exact .start _ h.held

/-! ## Dump -/

theorem dumpPacket_ranks (h : Agrees none none s) (hu : s.unplaced = []) (hk : s.packet p.key = some p)
    (hx : p.state ≠ .finishing) (hn : p.slot = some n) : RanksGo .row s (dumpPacket n p s) := by
  obtain ⟨g, i, hs, -⟩ := h.slot_of_packet hk hn
  obtain ⟨v, hv, e⟩ := freeSlot_of_no_key_waiting (s := removePacket p.key (dumpedOut n p s)) (i := i) (g := g) (k := p.key)
    ((slot_congr (by simp [dumpedOut]) n).trans hs) (by simpa [dumpedOut] using hu)
  obtain ⟨x, hx', hmiss⟩ := h.rank_may_miss (stateOf_of_packet hk)
  rw [dumpPacket_eq, e]
  refine ((RanksGo.start .row h.listedRanks.held).change hx' hmiss (fun j => ?_)
    (dumped_agrees h hu hk hx hn hv).listedRanks.held).orderStep _
  have hsame : ∀ j, (setSlot n v (removePacket p.key (dumpedOut n p s))).rankAt j = s.rankAt j :=
    rankAt_congr (by simp [dumpedOut])
  simp [rankAt_setRank, hsame, hx']

/-- A Purge dumps a slot's packet, or finds none to dump (R74). -/
theorem dumpSlot_cases (h : Agrees none none s) (n : Fin 24) : dumpSlot s n = s
    ∨ ∃ p, s.packet p.key = some p ∧ p.slot = some n ∧ p.state ≠ .finishing ∧ dumpSlot s n = dumpPacket n p s := by
  unfold dumpSlot
  split
  · rename_i p hp
    obtain ⟨hk, hn⟩ := h.packet_of_packetIn hp
    split
    · exact .inl rfl
    · rename_i hx
      exact .inr ⟨p, hk, hn, hx, rfl⟩
  · exact .inl rfl

theorem foldl_dumpSlot_ranks (ns : List (Fin 24)) (h : Agrees none none s) (hu : s.unplaced = []) :
    RanksGo .row s (ns.foldl dumpSlot s) := by
  induction ns generalizing s with
  | nil => exact .start _ h.listedRanks.held
  | cons n ns ih =>
    rw [List.foldl_cons]
    rcases dumpSlot_cases h n with e | ⟨p, hk, hn, hx, e⟩
    · rw [e]
      exact ih h hu
    · obtain ⟨hdumped, hempty⟩ := dumpPacket_agrees h hu hk hx hn
      rw [e]
      exact (dumpPacket_ranks h hu hk hx hn).trans (ih hdumped hempty)

theorem purgeTower_ranks (h : Agrees none none s) : RanksGo .row s (purgeTower s) :=
  (foldl_dumpSlot_ranks (s := s.setUnplaced []) _ (setUnplaced_agrees h (List.nil_sublist _)) rfl).after (by simp)

/-! ## A packet that leaves COLLECTING -/

section
variable (h : Agrees o f s) (hk : s.packet k = some p) (hx : p.state = .collecting) (hstop : p.timer = .stopped)
include h hk hx hstop

theorem queueForTray_ranks : RanksGo .row s (queueForTray k s) := by
  obtain ⟨n, i, hn, hs, -, -⟩ := h.collecting_facts hk hx
  have hopened := h.rank_of_collecting hk hx
  exact ((RanksGo.start .row h.listedRanks.held).change hopened (by decide)
    (trayQueued_moved hk hn hs (by simp [hopened])).rank (trayQueued_agrees h hk hx hstop).listedRanks.held).orderStep _

/-- A completed packet is RELIEVED or HELD (R82, R83); what the order unit makes of a HELD one follows in the same event. -/
theorem handCompleted_ranks : RanksGo .once s (handCompleted k s) := by
  obtain ⟨n, i, hn, hs, -, -⟩ := h.collecting_facts hk hx
  have hopened := h.rank_of_collecting hk hx
  have start := RanksGo.start .once h.listedRanks.held
  rw [handCompleted_eq]
  split
  · exact (start.change hopened (by decide) (lateQueued_moved hk hn hs (by simp [hopened])).rank
      (lateQueued_agrees h hk hx hstop).listedRanks.held).orderStep _
  · exact (start.change hopened (by decide) (newlyHeld_moved hk hn hs (by simp [hopened])).rank
      (newlyHeld_agrees h hk hx hstop).listedRanks.held).orderStep _

end

theorem settlePlaced_ranks (h : Agrees o f s) (hk : s.packet q.key = some p) (hx : p.state = .collecting)
    (hslot : q.slot = p.slot) (hstate : q.state = p.state) : RanksGo .once s (settlePlaced q s) := by
  have hkey : q.key = p.key := (mem_of_packet hk).2.symm
  unfold settlePlaced
  split
  · obtain ⟨h', hk'⟩ := replaced_agrees (q := { q with timer := .stopped }) h hk ⟨hkey, hslot, hstate, fun e => absurd rfl e⟩
    split
    · exact (queueForTray_ranks h' hk' (hstate.trans hx) rfl).toPace.after (by simp)
    · exact (handCompleted_ranks h' hk' (hstate.trans hx) rfl).after (by simp)
  · exact (RanksGo.start _ h.listedRanks.held).still (by simp)

theorem becomeStale_ranks (h : Agrees o f s) (hk : s.packet k = some p) (hx : p.state = .collecting) :
    RanksGo .row s (becomeStale k s) := by
  unfold becomeStale
  extract_lets s1
  have h' : Agrees o f s1 := updatePacket_agrees h fun _ _ _ => ⟨rfl, rfl, rfl, fun e => absurd rfl e⟩
  have hk' : s1.packet k = some { p with timer := .stopped, flags := { p.flags with stale := true } } := by
    rw [packet_updatePacket _ _ _ _ (by simp), if_pos rfl, hk]
    rfl
  exact ((queueForTray_ranks h' hk' hx rfl).after (by simp [s1])).still (by simp)

end
end Sys2Proof.Tower

namespace Sys2Proof.Tower

open Sys2Proof.Machine Sys2Proof.Safety Sys2Proof.ClassTable Sys2Proof.Requests Sys2Proof.Events Sys2Proof.Lanes

/-! # The ranks over the events of the lanes, the tower and the Finishing Unit (chapters 2, 4, 6 and 7) -/

section
variable {a : Pace} {s t u : State} {k : Key} {n : Fin 24} {p q : Packet} {l : Lane} {c : Current} {m : Bool}
  {x y : RankState}

/-! ## A sheet placed (R60 to R65, R70) -/

theorem dropPacket_ranks_of_packetIn (h : TowerKept s) (hp : s.packetIn n = some p) (hx : p.state = .collecting) :
    RanksGo .row s (dropPacket p.key n s) :=
  have h' := agrees_of_towerKept h
  dropPacket_ranks h'.listedRanks (h'.rank_of_collecting (h'.packet_of_packetIn hp).1 hx) n

theorem placeSheet_ranks (h : TowerKept s) (l : Lane) (e : Entry) (hp : s.packetIn n = some p) (hx : p.state = .collecting) :
    RanksGo .once s (placeSheet l e n p s) := by
  unfold placeSheet
  split
  · rename_i q hq
    obtain ⟨hkey, hslot, hstate⟩ := decidePlacement_same hq
    have h' := agrees_of_towerKept ((act_follows (.divertGate l false) s).tower h)
    have hp' : (act (.divertGate l false) s).packetIn n = some p := (packetIn_congr (by simp) (by simp) n).trans hp
    refine RanksGo.after (t := act (.divertGate l false) s) (settlePlaced_ranks h' (p := p) ?_ hx hslot hstate) (by simp)
    rw [show (q.withSheet _ _).key = p.key from hkey]
    exact (h'.packet_of_packetIn hp').1
  · have hp' : (divertSheet l .duplicate (some e) s).packetIn n = some p :=
      (packetIn_congr (by simp [divertSheet]) (by simp [divertSheet]) n).trans hp
    dsimp only
    split
    · exact (dropPacket_ranks_of_packetIn ((divertSheet_follows ..).tower h) hp' hx).toPace.after (by simp)
    · exact .same h (by simp)

theorem arrivePlaced_ranks (h : TowerKept s) (l : Lane) (e : Entry) (n : Fin 24) : RanksGo .once s (arrivePlaced l e n s) := by
  unfold arrivePlaced
  split
  · exact .same h (by simp)
  · rename_i p hp
    split
    · split
      · rename_i hx
        exact placeSheet_ranks h l e hp hx
      · exact .same h (by simp)
      · exact .same h (by simp)
      · exact .same h (by simp)
    · exact .same h (by simp)

theorem arrive_ranks (h : TowerKept s) (l : Lane) (e : Entry) : RanksGo .once s (arrive l e s) := by
  unfold arrive
  split
  · exact .same h (by simp)
  · dsimp only
    split
    · exact .same h (by simp)
    · exact .same h (by simp)
  · exact arrivePlaced_ranks h ..

theorem onLaneEntry_ranks (h : TowerKept s) (l : Lane) : RanksGo .once s (onLaneEntry l s) := by
  have stamped := (setStamp_follows (s.stamp + 1#32) s).tower h
  refine RanksGo.after (t := s.setStamp (s.stamp + 1#32)) ?_ (by simp)
  unfold onLaneEntry
  dsimp only
  split
  · exact .same stamped (by simp)
  · split
    · exact .same stamped (by simp)
    · rename_i e rest _
      unfold arriveHead
      dsimp only
      have before := (setQueue_follows l rest (s.setStamp (s.stamp + 1#32))).trans
        ((retime_follows l _).trans (evalHold_follows l _))
      have arrived := (arrive_ranks (before.tower stamped) l e).after (s := s.setStamp (s.stamp + 1#32)) (by simp)
      split
      · exact (arrived.still (by simp)).endEvent _ _
      · exact arrived.endEvent _ _

/-! ## Announcements and Lane Clear (R29 to R34, R45, R46) -/

theorem waitingVerdict_ranks {x : Announcement} (h : TowerKept s) (hw : s.rankAt x.key = some .waiting) :
    RanksGo .row s (waitingVerdict x s).2 := by
  unfold waitingVerdict
  split
  · exact .same h (by simp)
  · split
    · exact .same h (by simp)
    · split
      · exact .same h (by simp)
      · split
        · exact createPacket_ranks (heldRanks_of_towerKept h) hw ..
        · exact (RanksGo.start _ (heldRanks_of_towerKept h)).keep (rankAt_activate _ _) (by simp)

theorem verdictOf_ranks (h : TowerKept s) (x : Announcement) : RanksGo .row s (verdictOf x s).2 := by
  unfold verdictOf
  split
  · exact .same h (by simp)
  · split
    case h_8 hw => exact waitingVerdict_ranks h hw
    all_goals exact .same h (by simp)

theorem takeAnnouncement_ranks (h : TowerKept s) (l : Lane) (x : Announcement) : RanksGo .row s (takeAnnouncement l x s) := by
  unfold takeAnnouncement
  dsimp only
  refine RanksGo.endEvent ((verdictOf_ranks h x).still ?_) _ _
  split <;> simp [appendEntry]

theorem onSheetAnnounce_ranks (h : TowerKept s) (l : Lane) (body : List Byte) : RanksGo .row s (onSheetAnnounce l body s) := by
  unfold onSheetAnnounce
  split
  · exact .same h (by simp)
  · split
    · exact .same h (by simp)
    · split
      · exact (RanksGo.same h (by simp)).endEvent _ _
      · split
        · exact (RanksGo.same h (by simp)).endEvent _ _
        · exact takeAnnouncement_ranks h ..

theorem discardEffect_ranks (h : TowerKept s) (l : Lane) (e : Entry) : RanksGo .row s (discardEffect l e s) := by
  unfold discardEffect
  split
  · exact .same h (by simp)
  · split <;> exact .same h (by simp)
  · split
    · rename_i p hp
      split
      · rename_i hd
        obtain ⟨hkey, huntouched, -⟩ := hd
        have hx : p.state = .collecting := by
          simp only [Packet.untouched, Bool.and_eq_true, decide_eq_true_eq] at huntouched
          exact huntouched.1.1
        rw [← hkey]
        exact dropPacket_ranks_of_packetIn h hp hx
      · exact .same h (by simp)
    · exact .same h (by simp)

theorem discardEntries_ranks (h : TowerKept s) (l : Lane) (fuel : Nat) : RanksGo .row s (discardEntries l fuel s) := by
  induction fuel generalizing s with
  | zero => exact .same h ⟨rfl, rfl⟩
  | succ fuel ih =>
    unfold discardEntries
    split
    · exact .same h (by simp)
    · rename_i e rest _
      have queued := (setQueue_follows l rest s).tower h
      exact ((discardEffect_ranks queued l e).trans (ih ((discardEffect_follows l e _).tower queued))).after (by simp)

theorem withLength_ranks {k : DownKind} {tag : Byte} {body : List Byte} {f : State → State} (h : TowerKept s)
    (hf : RanksGo a s (f s)) : RanksGo a s (withLength k l tag body f s) := by
  unfold withLength
  split
  · exact hf
  · exact .same h (by simp)

theorem onLaneClear_ranks (h : TowerKept s) (link : Lane) (tag : Byte) (body : List Byte) :
    RanksGo .row s (onLaneClear link tag body s) := by
  refine withLength_ranks h ?_
  split
  · exact .same h (by simp)
  · rename_i l _
    split
    · have cleared : RanksGo .row s (clearLane l s) := by
        rw [clearLane_eq]
        exact (discardEntries_ranks h l (s.lane l).queue.length).still (by simp)
      exact (cleared.still (by simp)).endEvent _ _
    · exact .same h (by simp)

theorem onLaneJam_ranks (h : TowerKept s) (l : Lane) : RanksGo a s (onLaneJam l s) := by
  unfold onLaneJam
  split
  · exact .same h (by simp)
  · exact (RanksGo.same h (by simp)).endEvent _ _

theorem onTransitExpiry_ranks (h : TowerKept s) (l : Lane) : RanksGo a s (onTransitExpiry l s) := by
  unfold onTransitExpiry
  split
  · exact (RanksGo.same h (by simp)).endEvent _ _
  · exact .same h (by simp)

/-! ## Slots, the collection expiry and the Purge (R58, R68 to R74, R162) -/

theorem onFenceSlot_ranks (h : TowerKept s) (link : Lane) (tag : Byte) (body : List Byte) :
    RanksGo a s (onFenceSlot link tag body s) := by
  refine withLength_ranks h ?_
  split
  · exact .same h (by simp)
  · split
    · exact (RanksGo.same h (by simp)).endEvent _ _
    · exact .same h (by simp)
    · exact .same h (by simp)

theorem onUnfenceSlot_ranks (h : TowerKept s) (link : Lane) (tag : Byte) (body : List Byte) :
    RanksGo .row s (onUnfenceSlot link tag body s) := by
  refine withLength_ranks h ?_
  split
  · exact .same h (by simp)
  · rename_i n _
    split
    · have given := allocate_ranks (s := setSlot n .free s) ((agrees_of_towerKept h).listedRanks.congr (by simp)) n
      exact ((given.after (by simp)).still (by simp)).endEvent _ _
    · split <;> exact .same h (by simp)
    · exact .same h (by simp)

theorem onSlotGift_ranks (h : TowerKept s) (n : Fin 24) : RanksGo .row s (onSlotGift n s) := by
  unfold onSlotGift
  split
  · exact (allocate_ranks (agrees_of_towerKept h).listedRanks n).endEvent _ _
  · exact .same h (by simp)
  · exact .same h (by simp)

theorem onCollectionExpiry_ranks (h : TowerKept s) (n : Fin 24) : RanksGo .row s (onCollectionExpiry n s) := by
  unfold onCollectionExpiry
  split
  · rename_i p hp
    split
    · rename_i hrun
      have h' := agrees_of_towerKept h
      have hk := (h'.packet_of_packetIn hp).1
      exact (becomeStale_ranks h' hk ((h'.fits p.key).timer p hk (ne_stopped_of_isRunning hrun))).endEvent _ _
    · exact .same h (by simp)
  · exact .same h (by simp)

theorem onPurge_ranks (h : TowerKept s) (link : Lane) (tag : Byte) (body : List Byte) :
    RanksGo .row s (onPurge link tag body s) := by
  refine withLength_ranks h ?_
  dsimp only
  split
  · exact .same h (by simp)
  · have started := (setPurge_follows (.inProgress link tag) s).trans
      ((purgeLaneStart_follows .a _).trans (purgeLaneStart_follows .b _))
    exact ((purgeTower_ranks (agrees_of_towerKept (started.tower h))).after (by simp)).still (by simp)

/-! ## Stages, delivery and Finisher Clear (R115 to R122) -/

theorem onTransferDone_ranks (h : TowerKept s) : RanksGo .row s (onTransferDone s) := by
  unfold onTransferDone
  split
  · rename_i c _
    exact ((leaveSlot_ranks (agrees_of_towerKept h).listedRanks c.key).still (by simp)).endEvent _ _
  · exact .same h (by simp)

theorem onJogDone_ranks (h : TowerKept s) : RanksGo a s (onJogDone s) := by
  unfold onJogDone
  split
  · split <;> exact .same h (by simp)
  · exact .same h (by simp)

theorem onStapleDone_ranks (h : TowerKept s) : RanksGo a s (onStapleDone s) := by
  unfold onStapleDone
  split
  · dsimp only
    split <;> exact .same h (by simp)
  · exact .same h (by simp)

/-- The rank of a packet that departs ends, where it is RELEASED still (R95, R119, R122). -/
theorem departed_ranks (h : RanksGo a s t) (hx : s.rankAt k = some x) (hy : t.rankAt k = some .released → y ∈ a.allows x)
    (m : Bool) : RanksGo a s (departed m k y t) := by
  have ended : RanksGo a s (endRank k y t) := by
    unfold endRank
    split
    · rename_i hr
      exact h.setRank hx (hy hr) (by simp [hr])
    · exact h
  have ordered : RanksGo a s (orderStep k.cls (setCurrent none (removePacket k (endRank k y t)))) :=
    (ended.still (by simp)).orderStep _
  exact ordered.still (by simp [departed])

/-- The current packet has a rank (R51). -/
theorem rank_of_current (h : TowerKept s) (hc : s.fin.current = some c) :
    ∃ x, s.rankAt c.key = some x ∧ .missed ∈ Pace.row.allows x :=
  have h' := agrees_of_towerKept h
  h'.rank_may_miss (h'.current_packet hc)

theorem onEjectDone_ranks (h : TowerKept s) : RanksGo .once s (onEjectDone s) := by
  unfold onEjectDone
  split
  · rename_i c hc
    split
    · rename_i p hp
      obtain ⟨x, hx, -⟩ := rank_of_current h (of_currentIn hc).1
      have settled := booked_onlyFin c p s
      refine RanksGo.endEvent (t := departed s.fin.unit.isSuspendPending c.key .delivered (booked c p s)) ?_ _ _
      refine departed_ranks (.same h ⟨settled.classes, settled.held⟩) hx (fun hr => ?_) _
      rw [rankAt_congr settled.classes, hx] at hr
      cases hr
      decide
    · exact .same h (by simp)
  · exact .same h (by simp)

theorem removeCurrent_ranks (h : TowerKept s) (hc : s.fin.current = some c) (p : Packet) (m : Bool) :
    RanksGo .row s (removeCurrent m c p s) := by
  obtain ⟨x, hx, hmiss⟩ := rank_of_current h hc
  have left : RanksGo .row s
      (leaveSlot c.key (unreserve c.target c.units (updateFlags c.key (fun f => { f with removed := true }) s))) :=
    (leaveSlot_ranks ((agrees_of_towerKept h).listedRanks.congr (by simp)) c.key).after (by simp)
  have aside : RanksGo .row s (setAside c p s) := by
    unfold setAside
    exact left.still (by simp)
  exact departed_ranks aside hx (fun _ => hmiss) m

theorem onFinisherClear_ranks (h : TowerKept s) (link : Lane) (tag : Byte) (body : List Byte) :
    RanksGo .row s (onFinisherClear link tag body s) := by
  refine withLength_ranks h ?_
  dsimp only
  split
  · exact .same h (by simp)
  · rename_i mark _ _
    split
    · exact (RanksGo.same h (by simp)).endEvent _ _
    · rename_i c hc
      split
      · exact .same h (by simp)
      · rename_i p _ _
        exact ((removeCurrent_ranks h hc p mark).still (by simp)).endEvent _ _
      · exact (RanksGo.same h (by simp)).endEvent _ _
  all_goals exact .same h (by simp)

/-! ## The unit, its supply and the bins (R120 to R139) -/

theorem onMisfire_ranks (h : TowerKept s) : RanksGo a s (onMisfire s) := by
  unfold onMisfire
  split <;> exact .same h (by simp)

theorem onStageLimit_ranks (h : TowerKept s) : RanksGo a s (onStageLimit s) := by
  unfold onStageLimit
  split <;> exact .same h (by simp)

theorem onSuspendFinishing_ranks (h : TowerKept s) (link : Lane) (tag : Byte) (body : List Byte) :
    RanksGo a s (onSuspendFinishing link tag body s) :=
  withLength_ranks h (.same h (by simp))

theorem onResumeFinishing_ranks (h : TowerKept s) (link : Lane) (tag : Byte) (body : List Byte) :
    RanksGo a s (onResumeFinishing link tag body s) :=
  withLength_ranks h ((RanksGo.same h (by simp)).endEvent _ _)

theorem onFrameGap_ranks (h : TowerKept s) (link : Lane) : RanksGo a s (onFrameGap link s) := by
  unfold onFrameGap
  split <;> exact .same h (by simp)

theorem onLoadBin_ranks (h : TowerKept s) (link : Lane) (tag : Byte) (body : List Byte) :
    RanksGo a s (onLoadBin link tag body s) := by
  refine withLength_ranks h ?_
  dsimp only
  split
  · exact .same h (by simp)
  · split
    · exact .same h (by simp)
    · exact (RanksGo.same h (by simp)).endEvent _ _

theorem onTrayEmptied_ranks (h : TowerKept s) : RanksGo a s (onTrayEmptied s) := by
  unfold onTrayEmptied
  refine RanksGo.endEvent (.same h ?_) _ _
  split <;> simp

end
end Sys2Proof.Tower

namespace Sys2Proof.Tower

open Sys2Proof.Machine Sys2Proof.Safety Sys2Proof.ClassTable Sys2Proof.Requests Sys2Proof.Events Sys2Proof.Lanes

/-! # The ranks over the class requests, the frames and every command (R9 to R17, R77) -/

section
variable {a : Pace} {s t u : State} {k : Key} {c : Nat} {m : RosterMark} {x y : RankState}

/-! ## Marks and Close Class (R13 to R17) -/

/-- Each mark is taken for a rank that the table lets it change (R14 to R16, R77). -/
theorem markAllowed_change (hm : markAllowed k s m = true) : ∃ x, s.rankAt k = some x ∧ m.rankState ∈ Pace.once.allows x
    ∧ x ≠ .held := by
  cases m with
  | excuse =>
    simp only [markAllowed, Bool.and_eq_true, decide_eq_true_eq] at hm
    exact ⟨_, hm.1.1, by decide, by decide⟩
  | expect =>
    simp only [markAllowed, Bool.and_eq_true, decide_eq_true_eq] at hm
    exact ⟨_, hm.1, by decide, by decide⟩
  | retry =>
    simp only [markAllowed, Bool.and_eq_true, decide_eq_true_eq] at hm
    exact ⟨_, hm.1, by decide, by decide⟩

theorem rankAt_setClassState (c : Nat) (v : ClassState) (s : State) (k : Key) : (setClassState c v s).rankAt k = s.rankAt k := by
  rw [setClassState, rankAt_setClassRec]
  split
  · rename_i e
    rw [State.rankAt, e.1]
    rfl
  · rfl

theorem rankAt_reopenDone (m : RosterMark) (c : Nat) (s : State) (k : Key) : (reopenDone m c s).rankAt k = s.rankAt k := by
  unfold reopenDone
  split
  · exact rankAt_setClassState c .active s k
  · rfl

theorem applyMark_ranks (h : TowerKept s) (link : Lane) (tag : Byte) (hm : markAllowed k s m = true) :
    RanksGo .once s (applyMark link tag m k s) := by
  obtain ⟨x, hx, hy, hne⟩ := markAllowed_change hm
  have marked := (RanksGo.start .once (heldRanks_of_towerKept h)).setRank hx hy (by simpa [hx] using hne)
  have reopened := marked.keep (u := reopenDone m k.cls (setRank k m.rankState s)) (rankAt_reopenDone m k.cls _) (by simp)
  exact ((reopened.still (by simp)).orderStep _).endEvent _ _

theorem onSetRosterMark_ranks (h : TowerKept s) (link : Lane) (tag : Byte) (body : List Byte) :
    RanksGo .once s (onSetRosterMark link tag body s) := by
  refine withLength_ranks h ?_
  dsimp only
  split
  · exact .same h (by simp)
  · split
    · exact .same h (by simp)
    · split
      · exact .same h (by simp)
      · split
        · exact .same h (by simp)
        · split
          · rename_i hm
            exact applyMark_ranks h link tag hm
          · exact .same h (by simp)

/-- Close Class makes WAITING ranks MISSED and leaves the others (R17). -/
theorem closeClass_ranks (h : TowerKept s) (hc : c < 48) : RanksGo .row s (closeClass c s) where
  ranks k x hx := by
    by_cases hk : k.cls = c
    · subst hk
      have hrec : (closeClass k.cls s).rankAt k = (s.rankAt k).map RankState.closed := (closeClass_record hc s k.rank).1
      rw [hx] at hrec
      exact ⟨x.closed, by cases x <;> decide, hrec⟩
    · refine ⟨x, Pace.allows_self _ x, ?_⟩
      rw [State.rankAt, classRec_closeClass hc, if_neg hk, ← State.rankAt, rankAt_activate, hx]
  heldRanks := heldRanks_closeClass hc (heldRanks_of_towerKept h)

theorem onCloseClass_ranks (h : TowerKept s) (link : Lane) (tag : Byte) (body : List Byte) :
    RanksGo .row s (onCloseClass link tag body s) := by
  refine withLength_ranks h ?_
  dsimp only
  split
  · exact .same h (by simp)
  · rename_i hc
    split
    · exact .same h (by simp)
    · exact (((closeClass_ranks h (Nat.lt_of_not_le hc)).still (by simp)).orderStep _).endEvent _ _

/-! ## Load, Unload and Lock (R9 to R12): a record of another generation, or an EMPTY one, is free -/

/-- The claim of R77 for one command: ranks of records that keep their generation and are not EMPTY go as the table says. -/
structure TableKept (s t : State) : Prop where
  ranks : ∀ k x, (t.classRec k.cls).generation = (s.classRec k.cls).generation → (t.classRec k.cls).state ≠ .empty →
    s.rankAt k = some x → ∃ y ∈ RankState.mayBecome x, t.rankAt k = some y

theorem RanksGo.tableKept (h : RanksGo a s t) : TableKept s t where
  ranks k x _ _ hx := by
    obtain ⟨y, hy, ht⟩ := h.ranks k x hx
    exact ⟨y, a.mayBecome_of_allows hy, ht⟩

theorem TableKept.after (h : TableKept t u) (hc : t.classes = s.classes) : TableKept s u where
  ranks k x hg he hx := h.ranks k x (by rw [classRec_congr hc]; exact hg) he ((rankAt_congr hc k).trans hx)

/-- A command that writes one record, which gets another generation, becomes EMPTY or keeps its ranks. -/
theorem tableKept_of_record (hothers : ∀ d, d ≠ c → t.classRec d = s.classRec d)
    (hrecord : (t.classRec c).generation ≠ (s.classRec c).generation ∨ (t.classRec c).state = .empty
      ∨ (t.classRec c).body = (s.classRec c).body) : TableKept s t := by
  refine ⟨fun k x hg he hx => ⟨x, Pace.allows_self .once x, ?_⟩⟩
  by_cases hk : k.cls = c
  · subst hk
    rcases hrecord with h | h | h
    · exact absurd hg h
    · exact absurd h he
    · rw [State.rankAt, ClassRec.rankAt, h]
      exact hx
  · rw [State.rankAt, hothers _ hk]
    exact hx

theorem onLoadClass_tableKept (h : TowerKept s) (link : Lane) (tag : Byte) (body : List Byte) :
    TableKept s (onLoadClass link tag body s) := by
  by_cases htaken : ∃ q, body.length = 45 ∧ ClassLoad.ofBody body = some q
      ∧ ¬((s.classRec q.cls).locked = true ∨ (s.classRec q.cls).state = .active)
  · obtain ⟨q, hlen, hq, hfree⟩ := htaken
    rw [not_or, Bool.not_eq_true] at hfree
    have hc : q.cls < 48 := (loads_of_ofBody hlen hq).cls ▸ (inRange_of_ofBody hlen hq).1
    rw [onLoadClass_taken hlen hq hfree.1 hfree.2]
    refine tableKept_of_record (c := q.cls) (fun d hd => ?_) (.inl ?_)
    · rw [State.classRec_setClassRec, if_neg fun e => hd e.1, classRec_reply_setClassRec, if_neg fun e => hd e.1]
    · rw [State.classRec_setClassRec, if_pos ⟨rfl, hc⟩, loadedRec, (sameLoad_advanced _ _).generation]
      simp [ClassRec.reloaded]
  · refine RanksGo.tableKept (a := .once) ?_
    unfold onLoadClass withLength
    split
    · rename_i hlen
      split
      · exact .same h (by simp)
      · rename_i q hq
        dsimp only
        rw [if_pos (by_contra fun hfree => htaken ⟨q, hlen, hq, hfree⟩)]
        exact .same h (by simp)
    · exact .same h (by simp)

theorem onUnloadClass_tableKept (h : TowerKept s) (link : Lane) (tag : Byte) (body : List Byte) :
    TableKept s (onUnloadClass link tag body s) := by
  have refused : ∀ code, TableKept s (reply link tag code DownKind.unloadClass.code [] s) := fun code =>
    RanksGo.tableKept (a := .once) (.same h (by simp))
  unfold onUnloadClass withLength
  dsimp only
  split
  · split
    · exact refused _
    · rename_i hc
      split
      · exact refused _
      · refine tableKept_of_record (c := byteAt body 0) (fun d hd => ?_) (.inr (.inl ?_))
        · rw [classRec_reply_setClassRec, if_neg fun e => hd e.1]
        · rw [classRec_reply_setClassRec, if_pos ⟨rfl, Nat.lt_of_not_le hc⟩]
          rfl
  · exact refused _

theorem onLockClass_tableKept (h : TowerKept s) (link : Lane) (tag : Byte) (body : List Byte) :
    TableKept s (onLockClass link tag body s) := by
  have refused : ∀ code, TableKept s (reply link tag code DownKind.lockClass.code [] s) := fun code =>
    RanksGo.tableKept (a := .once) (.same h (by simp))
  unfold onLockClass withLength
  dsimp only
  split
  · split
    · exact refused _
    · rename_i hc
      split
      · exact refused _
      · refine tableKept_of_record (c := byteAt body 0) (fun d hd => ?_) (.inr (.inr ?_))
        · rw [classRec_reply_setClassRec, if_neg fun e => hd e.1]
        · rw [classRec_reply_setClassRec, if_pos ⟨rfl, Nat.lt_of_not_le hc⟩]
  · exact refused _

/-! ## The tables and the queries (R18 to R24, R154 to R159) -/

theorem onLoadAssignment_ranks (h : TowerKept s) (link : Lane) (tag : Byte) (body : List Byte) :
    RanksGo a s (onLoadAssignment link tag body s) := by
  refine withLength_ranks h ?_
  split <;> exact .same h (by simp)

theorem onLoadMedia_ranks (h : TowerKept s) (link : Lane) (tag : Byte) (body : List Byte) :
    RanksGo a s (onLoadMedia link tag body s) := by
  refine withLength_ranks h ?_
  split <;> exact .same h (by simp)

theorem onLoadSettings_ranks (h : TowerKept s) (link : Lane) (tag : Byte) (body : List Byte) :
    RanksGo a s (onLoadSettings link tag body s) := by
  refine withLength_ranks h ?_
  split
  · exact .same h (by simp)
  · dsimp only
    split
    · exact .same h (by simp)
    · exact (RanksGo.same h (by simp)).endEvent _ _

theorem onReadAttention_ranks (h : TowerKept s) (link : Lane) (tag : Byte) (body : List Byte) :
    RanksGo a s (onReadAttention link tag body s) := by
  refine withLength_ranks h ?_
  split <;> exact .same h (by simp)

theorem onReadClass_ranks (h : TowerKept s) (link : Lane) (tag : Byte) (body : List Byte) :
    RanksGo a s (onReadClass link tag body s) := by
  refine withLength_ranks h ?_
  split <;> exact .same h (by simp)

theorem onReadSlot_ranks (h : TowerKept s) (link : Lane) (tag : Byte) (body : List Byte) :
    RanksGo a s (onReadSlot link tag body s) := by
  refine withLength_ranks h ?_
  split <;> exact .same h (by simp)

theorem onReadBin_ranks (h : TowerKept s) (link : Lane) (tag : Byte) (body : List Byte) :
    RanksGo a s (onReadBin link tag body s) := by
  refine withLength_ranks h ?_
  split <;> exact .same h (by simp)

theorem onReadStatus_ranks (h : TowerKept s) (link : Lane) (tag : Byte) (body : List Byte) :
    RanksGo a s (onReadStatus link tag body s) :=
  withLength_ranks h (.same h (by simp))

/-! ## Frames and bytes (R141 to R143) -/

theorem handOver_tableKept (h : TowerKept s) (k : DownKind) (link : Lane) (tag : Byte) (body : List Byte) :
    TableKept s (handOver k link tag body s) := by
  cases k with
  | sheetAnnounce => exact (onSheetAnnounce_ranks h ..).tableKept
  | loadClass => exact onLoadClass_tableKept h ..
  | unloadClass => exact onUnloadClass_tableKept h ..
  | lockClass => exact onLockClass_tableKept h ..
  | setRosterMark => exact (onSetRosterMark_ranks h ..).tableKept
  | closeClass => exact (onCloseClass_ranks h ..).tableKept
  | loadAssignment => exact (onLoadAssignment_ranks (a := .row) h ..).tableKept
  | loadMedia => exact (onLoadMedia_ranks (a := .row) h ..).tableKept
  | loadBin => exact (onLoadBin_ranks (a := .row) h ..).tableKept
  | loadSettings => exact (onLoadSettings_ranks (a := .row) h ..).tableKept
  | laneClear => exact (onLaneClear_ranks h ..).tableKept
  | finisherClear => exact (onFinisherClear_ranks h ..).tableKept
  | suspendFinishing => exact (onSuspendFinishing_ranks (a := .row) h ..).tableKept
  | resumeFinishing => exact (onResumeFinishing_ranks (a := .row) h ..).tableKept
  | fenceSlot => exact (onFenceSlot_ranks (a := .row) h ..).tableKept
  | unfenceSlot => exact (onUnfenceSlot_ranks h ..).tableKept
  | purge => exact (onPurge_ranks h ..).tableKept
  | readAttention => exact (onReadAttention_ranks (a := .row) h ..).tableKept
  | readClass => exact (onReadClass_ranks (a := .row) h ..).tableKept
  | readSlot => exact (onReadSlot_ranks (a := .row) h ..).tableKept
  | readBin => exact (onReadBin_ranks (a := .row) h ..).tableKept
  | readStatus => exact (onReadStatus_ranks (a := .row) h ..).tableKept

theorem tableKept_of_same (h : TowerKept s) (ht : t.classes = s.classes ∧ t.held = s.held) : TableKept s t :=
  (RanksGo.same (a := .row) h ht).tableKept

theorem testKind_tableKept (h : TowerKept s) (link : Lane) (kind tag : Byte) (body : List Byte) :
    TableKept s (testKind link kind tag body s) := by
  unfold testKind
  split
  · exact handOver_tableKept h ..
  · exact tableKept_of_same h (by simp)

theorem onByte_tableKept (h : TowerKept s) (link : Lane) (b : Byte) : TableKept s (onByte link b s) := by
  unfold onByte
  split
  · split <;> exact tableKept_of_same h (by simp)
  · unfold takeByte
    dsimp only
    split
    · exact tableKept_of_same h (by simp)
    · split
      · exact tableKept_of_same h (by simp)
      · have received := (setRx_follows link .hunt s).tower h
        unfold completeFrame
        dsimp only
        split
        · exact TableKept.after (t := setRx link .hunt s) (testKind_tableKept received ..) (by simp)
        · exact tableKept_of_same h (by simp [discardFrame])

/-! ## Every command -/

/-- Every command but power-on keeps to the table from a state that the tower's law holds in. -/
theorem exec_tableKept {i : Instr} (hs : TowerKept s) (h : exec i s = .next t) (hi : i ≠ .powerOn) : TableKept s t := by
  have frame : ∀ (k : DownKind) (link : Lane) (tag : Byte) (body : List Byte),
      TableKept s (handOver k link tag body (frameCompleted link s)) := fun k link tag body =>
    (handOver_tableKept ((frameCompleted_follows link s).tower hs) k link tag body).after (by simp)
  have begun : TowerKept (beginEvent s) := (beginEvent_follows s).tower hs
  have event : ∀ {a : Pace} {u : State}, RanksGo a (beginEvent s) u → TableKept s u := fun hu => hu.tableKept.after (by simp)
  have quiet : ∀ {u : State}, RanksGo .row (beginEvent s) u → TableKept s u := event
  cases i with
  | powerOn => exact absurd rfl hi
  | sheetAnnounce link body => cases h; exact frame .sheetAnnounce link 0#8 body
  | loadClass link tag body => cases h; exact frame .loadClass link tag body
  | unloadClass link tag body => cases h; exact frame .unloadClass link tag body
  | lockClass link tag body => cases h; exact frame .lockClass link tag body
  | setRosterMarkExcuse link tag fields => cases h; exact frame .setRosterMark link tag _
  | setRosterMarkExpect link tag fields => cases h; exact frame .setRosterMark link tag _
  | setRosterMarkRetry link tag fields => cases h; exact frame .setRosterMark link tag _
  | closeClass link tag body => cases h; exact frame .closeClass link tag body
  | loadAssignment link tag body => cases h; exact frame .loadAssignment link tag body
  | loadMedia link tag body => cases h; exact frame .loadMedia link tag body
  | loadSettings link tag body => cases h; exact frame .loadSettings link tag body
  | loadBin link tag body => cases h; exact frame .loadBin link tag body
  | laneClear link tag body => cases h; exact frame .laneClear link tag body
  | finisherClearRetry link tag fields => cases h; exact frame .finisherClear link tag _
  | finisherClearRemoved link tag fields => cases h; exact frame .finisherClear link tag _
  | fenceSlot link tag body => cases h; exact frame .fenceSlot link tag body
  | unfenceSlot link tag body => cases h; exact frame .unfenceSlot link tag body
  | suspendFinishing link tag body => cases h; exact frame .suspendFinishing link tag body
  | resumeFinishing link tag body => cases h; exact frame .resumeFinishing link tag body
  | purge link tag body => cases h; exact frame .purge link tag body
  | readClass link tag body => cases h; exact frame .readClass link tag body
  | readSlot link tag body => cases h; exact frame .readSlot link tag body
  | readBin link tag body => cases h; exact frame .readBin link tag body
  | readAttention link tag body => cases h; exact frame .readAttention link tag body
  | readStatus link tag body => cases h; exact frame .readStatus link tag body
  | badCheckFrame link => cases h; exact tableKept_of_same hs (by simp [discardFrame])
  | unknownKindFrame link kind tag body =>
    cases h
    exact (testKind_tableKept ((frameCompleted_follows link s).tower hs) link kind tag body).after (by simp)
  | frameGapExpiry link => cases h; exact quiet (onFrameGap_ranks begun link)
  | frameSent link => cases h; exact quiet (.same begun (by simp [onFrameSent]))
  | laneEntry l => cases h; exact event (onLaneEntry_ranks begun l)
  | laneJam l => cases h; exact quiet (onLaneJam_ranks begun l)
  | transitTimerExpiry l => cases h; exact quiet (onTransitExpiry_ranks begun l)
  | collectionTimerExpiry n => cases h; exact event (onCollectionExpiry_ranks begun n)
  | transferDone => cases h; exact event (onTransferDone_ranks begun)
  | jogDone => cases h; exact quiet (onJogDone_ranks begun)
  | stapleDone => cases h; exact quiet (onStapleDone_ranks begun)
  | stapleMisfire => cases h; exact quiet (onMisfire_ranks begun)
  | ejectDone => cases h; exact event (onEjectDone_ranks begun)
  | finisherJam => cases h; exact quiet (.same begun (by simp))
  | stageLimitExpiry => cases h; exact quiet (onStageLimit_ranks begun)
  | binFull b => cases h; exact quiet (.same begun (by simp))
  | binRemoved b => cases h; exact quiet (.same begun (by simp))
  | binReplaced b => cases h; exact quiet ((RanksGo.same begun (by simp)).endEvent _ _)
  | exceptionTrayEmptied => cases h; exact quiet (onTrayEmptied_ranks begun)
  | cartridgeInserted => cases h; exact quiet ((RanksGo.same begun (by simp)).endEvent _ _)
  | take => cases h; exact quiet ((RanksGo.start .row (heldRanks_of_towerKept begun)).order (selectionPass_moves _))
  | slotGift n => cases h; exact event (onSlotGift_ranks begun n)
  | purgeCompletion => cases h; exact quiet (.same begun (by simp))
  | byteReceived link b => cases h; exact (onByte_tableKept begun link b).after (by simp)

end

/-- Settles O15: every command keeps to the table, for the tower's law ties each rank that an event changes to the packet, key or
mark that changes it. -/
theorem rankChangesFollowTheTable : Obligations.RankChangesFollowTheTable := by
  intro i s t k x hs h hi
  exact (exec_tableKept hs h hi).ranks k x

end Sys2Proof.Tower

namespace Sys2Proof.Tower

open Sys2Proof.Machine Sys2Proof.Safety Sys2Proof.ClassTable Sys2Proof.Requests Sys2Proof.Events Sys2Proof.Lanes

/-! # Relief (R85, R87) -/

section
variable {s : State} {j k : Key} {n : Fin 24} {p : Packet} {m : Bool} {rest : List Key}

/-! ## A packet sent out of roster order, part by part -/

/-- A packet that relief sends: flagged, and QUEUED (R87). -/
def Packet.sentOut (p : Packet) : Packet := { p with flags := { p.flags with relieved := true }, state := .queued }

theorem packet_relievedOut (hp : s.packet k = some p) (j : Key) :
    (relievedOut k s).packet j = if j = k then some (Packet.sentOut p) else s.packet j := by
  have hmarked := packet_markedRelieved k s
  rw [packet_congr (s := movePacket k .queued (markedRelieved k s)) (by simp [relievedOut]), packet_movePacket, hmarked, hmarked,
    if_pos rfl, hp]
  split <;> rfl

theorem slot_relievedOut (hp : s.packet k = some p) (hn : p.slot = some n) (hs : s.slot n = .occupied .held m k) (i : Fin 24) :
    (relievedOut k s).slot i = if i = n then .occupied .queued m k else s.slot i := by
  have hmarked : (markedRelieved k s).slotOf k = some n := by
    rw [slotOf_of_packet (p := { p with flags := { p.flags with relieved := true } })]
    · exact hn
    · rw [packet_markedRelieved, if_pos rfl, hp]
      rfl
  rw [slot_congr (s := movePacket k .queued (markedRelieved k s)) (by simp [relievedOut]), slot_movePacket, hmarked,
    slot_congr (s := s) (by simp [markedRelieved])]
  by_cases hi : i = n
  · rw [hi, hs, if_pos rfl, if_pos rfl]
    rfl
  · rw [if_neg fun e => hi (Option.some.inj e).symm, if_neg hi]

theorem classRec_relievedOut (k : Key) (s : State) (c : Nat) :
    (relievedOut k s).classRec c = (setRank k .relieved s).classRec c := by
  have hsame : ∀ d, (leaveHeld k (updateFlags k (fun f => { f with relieved := true }) s)).classRec d = s.classRec d :=
    classRec_congr (by simp)
  rw [classRec_congr (s := markedRelieved k s) (by simp [relievedOut]), markedRelieved, classRec_setRank, classRec_setRank,
    hsame, hsame]

theorem rankAt_relievedOut (hr : (s.rankAt k).isSome) (j : Key) :
    (relievedOut k s).rankAt j = if j = k then some .relieved else s.rankAt j := by
  rw [State.rankAt, classRec_relievedOut, ← State.rankAt, rankAt_setRank]
  simp [hr]

theorem held_relievedOut (k : Key) (s : State) : (relievedOut k s).held = s.held.filter (fun h => h ≠ k) := by
  simp [relievedOut, markedRelieved, leaveHeld]

theorem queued_relievedOut (k : Key) (s : State) :
    (relievedOut k s).queued = s.queued ++ [{ queue := s.classQueue k.cls, key := k }] := by
  simp [relievedOut, markedRelieved, joinFinishing]

theorem flags_relievedOut (k : Key) (s : State) : (relievedOut k s).flags = s.flags ||| BitVec.twoPow 12 7 := by
  simp [relievedOut, markedRelieved, raise, Cause.bit]

theorem onlyChanges_relievedOut (k : Key) (s : State) :
    OnlyChanges [.classes, .slots, .packets, .held, .queued, .flags] s (relievedOut k s) :=
  have marked := OnlyChanges.append (onlyChanges_updatePacket k _ s)
    (OnlyChanges.append (onlyChanges_setHeld _ _) (onlyChanges_setRank k .relieved _))
  have moved := OnlyChanges.append (onlyChanges_movePacket k .queued _) (onlyChanges_setQueued _ _)
  (OnlyChanges.append marked (OnlyChanges.append moved (onlyChanges_raise .orderRelief _))).mono (by simp)

/-! ## What relief finds, and that no cursor moves -/

/-- The first key of the held list has its packet HELD in a slot (R51, R84). -/
theorem Agrees.held_facts {o : Option Key} {f : Option (Fin 24)} (h : Agrees o f s) (hk : k ∈ s.held) :
    ∃ p n m, s.packet k = some p ∧ p.slot = some n ∧ s.slot n = .occupied .held m k := by
  obtain ⟨p, hp, hx⟩ := stateOf_eq_some.mp ((h.fits k).held.mp hk)
  obtain ⟨n, hn⟩ := h.exists_slot hp (by simp [hx])
  obtain ⟨g, m, hs, hg⟩ := h.slot_of_packet hp hn
  rw [hx] at hg
  cases hg
  exact ⟨p, n, m, hp, hn, hs⟩

/-- The rank that relief sends is not the one at the cursor, so the cursor stays (R78, R87). -/
theorem relieve_eq_relievedOut (ht : TowerKept s) (hc : ClassesKept s) (hk : k ∈ s.held) : relieve k s = relievedOut k s := by
  have h := agrees_of_towerKept ht
  obtain ⟨p, n, m, hp, -, -⟩ := h.held_facts hk
  have hheld : s.rankAt k = some .held := h.listedRanks.held k hk
  obtain ⟨hshape, hrest⟩ := (classKept_iff _).mp (hc k.cls)
  have haway : k.rank ≠ (s.classRec k.cls).cursor := by
    intro e
    have hlt : k.rank < (s.classRec k.cls).size := (hshape.rankAt_isSome _).mp (by rw [← State.rankAt, hheld]; rfl)
    have hcursor := hrest (e ▸ hlt)
    rw [← e, ← State.rankAt, hheld] at hcursor
    simp at hcursor
  have hrec : (relievedOut k s).classRec k.cls = (s.classRec k.cls).withRank k.rank .relieved := by
    rw [classRec_relievedOut, classRec_setRank, if_pos ⟨rfl, lt_of_rankAt hheld⟩]
  have hsent : (relievedOut k s).packet k = some (Packet.sentOut p) := by rw [packet_relievedOut hp, if_pos rfl]
  obtain ⟨hmem, hkey⟩ := mem_of_packet hsent
  rw [relieve_eq]
  refine orderStep_of_atRest (hrec ▸ hshape.withRank (.inr (by decide))) (hrec ▸ hrest.withRank (.inl haway)) hmem ?_
  rw [hkey]

theorem tryRelief_of_due (ht : TowerKept s) (hc : ClassesKept s) (hdue : ReliefDue s) (hheld : s.held = k :: rest) :
    tryRelief s = relievedOut k s := by
  have e : tryRelief s = relieve k s := by simp [tryRelief, (reliefCondition_iff s).mpr hdue, hheld]
  rw [e, relieve_eq_relievedOut ht hc (by simp [hheld])]

end

/-- Settles O46: the five conditions are the model's test of relief, and a relief of the first held key is `relievedOut`. -/
theorem reliefSendsThePacketHeldLongest : Obligations.ReliefSendsThePacketHeldLongest := by
  intro s ht hc five
  refine ⟨fun hnot => tryRelief_of_not_due hnot, fun k rest hfive hheld => ?_⟩
  have hk : k ∈ s.held := by simp [hheld]
  have h := agrees_of_towerKept ht
  obtain ⟨p, n, m, hp, hn, hs⟩ := h.held_facts hk
  have hnodup : k ∉ rest := (List.nodup_cons.mp (hheld ▸ h.heldOnce)).1
  obtain ⟨-, -, hqueued, -, -⟩ := id hfive
  rw [tryRelief_of_due ht hc hfive hheld]
  refine ⟨p, n, m, hp, hn, hs, ?_, fun j hj => ?_, slot_relievedOut hp hn hs, rankAt_relievedOut (h.rank_isSome hp), fun c => ?_,
    ?_, ?_, flags_relievedOut k s, onlyChanges_relievedOut k s⟩
  · rw [packet_relievedOut hp, if_pos rfl]
    rfl
  · rw [packet_relievedOut hp, if_neg hj]
  · rw [classRec_relievedOut, classRec_setRank]
    split
    · rename_i e
      rw [e.1, withRank_cursor]
    · rfl
  · rw [held_relievedOut, hheld, List.filter_cons_of_neg (by simp), List.filter_eq_self]
    rintro j hj
    simpa using fun e : j = k => hnodup (e ▸ hj)
  · rw [queued_relievedOut, hqueued]
    rfl

end Sys2Proof.Tower

namespace Sys2Proof.Tower

open Sys2Proof.Machine Sys2Proof.Safety Sys2Proof.ClassTable Sys2Proof.Requests Sys2Proof.Events Sys2Proof.Lanes

/-! # The cursor advance releases in rank order (R79 to R81) -/

/-- Packets of these keys, and their slots, are QUEUED; the keys have left the held list and stand at the end of a queue. -/
structure ReleasesKeys (q : QueueName) (ks : List Key) (s t : State) : Prop where
  queued : t.queued = s.queued ++ ks.map (fun k => { queue := q, key := k })
  held : t.held = s.held.filter (fun k => k ∉ ks)
  packets : ∀ j, t.packet j = if j ∈ ks then (s.packet j).map (fun p => { p with state := .queued }) else s.packet j
  slots : ∀ n, t.slot n = if ∃ k ∈ ks, s.slotOf k = some n then (s.slot n).withHold .queued else s.slot n

/-- The HELD ranks among the `n` ranks from the cursor on, in rank order. -/
def heldFrom (r : ClassRec) (n : Nat) : List Nat := (List.range' r.cursor n).filter (fun k => r.rankAt k = some .held)

/-- The keys that the advance of a class releases on the way to another record of it. -/
def releasedKeys (c : Nat) (r r' : ClassRec) : List Key :=
  (heldFrom r (r'.cursor - r.cursor)).map (fun k => { cls := c, rank := k })

section
variable {s t u : State} {c fuel k : Nat} {j : Key} {n : Fin 24} {q : QueueName} {ks ks' : List Key} {r r' : ClassRec}

/-! ## Released keys, one after the other -/

theorem withHold_withHold (g g' : SlotHold) (x : Slot) : (x.withHold g).withHold g' = x.withHold g' := by cases x <;> rfl

theorem ReleasesKeys.refl (q : QueueName) (s : State) : ReleasesKeys q [] s s where
  queued := by simp
  held := by simp
  packets := by simp
  slots := by simp

theorem ReleasesKeys.slotOf (h : ReleasesKeys q ks s t) (j : Key) : t.slotOf j = s.slotOf j := by
  rw [slotOf_eq, slotOf_eq, h.packets]
  split
  · cases s.packet j <;> rfl
  · rfl

theorem ReleasesKeys.trans (h : ReleasesKeys q ks s t) (h' : ReleasesKeys q ks' t u) : ReleasesKeys q (ks ++ ks') s u where
  queued := by rw [h'.queued, h.queued, List.map_append, List.append_assoc]
  held := by
    rw [h'.held, h.held, List.filter_filter]
    exact List.filter_congr fun k _ => by simp [Bool.and_comm]
  packets j := by
    rw [h'.packets, h.packets]
    by_cases hj : j ∈ ks <;> by_cases hj' : j ∈ ks' <;> simp [hj, hj', Function.comp_def]
  slots n := by
    have hiff : (∃ k ∈ ks ++ ks', s.slotOf k = some n) ↔ (∃ k ∈ ks, s.slotOf k = some n) ∨ ∃ k ∈ ks', s.slotOf k = some n := by
      simp [or_and_right, exists_or]
    simp only [h'.slots, h.slots, h.slotOf, hiff]
    by_cases hn : ∃ k ∈ ks, s.slotOf k = some n <;> by_cases hn' : ∃ k ∈ ks', s.slotOf k = some n <;>
      simp only [hn, hn', or_self, or_true, true_or, if_true, if_false, withHold_withHold]

/-- Operations that leave packets, slots and lists. -/
theorem ReleasesKeys.still (h : ReleasesKeys q ks s t) (hp : u.packets = t.packets) (hs : u.slots = t.slots)
    (hh : u.held = t.held) (hq : u.queued = t.queued) : ReleasesKeys q ks s u where
  queued := by rw [hq, h.queued]
  held := by rw [hh, h.held]
  packets j := by rw [packet_congr hp, h.packets]
  slots n := by rw [slot_congr hs, h.slots]

theorem release_releasesKeys (j : Key) (s : State) : ReleasesKeys (s.classQueue j.cls) [j] s (release j s) where
  queued := (release_lists j s).1
  held := by
    rw [(release_lists j s).2]
    simp
  packets i := by
    rw [packet_release]
    by_cases hi : i = j
    · simp [hi]
    · simp [hi]
  slots n := by
    rw [slot_release]
    simp

/-! ## One step, and the whole advance -/

theorem classQueue_passOver (hc : c < 48) (s : State) : (passOver c s).classQueue c = s.classQueue c := by
  rw [State.classQueue, classRec_passOver hc, if_pos rfl, (sameLoad_passRank _).priority, State.classQueue]

/-- One step of the advance releases the rank at the cursor, where that is HELD. -/
theorem passOver_releasesKeys (c : Nat) (s : State) :
    ReleasesKeys (s.classQueue c) ((heldFrom (s.classRec c) 1).map fun k => { cls := c, rank := k }) s (passOver c s) := by
  have bumped : ∀ {u : State} {ks}, ReleasesKeys (s.classQueue c) ks s u → ReleasesKeys (s.classQueue c) ks s (bumpCursor c u) :=
    fun h => h.still (by simp) (by simp) (by simp) (by simp)
  unfold passOver
  split
  · rename_i hheld
    simpa [heldFrom, hheld] using bumped (release_releasesKeys { cls := c, rank := (s.classRec c).cursor } s)
  · rename_i hheld
    simpa [heldFrom, hheld] using bumped (.refl _ s)

/-- The HELD ranks from the cursor on are the one at the cursor and those behind it. -/
theorem heldFrom_passRank (r : ClassRec) (n : Nat) : heldFrom r (n + 1) = heldFrom r 1 ++ heldFrom (passRank r) n := by
  have hbehind : (List.range' (r.cursor + 1) n).filter (fun k => r.rankAt k = some .held) = heldFrom (passRank r) n := by
    refine List.filter_congr fun k hk => ?_
    have hne : k ≠ r.cursor := by
      have := (List.mem_range'_1.mp hk).1
      omega
    rw [rankAt_passRank, if_neg fun e => hne e.1]
  rw [heldFrom, heldFrom, List.range'_succ, ← hbehind, ← List.filter_append]
  rfl

theorem advance_releasesKeys (hc : c < 48) (fuel : Nat) (s : State) :
    ReleasesKeys (s.classQueue c) (releasedKeys c (s.classRec c) (advanced fuel (s.classRec c))) s (advance c fuel s) := by
  induction fuel generalizing s with
  | zero => simpa [releasedKeys, heldFrom, advanced, advance] using ReleasesKeys.refl _ s
  | succ fuel ih =>
    rw [advance_succ, advanced]
    split
    · have hstep := (passOver_releasesKeys c s).trans (classQueue_passOver hc s ▸ ih (passOver c s))
      rw [classRec_passOver hc, if_pos rfl, releasedKeys, ← List.map_append, passRank_cursor, ← heldFrom_passRank] at hstep
      have hle := (advanced_spec fuel (passRank (s.classRec c))).1
      rw [passRank_cursor] at hle
      rwa [show (advanced fuel (passRank (s.classRec c))).cursor - ((s.classRec c).cursor + 1) + 1
        = (advanced fuel (passRank (s.classRec c))).cursor - (s.classRec c).cursor by omega] at hstep
    · simpa [releasedKeys, heldFrom] using ReleasesKeys.refl _ s

theorem cursorAdvance_releasesKeys (hc : c < 48) (s : State) :
    ReleasesKeys (s.classQueue c) (releasedKeys c (s.classRec c) ((cursorAdvance c s).classRec c)) s (cursorAdvance c s) := by
  rw [classRec_cursorAdvance, if_pos rfl]
  exact advance_releasesKeys hc _ s

/-- The released keys are those of the HELD ranks that the cursor passes. -/
theorem mem_releasedKeys_iff : j ∈ releasedKeys c r r'
    ↔ j.cls = c ∧ r.cursor ≤ j.rank ∧ j.rank < r'.cursor ∧ r.rankAt j.rank = some .held := by
  have hrange : ∀ k, (r.cursor ≤ k ∧ k < r.cursor + (r'.cursor - r.cursor)) ↔ r.cursor ≤ k ∧ k < r'.cursor := fun k => by omega
  simp only [releasedKeys, heldFrom, List.mem_map, List.mem_filter, List.mem_range'_1, decide_eq_true_eq, hrange, and_assoc]
  constructor
  · rintro ⟨k, hlo, hhi, hk, rfl⟩
    exact ⟨rfl, hlo, hhi, hk⟩
  · rintro ⟨rfl, h⟩
    exact ⟨j.rank, h.1, h.2.1, h.2.2, rfl⟩

/-! ## Where the cursor stops -/

theorem any_isPassed_iff (x : Option RankState) : x.any isPassed = true
    ↔ x = some .excused ∨ x = some .missed ∨ x = some .relieved ∨ x = some .held := by
  cases x with
  | none => simp
  | some x => cases x <;> simp [isPassed]

/-- The advance uses up its fuel, or stops at a rank that it does not pass. -/
theorem advanced_stops (fuel : Nat) (r : ClassRec) : (advanced fuel r).cursor = r.cursor + fuel
    ∨ (r.rankAt (advanced fuel r).cursor).any isPassed = false := by
  induction fuel generalizing r with
  | zero => exact .inl rfl
  | succ fuel ih =>
    unfold advanced
    split
    · have hle := (advanced_spec fuel (passRank r)).1
      rw [passRank_cursor] at hle
      refine (ih (passRank r)).imp (fun e => ?_) fun e => ?_
      · rw [e, passRank_cursor]
        omega
      · rwa [rankAt_passRank, if_neg (by omega)] at e
    · rename_i hstop
      exact .inr (by simpa using hstop)

/-- The cursor goes no further than the size. -/
theorem advanced_cursor_le (hr : ∀ k, r.size ≤ k → r.rankAt k = none) (hcur : r.cursor ≤ r.size) (fuel : Nat) :
    (advanced fuel r).cursor ≤ r.size := by
  obtain ⟨-, hpass, -⟩ := advanced_spec fuel r
  by_contra hlt
  have := hpass r.size hcur (Nat.lt_of_not_le hlt)
  rw [hr _ (Nat.le_refl _)] at this
  cases this

end

/-- Settles O28: the record by `advanced_spec`, and packets, slots and lists by the keys that the advance releases. -/
theorem cursorAdvanceReleasesInRosterOrder : Obligations.CursorAdvanceReleasesInRosterOrder := by
  intro c s b hc hb hlen hcur r t r' passes
  have hsize : r.size = b.size := by simp [r, ClassRec.size, hb]
  have hr' : r' = advanced r.size r := by simp [r', t, classRec_cursorAdvance, r]
  have hnone : ∀ k, r.size ≤ k → r.rankAt k = none := fun k hk => by
    simpa [r, ClassRec.rankAt, hb, hlen, ← hsize] using hk
  obtain ⟨hle, hpass, hrank⟩ := advanced_spec r.size r
  rw [← hr'] at hle hpass hrank
  have released : ReleasesKeys (s.classQueue c) (releasedKeys c r r') s t := cursorAdvance_releasesKeys hc s
  have hmem : ∀ j, j ∈ releasedKeys c r r' ↔ j.cls = c ∧ passes j.rank := fun j => mem_releasedKeys_iff
  refine ⟨hle, ?_, fun k h1 h2 => (any_isPassed_iff _).mp (hpass k h1 h2), fun hlt => ?_, fun k hk => ?_, fun k hk => ?_, ?_, ?_,
    fun k hk => ?_, fun j hj => ?_, fun n k h m j hk hn hs => ?_, fun n hn => ?_, fun d hd => ?_,
    (cursorAdvance_releases c s).parts.mono (by simp)⟩
  · rw [hr', ← hsize]
    exact advanced_cursor_le hnone (by rw [hsize]; exact hcur) _
  · have hstop : (r.rankAt r'.cursor).any isPassed = false := by
      rw [hr'] at hlt ⊢
      exact (advanced_stops r.size r).resolve_left (by omega)
    simpa only [not_or] using (any_isPassed_iff _).not.mp (by simp [hstop])
  · rw [hrank, if_pos ⟨⟨hk.1, hk.2.1⟩, hk.2.2⟩]
  · rw [hrank, if_neg fun e => hk ⟨e.1.1, e.1.2, e.2⟩]
  · rw [released.queued, releasedKeys, heldFrom, List.map_map]
    rfl
  · rw [released.held]
    exact List.filter_congr fun j _ => by simp [hmem]
  · rw [released.packets, if_pos ((hmem _).mpr ⟨rfl, hk⟩)]
  · rw [released.packets, if_neg ((hmem j).not.mpr hj)]
  · rw [released.slots, if_pos ⟨_, (hmem _).mpr ⟨rfl, hk⟩, hn⟩, hs]
    rfl
  · rw [released.slots, if_neg]
    rintro ⟨j, hj, hjn⟩
    obtain ⟨rfl, hk⟩ := (hmem j).mp hj
    exact hn j.rank hk hjn
  · rw [classRec_cursorAdvance, if_neg hd]

end Sys2Proof.Tower

namespace Sys2Proof.Finishing

open Sys2Proof.Machine

/-! # The budget of a packet (R97 to R102) -/

section
variable {t : Settings} {p : Packet}

theorem trayBound_iff (f : PacketFlags) : f.trayBound = true ↔ f.stale = true ∨ f.disordered = true := by
  simp [PacketFlags.trayBound]

theorem budgetOf_of_trayBound (h : p.flags.trayBound = true) :
    budgetOf t p = { staplesNeeded := 0, overcap := false, loft := none, units := 0 } := if_pos h

theorem budgetOf_of_not_trayBound (h : ¬p.flags.trayBound = true) :
    budgetOf t p = { staplesNeeded := staplesFor t p, overcap := overcapacity t p, loft := some (loftFor t p),
                     units := binUnits p.height (loftFor t p) t.scale } := if_neg h

/-! ## Staples and loft (R99 to R101) -/

theorem overcapacity_iff : overcapacity t p = true ↔ p.snapshot.pattern ≠ .none ∧ t.staplerCapacity < p.height := by
  simp [overcapacity]

/-- A pattern without staples needs none at any height, so only the height decides. -/
theorem staplesFor_eq (t : Settings) (p : Packet) :
    staplesFor t p = if t.staplerCapacity < p.height then 0 else p.snapshot.pattern.staples := by
  by_cases hpat : p.snapshot.pattern = .none
  · simp [staplesFor, hpat, Pattern.staples]
  · simp [staplesFor, overcapacity_iff, hpat]

theorem loftFor_of_staples (h : 1 ≤ staplesFor t p) : loftFor t p = t.loftStapled := if_neg (by omega)

theorem loftFor_of_no_staples (h : staplesFor t p = 0) : loftFor t p = t.loftPlain := if_pos h

/-! ## Units (R102) -/

/-- Euclid's division with 1 more for a remainder: the least number of units that holds the product. -/
theorem binUnits_roundsUp (height loft scale : Nat) :
    height * loft ≤ binUnits height loft scale * 2 ^ (4 + scale)
      ∧ binUnits height loft scale * 2 ^ (4 + scale) < height * loft + 2 ^ (4 + scale) := by
  rw [binUnits, Nat.shiftRight_eq_div_pow]
  have hpos : 0 < 2 ^ (4 + scale) := Nat.two_pow_pos _
  generalize height * loft = x
  generalize 2 ^ (4 + scale) = y at hpos
  have hdiv : x / y * y + x % y = x := Nat.div_add_mod' x y
  have hmod : x % y < y := Nat.mod_lt x hpos
  split
  · rw [Nat.add_zero]
    omega
  · rw [Nat.add_mul, Nat.one_mul]
    omega

end

/-- Settles O47: the two branches of the budget, with the staples by `staplesFor_eq` and the units by `binUnits_roundsUp`. -/
theorem budgetFollowsHeightPatternAndSettings : Obligations.BudgetFollowsHeightPatternAndSettings := by
  intro t p b byPattern
  have hpattern : byPattern = p.snapshot.pattern.staples := by
    cases h : p.snapshot.pattern <;> simp [byPattern, h, Pattern.staples]
  refine ⟨fun htray => ?_, fun hstale hdis => ?_⟩
  · have hb : b = _ := budgetOf_of_trayBound ((trayBound_iff _).mpr htray)
    rw [hb]
    exact ⟨rfl, rfl, rfl⟩
  · have hb : b = _ := budgetOf_of_not_trayBound (by simp [trayBound_iff, hstale, hdis])
    rw [hb, hpattern]
    refine ⟨fun hle => ⟨?_, ?_⟩, fun hgt => ⟨?_, ?_⟩, loftFor t p, rfl, loftFor_of_staples, loftFor_of_no_staples,
      binUnits_roundsUp _ _ _⟩
    · exact (staplesFor_eq t p).trans (if_neg (by omega))
    · exact Bool.eq_false_iff.mpr fun h => absurd (overcapacity_iff.mp h).2 (by omega)
    · exact (staplesFor_eq t p).trans (if_pos hgt)
    · exact overcapacity_iff.trans (and_iff_left hgt)

end Sys2Proof.Finishing

namespace Sys2Proof.Finishing

open Sys2Proof.Machine

/-! # The examination of a queued packet (R103, R110 to R112) -/

section
variable {s : State} {q : Queued} {p : Packet} {n : Fin 17} {units : Nat} {target : Target}

theorem canTake_iff (b : Bin) (units : Nat) :
    b.canTake units = true ↔ b.state = .ready ∧ b.fill + b.reserved + units ≤ b.capacity := by
  simp [Bin.canTake]

/-! ## The order condition (R110) -/

/-- An entry is the first of a list with a property just where no entry before its own first place has the property. -/
theorem find?_eq_some_iff_none_before {α : Type} {P : α → Bool} {l : List α} {a : α} (ha : a ∈ l) (hP : P a = true) :
    l.find? P = some a ↔ ¬∃ before after x, l = before ++ a :: after ∧ a ∉ before ∧ x ∈ before ∧ P x = true := by
  constructor
  · rintro hfind ⟨before, after, x, rfl, hnot, hx, hPx⟩
    obtain ⟨y, hy⟩ := Option.isSome_iff_exists.mp (List.find?_isSome.mpr ⟨x, hx, hPx⟩)
    rw [List.find?_append, hy, Option.some_or] at hfind
    cases hfind
    exact hnot (List.mem_of_find?_eq_some hy)
  · intro hnone
    obtain ⟨before, after, hl, hnot⟩ := List.eq_append_cons_of_mem ha
    refine List.find?_eq_some_iff_append.mpr ⟨hP, before, after, hl, fun x hx => ?_⟩
    simpa using fun hPx => hnone ⟨before, after, x, hl, hnot, hx, hPx⟩

theorem orderPasses_of_trayBound (h : p.flags.trayBound = true) : s.orderPasses q p = true := by
  simp [State.orderPasses, h]

/-- A packet bound for a bin passes where no older entry of its class stands in either queue. -/
theorem orderPasses_iff_none_older (h : ¬p.flags.trayBound = true) (hq : q ∈ s.queued) :
    s.orderPasses q p = true
      ↔ ¬∃ before after x, s.queued = before ++ q :: after ∧ q ∉ before ∧ x ∈ before ∧ x.key.cls = q.key.cls := by
  have hfind := find?_eq_some_iff_none_before (P := fun e => decide (e.key.cls = q.key.cls)) hq (decide_eq_true rfl)
  simp only [decide_eq_true_eq] at hfind
  simpa [State.orderPasses, h] using hfind

/-! ## The destination (R111) -/

theorem destination_of_trayBound (h : p.flags.trayBound = true) (units : Nat) :
    s.destination p units = if s.tray + p.sheetsHeld ≤ s.settings.exceptionCapacity then some .tray else none := if_pos h

theorem destination_own (h : ¬p.flags.trayBound = true) (hown : s.returnBin p.key.cls = some n)
    (htake : (s.bin n).canTake units = true) : s.destination p units = some (.bin n) := by
  simp [State.destination, h, hown, htake]

/-- A packet whose class's bin cannot receive it, or whose class has none, is left to bin 16. -/
theorem destination_overflow (h : ¬p.flags.trayBound = true)
    (hown : ∀ n, s.returnBin p.key.cls = some n → ¬(s.bin n).canTake units = true) :
    s.destination p units = if (s.bin 16).canTake units then some (.bin 16) else none := by
  cases hbin : s.returnBin p.key.cls with
  | none => simp [State.destination, h, hbin]
  | some n => simp [State.destination, h, hbin, hown n hbin]

/-! ## The outcomes of an examination (R109 to R112) -/

theorem examine_of_not_orderPasses (hp : s.packet q.key = some p) (ho : ¬s.orderPasses q p = true) :
    examine q s = .passedOver := by
  simp [examine, hp, ho]

theorem examine_of_no_destination (hp : s.packet q.key = some p) (ho : s.orderPasses q p = true)
    (hd : s.destination p (budgetOf s.settings p).units = none) : examine q s = .blocked (blockedCause p) := by
  simp [examine, hp, ho, hd]

theorem examine_of_destination (hp : s.packet q.key = some p) (ho : s.orderPasses q p = true)
    (hd : s.destination p (budgetOf s.settings p).units = some target) :
    examine q s = if (budgetOf s.settings p).staplesNeeded ≤ s.fin.supply then .eligible target (budgetOf s.settings p)
      else .blocked .staplesOut := by
  simp [examine, hp, ho, hd]

end

/-- Settles O48: the order by `orderPasses_iff_none_older`, then the destination found, then the staples against the supply. -/
theorem examinationTestsOrderDestinationAndStaples : Obligations.ExaminationTestsOrderDestinationAndStaples := by
  intro s q p hp hq b forTray older takes own room staples
  have htray : p.flags.trayBound = true ↔ forTray := trayBound_iff p.flags
  have horder (h : ¬forTray) : s.orderPasses q p = true ↔ ¬older := orderPasses_iff_none_older (htray.not.mpr h) hq
  have htakes (n : Fin 17) : (s.bin n).canTake b.units = true ↔ takes n := canTake_iff (s.bin n) b.units
  have hfirst (h : ¬forTray) {n : Fin 17} (hn : s.returnBin p.key.cls = some n) (ht : takes n) :
      s.destination p b.units = some (.bin n) := destination_own (htray.not.mpr h) hn ((htakes n).mpr ht)
  have hsecond (h : ¬forTray) (ho : ¬own) :
      s.destination p b.units = if (s.bin 16).canTake b.units then some (.bin 16) else none :=
    destination_overflow (htray.not.mpr h) fun n hn ht => ho ⟨n, hn, (htakes n).mp ht⟩
  have hlast (h : ¬forTray) (ho : ¬own) (ht : takes 16) : s.destination p b.units = some (.bin 16) :=
    (hsecond h ho).trans (if_pos ((htakes 16).mpr ht))
  refine ⟨fun h hroom => ?_, fun h hroom => ?_, fun h hold => ?_, fun h hold ho ht => ?_, fun h hold hdest hst => ?_,
    fun n h hold hn ht hst => ?_, fun h hold ho ht hst => ?_⟩
  · have hb := htray.mpr h
    have hstaples : b.staplesNeeded ≤ s.fin.supply := by simp [b, budgetOf_of_trayBound hb]
    rw [examine_of_destination hp (orderPasses_of_trayBound hb) ((destination_of_trayBound hb _).trans (if_pos hroom))]
    exact if_pos hstaples
  · have hb := htray.mpr h
    rw [examine_of_no_destination hp (orderPasses_of_trayBound hb) ((destination_of_trayBound hb _).trans (if_neg hroom))]
    simp [blockedCause, hb]
  · exact examine_of_not_orderPasses hp fun e => (horder h).mp e hold
  · rw [examine_of_no_destination hp ((horder h).mpr hold) ((hsecond h ho).trans (if_neg ((htakes 16).not.mpr ht)))]
    simp [blockedCause, htray.not.mpr h]
  · obtain ⟨target, hd⟩ : ∃ target, s.destination p b.units = some target := by
      by_cases ho : own
      · obtain ⟨n, hn, ht⟩ := ho
        exact ⟨_, hfirst h hn ht⟩
      · exact ⟨_, hlast h ho (hdest.resolve_left ho)⟩
    exact (examine_of_destination hp ((horder h).mpr hold) hd).trans (if_neg hst)
  · exact (examine_of_destination hp ((horder h).mpr hold) (hfirst h hn ht)).trans (if_pos hst)
  · exact (examine_of_destination hp ((horder h).mpr hold) (hlast h ho ht)).trans (if_pos hst)

end Sys2Proof.Finishing

namespace Sys2Proof.Finishing

open Sys2Proof.Machine Sys2Proof.Safety Sys2Proof.ClassTable Sys2Proof.Requests Sys2Proof.Events Sys2Proof.Lanes Sys2Proof.Tower

/-! # Faults, suspension and the staple supply (R120, R123 to R125) -/

section
variable {s t u : State} {i : Instr} {g : Stage}

/-! ## The Finishing Unit's part of the state -/

theorem onlyChanges_setFin (v : Finisher) (s : State) : OnlyChanges [.fin] s (s.setFin v) := by
  intro p hp
  cases p <;> simp [Part.Same] at hp ⊢

/-- An event that the rules ignore leaves the state as its event begins in. -/
theorem ignored (h : exec i s = .next (beginEvent s)) :
    ∃ t, exec i s = .next t ∧ t.actions = [] ∧ OnlyChanges [.actions] s t :=
  ⟨beginEvent s, h, rfl, onlyChanges_beginEvent s⟩

/-- A request that gives the unit a state and answers OK. -/
theorem reply_setUnit_answers (l : Lane) (tag kind : Byte) (x : UnitState) (s : State) :
    let t := reply l tag .ok kind [] (setUnit x (frameCompleted l s))
    Answers l tag .ok kind [] s t ∧ t.actions = [] ∧ OnlyChanges [.link l, .fin, .actions] s t
      ∧ t.fin = { s.fin with unit := x } := by
  refine ⟨answers_reply (by simp) (by simp) .., by simp, ?_, by simp [setUnit]⟩
  exact (OnlyChanges.append (onlyChanges_frameCompleted l s)
    (OnlyChanges.append (onlyChanges_setFin _ _) (onlyChanges_reply l tag .ok kind [] _))).mono (by simp)

/-! ## Faults (R120) -/

/-- The unit enters FAULT in an event (R120). -/
theorem enterUnitFault_beginEvent (x : UnitCause) (s : State) :
    let t := enterUnitFault x (beginEvent s)
    t.actions = [] ∧ t.flags = s.flags ||| BitVec.twoPow 12 2 ∧ OnlyChanges [.fin, .flags, .actions] s t
      ∧ t.fin = { s.fin with timer := none, unit := .fault x s.fin.unit.marksSuspend } := by
  refine ⟨by simp [beginEvent], by simp [enterUnitFault, raise, Cause.bit], ?_, by simp [enterUnitFault]⟩
  exact (OnlyChanges.append (onlyChanges_beginEvent s)
    (OnlyChanges.append (onlyChanges_setFin _ _) (onlyChanges_raise .finisherFault _))).mono (by simp)

theorem onMisfire_of_staple (h : s.fin.unit.running = some .staple) : onMisfire s = enterUnitFault .misfire s := if_pos h

theorem onMisfire_of_not_staple (h : s.fin.unit.running ≠ some .staple) : onMisfire s = s := if_neg h

theorem onStageLimit_of_running (hrun : s.fin.unit.running ≠ none) (htimer : s.fin.timer ≠ none) :
    onStageLimit s = enterUnitFault .timeout s := by
  simp [onStageLimit, Option.isSome_iff_ne_none, hrun, htimer]

/-- A stopped timer, or one of no stage, cannot expire (log entry 2). -/
theorem onStageLimit_of_stopped (h : s.fin.unit.running = none ∨ s.fin.timer = none) : onStageLimit s = s := by
  rcases h with h | h <;> simp [onStageLimit, h]

end

/-- Settles O53: each of the three events enters FAULT by `enterUnitFault` or is ignored. -/
theorem faultsStopTheUnit : Obligations.FaultsStopTheUnit := by
  intro s faulted
  have enters : ∀ x, faulted x (enterUnitFault x (beginEvent s)) := fun x => by
    obtain ⟨hact, hflags, hparts, hfin⟩ := enterUnitFault_beginEvent x s
    refine ⟨hact, hflags, hparts, ?_⟩
    rw [hfin]
    cases s.fin.unit <;> rfl
  refine ⟨⟨_, rfl, enters .jam⟩, fun h => ⟨_, ?_, enters .misfire⟩, fun h => ignored ?_, fun hrun htimer => ⟨_, ?_, enters .timeout⟩,
    fun h => ignored ?_⟩
  · exact congrArg Host.Outcome.next (onMisfire_of_staple (by simpa using h))
  · exact congrArg Host.Outcome.next (onMisfire_of_not_staple (by simpa using h))
  · exact congrArg Host.Outcome.next (onStageLimit_of_running (by simpa using hrun) (by simpa using htimer))
  · exact congrArg Host.Outcome.next (onStageLimit_of_stopped (by simpa using h))

/-! ## Suspend, Resume and the cartridge (R123 to R125) -/

theorem exec_suspendFinishing (l : Lane) (tag : Byte) (s : State) :
    exec (.suspendFinishing l tag []) s = .next (reply l tag .ok 0x22#8 [] (setUnit s.fin.unit.suspend (frameCompleted l s))) := by
  have hfin : (frameCompleted l s).fin = s.fin := by simp
  rw [← hfin]
  rfl

/-- A unit that leaves SUSPENDED makes a selection pass (R124). -/
theorem exec_resumeFinishing (l : Lane) (tag : Byte) (s : State) :
    exec (.resumeFinishing l tag []) s
      = .next (if s.fin.unit = .suspended then
          selectionPass (reply l tag .ok 0x23#8 [] (setUnit s.fin.unit.resume (frameCompleted l s)))
        else reply l tag .ok 0x23#8 [] (setUnit s.fin.unit.resume (frameCompleted l s))) := by
  have hfin : (frameCompleted l s).fin = s.fin := by simp
  have e := endEvent_of_lists_eq (s0 := frameCompleted l s)
    (u := reply l tag .ok 0x23#8 [] (setUnit s.fin.unit.resume (frameCompleted l s))) (by simp) (by simp) (by simp)
    (decide (s.fin.unit = .suspended))
  rw [← hfin] at e ⊢
  simp only [decide_eq_true_eq] at e
  exact congrArg Host.Outcome.next e

theorem exec_cartridgeInserted (s : State) :
    exec .cartridgeInserted s = .next (selectionPass (setSupply s.settings.cartridgeFull (beginEvent s))) :=
  congrArg Host.Outcome.next (endEvent_of_lists_eq (by simp) (by simp) (by simp) true)

/-- Settles O56: the two tables of unit states are `UnitState.suspend` and `UnitState.resume`. -/
theorem suspendResumeAndCartridgeActInEveryState : Obligations.SuspendResumeAndCartridgeActInEveryState := by
  intro l tag s
  obtain ⟨hanswer, hact, hparts, hfin⟩ := reply_setUnit_answers l tag 0x22#8 s.fin.unit.suspend s
  obtain ⟨hanswer', hact', hparts', hfin'⟩ := reply_setUnit_answers l tag 0x23#8 s.fin.unit.resume s
  refine ⟨⟨_, exec_suspendFinishing l tag s, hanswer, hact, hparts, ?_⟩, ⟨_, ?_, hanswer', hact', hparts', ?_⟩,
    ⟨_, exec_cartridgeInserted s, by simp [beginEvent], by simp [setSupply], ?_⟩⟩
  · rw [hfin]
    cases s.fin.unit <;> rfl
  · rw [exec_resumeFinishing]
  · rw [hfin']
    cases s.fin.unit <;> rfl
  · exact (OnlyChanges.append (onlyChanges_beginEvent s) (onlyChanges_setFin _ _)).mono (by simp)

end Sys2Proof.Finishing

namespace Sys2Proof.Finishing

open Sys2Proof.Machine Sys2Proof.Safety Sys2Proof.ClassTable Sys2Proof.Requests Sys2Proof.Events Sys2Proof.Lanes Sys2Proof.Tower

/-! # Stages that start (R114, R116 to R118, R121) -/

section
variable {s v : State} {c : Current} {p : Packet} {g : Stage} {k : Key} {n : Fin 24} {b : Fin 17} {l : Lane}

theorem currentIn_eq_some (hrun : s.fin.unit.running = some g) (hc : s.fin.current = some c) : s.currentIn g = some c :=
  (if_pos hrun).trans hc

theorem currentIn_eq_none (hrun : s.fin.unit.running ≠ some g) : s.currentIn g = none := if_neg hrun

/-! ## One stage, its action and its limit (R114) -/

/-- From `s` to `t` a stage has started with its action, nothing else has happened, and the unit keeps its current packet. -/
structure StageStarts (g : Stage) (x : Action) (c : Current) (supply : Nat) (s t : State) : Prop where
  actions : t.actions = [x]
  parts : OnlyChanges [.fin, .actions] s t
  fin : t.fin = { unit := s.fin.unit.toStage g, timer := some (s.stageLimit g), current := some c, supply := supply }

theorem stageLimit_congr (h : v.tables = s.tables) (g : Stage) : v.stageLimit g = s.stageLimit g := by
  simp only [State.stageLimit, State.settings, h]

theorem onlyChanges_startStage_act (x : Action) (g : Stage) (s : State) :
    OnlyChanges [.fin, .actions] s (startStage g (act x s)) :=
  (OnlyChanges.append (onlyChanges_setActions _ s) (onlyChanges_setFin _ _)).mono (by simp)

theorem startStage_act_fin (x : Action) (g : Stage) (s : State) :
    (startStage g (act x s)).fin = { s.fin with unit := s.fin.unit.toStage g, timer := some (s.stageLimit g) } := by
  simp [startStage, stageLimit_congr (v := act x s) (s := s) (by simp)]

theorem startStage_act_actions (x : Action) (g : Stage) (s : State) : (startStage g (act x s)).actions = s.actions ++ [x] := by
  simp [startStage, act]

/-- A stage that starts in an event which has touched the Finishing Unit only, and not its unit state. -/
theorem stageStarts (hv : OnlyChanges [.fin, .actions] s v) (hact : v.actions = []) (hunit : v.fin.unit = s.fin.unit)
    (hcurrent : v.fin.current = some c) (x : Action) (g : Stage) :
    StageStarts g x c v.fin.supply s (startStage g (act x v)) where
  actions := by rw [startStage_act_actions, hact, List.nil_append]
  parts := hv.trans (onlyChanges_startStage_act x g v)
  fin := by simp only [startStage_act_fin, hunit, hcurrent, stageLimit_congr (hv .tables (by simp))]

/-! ## The actions of the stages (R117, R118) -/

theorem fireStaple_of_packet (hp : s.packet c.key = some p) :
    fireStaple c s = startStage .staple (act (.staple p.snapshot.pattern) s) := by
  rw [fireStaple, hp]

theorem enterTransfer_of_slot (hn : s.slotOf k = some n) : enterTransfer k s = startStage .transfer (act (.transfer n) s) := by
  rw [enterTransfer, hn]

theorem ejectOffset_of_tray (h : c.target = .tray) : s.ejectOffset c = .centred := by rw [State.ejectOffset, h]

theorem ejectOffset_of_bin (h : c.target = .bin b) (hp : s.packet c.key = some p) :
    s.ejectOffset c = if p.flags.relieved = true ∨ p.flags.late = true then .centred
      else if (s.bin b).jogSide = .left then .left else .right := by
  rw [State.ejectOffset, h]
  dsimp only
  rw [hp]
  cases (s.bin b).jogSide <;> simp [PacketFlags.centred]

theorem ejectOffset_congr (hp : v.packets = s.packets) (hb : v.bins = s.bins) (c : Current) :
    v.ejectOffset c = s.ejectOffset c := by
  simp only [State.ejectOffset, State.packet, State.bin, hp, hb]

section
variable (hv : OnlyChanges [.fin, .actions] s v) (hact : v.actions = []) (hunit : v.fin.unit = s.fin.unit)
  (hcurrent : v.fin.current = some c)
include hv hact hunit hcurrent

theorem fireStaple_starts (hp : s.packet c.key = some p) :
    StageStarts .staple (.staple p.snapshot.pattern) c v.fin.supply s (fireStaple c v) := by
  rw [fireStaple_of_packet ((packet_congr (hv .packets (by simp)) _).trans hp)]
  exact stageStarts hv hact hunit hcurrent _ _

theorem enterEject_starts : StageStarts .eject (.eject c.target (s.ejectOffset c)) c v.fin.supply s (enterEject c v) := by
  rw [enterEject, ejectOffset_congr (hv .packets (by simp)) (hv .bins (by simp))]
  exact stageStarts hv hact hunit hcurrent _ _

end

/-! ## Jog done and staple done (R116, R117) -/

theorem exec_jogDone (hrun : s.fin.unit.running = some .jog) (hc : s.fin.current = some c) :
    exec .jogDone s
      = .next (if c.staplesPlaced < c.staplesNeeded then fireStaple c (beginEvent s) else enterEject c (beginEvent s)) := by
  refine congrArg Host.Outcome.next ?_
  rw [onJogDone, currentIn_eq_some (c := c) (by simpa using hrun) (by simpa using hc)]

/-- The unit after one more staple (R117). -/
def stapled (c : Current) (s : State) : State :=
  setCurrent (some { c with staplesPlaced := c.staplesPlaced + 1 }) (setSupply (s.fin.supply - 1) (beginEvent s))

theorem onlyChanges_stapled (c : Current) (s : State) : OnlyChanges [.fin, .actions] s (stapled c s) :=
  (OnlyChanges.append (onlyChanges_beginEvent s)
    (OnlyChanges.append (onlyChanges_setFin _ _) (onlyChanges_setFin _ _))).mono (by simp)

theorem stapled_actions (c : Current) (s : State) : (stapled c s).actions = [] := by simp [stapled, beginEvent]

theorem stapled_unit (c : Current) (s : State) : (stapled c s).fin.unit = s.fin.unit := by
  simp [stapled, setCurrent, setSupply]

theorem exec_stapleDone (hrun : s.fin.unit.running = some .staple) (hc : s.fin.current = some c) :
    exec .stapleDone s
      = .next (if c.staplesPlaced + 1 = c.staplesNeeded then enterEject { c with staplesPlaced := c.staplesPlaced + 1 } (stapled c s)
        else fireStaple { c with staplesPlaced := c.staplesPlaced + 1 } (stapled c s)) := by
  refine congrArg Host.Outcome.next ?_
  rw [onStapleDone, currentIn_eq_some (c := c) (by simpa using hrun) (by simpa using hc)]
  rfl

end

/-- Settles O51: each of the two events starts one stage, by `stageStarts`, with the action of `fireStaple` or `enterEject`. -/
theorem jogAndStapleDoneStartTheNextStage : Obligations.JogAndStapleDoneStartTheNextStage := by
  intro s unit fires ejects
  refine ⟨fun h => ignored ?_, fun h => ignored ?_, fun c p hc hp => ?_⟩
  · exact congrArg Host.Outcome.next (by rw [onJogDone, currentIn_eq_none (by simpa using h)])
  · exact congrArg Host.Outcome.next (by rw [onStapleDone, currentIn_eq_none (by simpa using h)])
  have hunit : s.fin.unit.running ≠ none → ∀ g, s.fin.unit.toStage g = unit g := fun hrun g => by
    simp only [unit]
    cases hu : s.fin.unit <;> simp_all [UnitState.toStage, UnitState.running]
  have fired : s.fin.unit.running ≠ none → ∀ {d : Current} {supply : Nat} {t : State},
      StageStarts .staple (.staple p.snapshot.pattern) d supply s t → fires p d supply t := fun hrun d supply t h =>
    ⟨h.actions, h.parts, by rw [h.fin, hunit hrun]; rfl⟩
  have ejected : s.fin.unit.running ≠ none → ∀ {d : Current} {supply : Nat} {t : State}, d.key = c.key →
      StageStarts .eject (.eject d.target (s.ejectOffset d)) d supply s t → ejects p d supply t := fun hrun d supply t hd h => by
    refine ⟨h.actions.trans ?_, h.parts, by rw [h.fin, hunit hrun]; rfl⟩
    cases ht : d.target with
    | tray => rw [ejectOffset_of_tray ht]
    | bin b => rw [ejectOffset_of_bin (p := p) ht (by rw [hd, hp])]
  have hbegin : OnlyChanges [.fin, .actions] s (beginEvent s) := (onlyChanges_beginEvent s).mono (by simp)
  have hcurrent : (beginEvent s).fin.current = some c := by simpa using hc
  have hsupply : (beginEvent s).fin.supply = s.fin.supply := by simp
  have hstapled := onlyChanges_stapled c s
  refine ⟨fun hrun => ⟨_, exec_jogDone hrun hc, fun h => ?_, fun h => ?_⟩,
    fun hrun => ⟨_, exec_stapleDone hrun hc, fun h => ?_, fun h => ?_⟩⟩
  · rw [if_pos h, ← hsupply]
    exact fired (by simp [hrun]) (fireStaple_starts hbegin rfl (by simp) hcurrent hp)
  · rw [if_neg (Nat.not_lt.mpr h), ← hsupply]
    exact ejected (by simp [hrun]) rfl (enterEject_starts hbegin rfl (by simp) hcurrent)
  · rw [if_pos h]
    exact ejected (by simp [hrun]) rfl (enterEject_starts hstapled (stapled_actions c s) (stapled_unit c s) rfl)
  · rw [if_neg h]
    exact fired (by simp [hrun]) (fireStaple_starts hstapled (stapled_actions c s) (stapled_unit c s) rfl hp)

end Sys2Proof.Finishing

namespace Sys2Proof.Finishing

open Sys2Proof.Machine Sys2Proof.Safety Sys2Proof.ClassTable Sys2Proof.Requests Sys2Proof.Events Sys2Proof.Lanes Sys2Proof.Tower

/-! # Finisher Clear with the packet kept, and the bins (R121, R130 to R135) -/

section
variable {s t u : State} {c : Current} {p : Packet} {g : Stage} {n : Fin 24} {l : Lane} {tag b : Byte} {mark : Bool}
  {cause : UnitCause} {x : ClearOutcome}

/-! ## Finisher Clear, by its outcome and the unit (R121) -/

theorem outcomeOfCode_of_le (h : 2 ≤ b.toNat) : outcomeOfCode b.toNat = none := by
  obtain ⟨n, hn⟩ : ∃ n, b.toNat = n + 2 := ⟨b.toNat - 2, by omega⟩
  rw [hn]
  rfl

theorem onFinisherClear_of_le (h : 2 ≤ b.toNat) (l : Lane) (tag : Byte) (s : State) :
    onFinisherClear l tag [b] s = reply l tag .field 0x21#8 [] s := by
  rw [onFinisherClear, withLength_of_length rfl, byteAt_zero, outcomeOfCode_of_le h]
  rfl

section
variable (hx : outcomeOfCode b.toNat = some x)
include hx

theorem onFinisherClear_of_not_fault (h : ∀ c m, s.fin.unit ≠ .fault c m) (l : Lane) (tag : Byte) :
    onFinisherClear l tag [b] s = reply l tag .state 0x21#8 [] s := by
  rw [onFinisherClear, withLength_of_length rfl, byteAt_zero, hx]
  cases hu : s.fin.unit with
  | fault c m => exact absurd hu (h c m)
  | idle => rfl
  | stage g => rfl
  | suspendPending g => rfl
  | suspended => rfl

/-- With no current packet the unit is free again, whatever the outcome (R121). -/
theorem onFinisherClear_of_no_packet (hu : s.fin.unit = .fault cause mark) (hc : s.fin.current = none) (l : Lane) (tag : Byte) :
    onFinisherClear l tag [b] s = selectionPass (reply l tag .ok 0x21#8 [] (freeUnit mark s)) := by
  rw [onFinisherClear, withLength_of_length rfl, byteAt_zero, hx, hu]
  dsimp only
  rw [hc]
  exact endEvent_of_lists_eq (by simp) (by simp) (by simp) true

end

theorem onFinisherClear_retry (hu : s.fin.unit = .fault cause mark) (hc : s.fin.current = some c) (l : Lane) (tag : Byte) :
    onFinisherClear l tag [0#8] s = reply l tag .ok 0x21#8 [] (retryPacket mark c s) := by
  rw [onFinisherClear, withLength_of_length rfl]
  simp only [byteAt_zero, hu, hc]
  rfl

theorem onFinisherClear_removed (hu : s.fin.unit = .fault cause mark) (hc : s.fin.current = some c)
    (hp : s.packet c.key = some p) (l : Lane) (tag : Byte) :
    onFinisherClear l tag [1#8] s
      = endEvent s { relief := true, purge := true, pass := true } (reply l tag .ok 0x21#8 [] (removeCurrent mark c p s)) := by
  rw [onFinisherClear, withLength_of_length rfl]
  simp only [byteAt_zero, hu, hc, hp]
  rfl

/-! ## RETRY with a packet (R121) -/

theorem toStage_retry (mark : Bool) (g : Stage) :
    (if mark then UnitState.suspendPending g else .idle).toStage g = if mark then .suspendPending g else .stage g := by
  cases mark <;> rfl

theorem retryPacket_of_slot (hn : s.slotOf c.key = some n) (mark : Bool) :
    retryPacket mark c s = startStage .transfer (act (.transfer n) (retryUnit mark .transfer s)) := by
  have hkept : (retryUnit mark .transfer s).slotOf c.key = some n := (slotOf_congr (by simp) _).trans hn
  rw [retryPacket, hn, enterTransfer_of_slot hkept]
  rfl

theorem retryPacket_of_no_slot (hn : s.slotOf c.key = none) (mark : Bool) :
    retryPacket mark c s = startStage .jog (act .jog (retryUnit mark .jog s)) := by
  rw [retryPacket, hn]
  rfl

/-- A stage started again in a frame's event, and answered. -/
theorem reply_retried (l : Lane) (tag : Byte) (mark : Bool) (y : Machine.Action) (g : Stage) (s : State) :
    let t := reply l tag .ok 0x21#8 [] (startStage g (act y (retryUnit mark g (frameCompleted l s))))
    Answers l tag .ok 0x21#8 [] s t ∧ OnlyChanges [.link l, .fin, .actions] s t ∧ t.actions = [y]
      ∧ t.fin = { s.fin with unit := if mark then .suspendPending g else .stage g, timer := some (s.stageLimit g) } := by
  have hfin : (retryUnit mark g (frameCompleted l s)).fin = { s.fin with unit := if mark then .suspendPending g else .idle } := by
    simp [retryUnit, setUnit]
  have hlimit := stageLimit_congr (v := retryUnit mark g (frameCompleted l s)) (s := s) (by simp) g
  refine ⟨answers_reply (by simp) (by simp) .., ?_, by simp [act], ?_⟩
  · exact (OnlyChanges.append (onlyChanges_frameCompleted l s) (OnlyChanges.append (onlyChanges_setFin _ _)
      (OnlyChanges.append (onlyChanges_startStage_act y g _) (onlyChanges_reply l tag .ok 0x21#8 [] _)))).mono (by simp)
  · simp only [reply_frame, startStage_act_fin, hfin, hlimit, toStage_retry]

end

/-- Settles O54: each case by one equation of `onFinisherClear`; a retried stage is one that starts. -/
theorem finisherClearRestartsThePacket : Obligations.FinisherClearRestartsThePacket := by
  intro l tag b s
  have hfin : (frameCompleted l s).fin = s.fin := by simp
  have retry : exec (.finisherClearRetry l tag []) s = .next (onFinisherClear l tag [0#8] (frameCompleted l s)) := rfl
  have removed : exec (.finisherClearRemoved l tag []) s = .next (onFinisherClear l tag [1#8] (frameCompleted l s)) := rfl
  refine ⟨fun hb => ⟨_, congrArg Host.Outcome.next (onFinisherClear_of_le hb l tag _), turnedAway_reply ..⟩,
    fun h => ⟨⟨_, ?_, turnedAway_reply ..⟩, ⟨_, ?_, turnedAway_reply ..⟩⟩,
    fun cause mark hu => ⟨fun hc => ?_, fun c hc => ?_⟩⟩
  · rw [retry, onFinisherClear_of_not_fault (x := .retry) rfl (by rwa [hfin])]
  · rw [removed, onFinisherClear_of_not_fault (x := .removed) rfl (by rwa [hfin])]
  · obtain ⟨hanswer, hact, hparts, hunit⟩ := reply_setUnit_answers l tag 0x21#8 (if mark then .suspended else .idle) s
    refine ⟨_, ?_, ?_, hanswer, hunit, hact, hparts⟩
    · rw [retry, onFinisherClear_of_no_packet (x := .retry) rfl (hfin ▸ hu) (hfin ▸ hc)]
      rfl
    · rw [removed, onFinisherClear_of_no_packet (x := .removed) rfl (hfin ▸ hu) (hfin ▸ hc)]
      rfl
  · have hexec : exec (.finisherClearRetry l tag []) s = .next (reply l tag .ok 0x21#8 [] (retryPacket mark c (frameCompleted l s))) := by
      rw [retry, onFinisherClear_retry (hfin ▸ hu) (hfin ▸ hc)]
    have hslot : (frameCompleted l s).slotOf c.key = s.slotOf c.key := slotOf_congr (by simp) _
    cases hn : s.slotOf c.key with
    | none =>
      obtain ⟨hanswer, hparts, hact, hunit⟩ := reply_retried l tag mark .jog .jog s
      rw [retryPacket_of_no_slot (hslot.trans hn)] at hexec
      exact ⟨_, hexec, hanswer, hparts, nofun, fun _ => ⟨hact, hunit⟩⟩
    | some n =>
      obtain ⟨hanswer, hparts, hact, hunit⟩ := reply_retried l tag mark (.transfer n) .transfer s
      rw [retryPacket_of_slot (hslot.trans hn)] at hexec
      exact ⟨_, hexec, hanswer, hparts, fun i hi => Option.some.inj hi ▸ ⟨hact, hunit⟩, nofun⟩

/-! # The bins (R130 to R135) -/

section
variable {s : State} {b : Fin 17} {l : Lane} {tag n hi lo : Byte}

theorem onlyChanges_setBins (v : Vector Bin 17) (s : State) : OnlyChanges [.bins] s (s.setBins v) := by
  intro p hp
  cases p <;> simp [Part.Same] at hp ⊢

theorem bin_congr {t : State} (h : t.bins = s.bins) (m : Fin 17) : t.bin m = s.bin m := by rw [State.bin, State.bin, h]

/-! ## Load Bin (R130) -/

theorem onLoadBin_of_le (hn : 17 ≤ n.toNat) (l : Lane) (tag hi lo : Byte) (s : State) :
    onLoadBin l tag [n, hi, lo] s = reply l tag .field 0x17#8 [] s := by
  rw [onLoadBin, withLength_of_length rfl, byteAt_zero, finOf_of_le hn]
  rfl

section
variable (hn : b.val = n.toNat)
include hn

theorem onLoadBin_refused (h : max 1 (min (hi.toNat * 256 + lo.toNat) 4095) < (s.bin b).fill + (s.bin b).reserved) :
    onLoadBin l tag [n, hi, lo] s = reply l tag .state 0x17#8 [] s := by
  rw [onLoadBin, withLength_of_length rfl, byteAt_zero, finOf_eq_some.mpr hn.symm]
  rw [← clamp_eq (by decide)] at h
  exact if_pos h

theorem onLoadBin_taken (h : (s.bin b).fill + (s.bin b).reserved ≤ max 1 (min (hi.toNat * 256 + lo.toNat) 4095)) :
    onLoadBin l tag [n, hi, lo] s
      = let cap := max 1 (min (hi.toNat * 256 + lo.toNat) 4095)
        let u := reply l tag (if cap = hi.toNat * 256 + lo.toNat then .ok else .okClamped) 0x17#8 []
          (setBin b { s.bin b with state := (s.bin b).state.loaded, capacity := cap } s)
        if cap ≠ (s.bin b).capacity ∨ (s.bin b).state = .unloaded then selectionPass u else u := by
  rw [onLoadBin, withLength_of_length rfl, byteAt_zero, finOf_eq_some.mpr hn.symm]
  dsimp only
  have e : wordAt [n, hi, lo] 1 = hi.toNat * 256 + lo.toNat := rfl
  rw [e, clamp_eq (by decide), if_neg (Nat.not_lt.mpr h), endEvent_of_lists_eq (by simp) (by simp) (by simp)]
  simp only [Bool.or_eq_true, decide_eq_true_eq]
  rfl

end

/-- A request that writes one bin and answers. -/
theorem reply_setBin_answers (l : Lane) (tag kind : Byte) (code : ReplyCode) (b : Fin 17) (x : Bin) (s : State) :
    let t := reply l tag code kind [] (setBin b x (frameCompleted l s))
    Answers l tag code kind [] s t ∧ t.actions = [] ∧ OnlyChanges [.link l, .bins, .actions] s t
      ∧ ∀ m, t.bin m = if m = b then x else s.bin m := by
  refine ⟨answers_reply (by simp) (by simp) .., by simp, ?_, fun m => ?_⟩
  · exact (OnlyChanges.append (onlyChanges_frameCompleted l s)
      (OnlyChanges.append (onlyChanges_setBins _ _) (onlyChanges_reply l tag code kind [] _))).mono (by simp)
  · rw [bin_congr (s := setBin b x (frameCompleted l s)) (by simp), bin_setBin, bin_congr (s := s) (by simp)]

/-! ## The bin events (R133 to R135) -/

/-- An event that writes one bin. -/
theorem setBin_beginEvent (b : Fin 17) (x : Bin) (s : State) :
    let t := setBin b x (beginEvent s)
    t.actions = [] ∧ OnlyChanges [.bins, .actions] s t ∧ ∀ m, t.bin m = if m = b then x else s.bin m := by
  refine ⟨by simp [beginEvent], ?_, fun m => ?_⟩
  · exact (OnlyChanges.append (onlyChanges_beginEvent s) (onlyChanges_setBins _ _)).mono (by simp)
  · rw [bin_setBin, bin_congr (s := s) (by simp)]

theorem loaded_eq (x : BinState) : x.loaded = if x = .unloaded then .ready else x := by cases x <;> rfl

theorem reportFull_eq (r : Bin) :
    r.reportFull = if r.state = .ready ∨ r.state = .full then { r with state := .full, fill := r.capacity - r.reserved } else r := by
  unfold Bin.reportFull
  cases r.state <;> simp

theorem reportRemoved_eq (r : Bin) :
    r.reportRemoved = { r with state := if r.state = .unloaded then .unloaded else .out } := by
  obtain ⟨state, capacity, fill, reserved, side⟩ := r
  cases state <;> rfl

theorem reportReplaced_eq (r : Bin) :
    r.reportReplaced = if r.state = .unloaded then r else { r with state := .ready, fill := 0 } := by
  unfold Bin.reportReplaced
  cases r.state <;> simp

theorem exec_binReplaced (b : Fin 17) (s : State) :
    exec (.binReplaced b) s
      = .next (if (s.bin b).state = .unloaded then setBin b (s.bin b).reportReplaced (beginEvent s)
        else selectionPass (setBin b (s.bin b).reportReplaced (beginEvent s))) := by
  have hb : (beginEvent s).bin b = s.bin b := bin_congr (by simp) b
  have e : exec (.binReplaced b) s = .next (onBinReplaced b (beginEvent s)) := rfl
  rw [e, onBinReplaced, endEvent_of_lists_eq (by simp) (by simp) (by simp), hb]
  simp only [decide_eq_true_eq, ite_not]

end

/-- Settles O57: Load Bin by its three outcomes, and each bin event by the record that it leaves. -/
theorem binCommandsFollowTheBinState : Obligations.BinCommandsFollowTheBinState := by
  intro l tag n hi lo s v cap
  have hexec : exec (.loadBin l tag [n, hi, lo]) s = .next (onLoadBin l tag [n, hi, lo] (frameCompleted l s)) := rfl
  refine ⟨fun hn => ⟨_, by rw [hexec, onLoadBin_of_le hn], turnedAway_reply ..⟩, ?_⟩
  intro b r becomes
  have hframe : (frameCompleted l s).bin b = r := bin_congr (by simp) b
  refine ⟨fun hn h => ⟨_, ?_, turnedAway_reply ..⟩, fun hn h => ?_, ⟨_, rfl, ?_⟩, ⟨_, rfl, ?_⟩, ⟨_, exec_binReplaced b s, ?_⟩⟩
  · rw [hexec, onLoadBin_refused hn (by rwa [hframe])]
  · have hcode : (if cap = v then ReplyCode.ok else .okClamped) = if 1 ≤ v ∧ v ≤ 4095 then .ok else .okClamped :=
      if_congr (by omega) rfl rfl
    have hwritten := reply_setBin_answers l tag 0x17#8 (if cap = v then .ok else .okClamped) b
      { r with state := r.state.loaded, capacity := cap } s
    rw [hcode, loaded_eq] at hwritten
    refine ⟨_, ?_, hwritten⟩
    rw [hexec, onLoadBin_taken hn (by rwa [hframe]), hframe, loaded_eq]
    dsimp only
    rw [hcode]
  · rw [← reportFull_eq]
    exact setBin_beginEvent b r.reportFull s
  · rw [← reportRemoved_eq]
    exact setBin_beginEvent b r.reportRemoved s
  · rw [← reportReplaced_eq]
    exact setBin_beginEvent b r.reportReplaced s

end Sys2Proof.Finishing

namespace Sys2Proof.Finishing

open Sys2Proof.Machine Sys2Proof.Safety Sys2Proof.ClassTable Sys2Proof.Requests Sys2Proof.Events Sys2Proof.Lanes Sys2Proof.Tower

/-! # The selection pass and the take (R109, R113) -/

section
variable {s t u : State} {q : Queued} {p : Packet} {k : Key} {n : Fin 24} {target : Target} {b : Budget}
  {before rest : List Queued}

/-! ## The pass, up to the first eligible entry (R109) -/

theorem selectionPass_of_not_idle (h : s.fin.unit ≠ .idle) : selectionPass s = s := if_neg h

theorem selectionPass_of_idle (h : s.fin.unit = .idle) :
    selectionPass s = selectFrom (s.queueOf .express ++ s.queueOf .normal) s := if_pos h

/-- An examination reads no flag (R110 to R112). -/
theorem examine_raise (q : Queued) (c : Cause) (s : State) : examine q (raise c s) = examine q s := rfl

/-- The causes of a list of entries of which none is eligible, raised one after the other (R109). -/
def raiseBlocked : List Queued → State → State
  | [], s => s
  | q :: rest, s =>
    match examine q s with
    | .blocked c => raiseBlocked rest (raise c s)
    | .passedOver => raiseBlocked rest s
    | .eligible _ _ => raiseBlocked rest s

theorem examine_raiseBlocked (q : Queued) (qs : List Queued) (s : State) : examine q (raiseBlocked qs s) = examine q s := by
  induction qs generalizing s with
  | nil => rfl
  | cons x xs ih =>
    unfold raiseBlocked
    split
    · rw [ih, examine_raise]
    · exact ih s
    · exact ih s

theorem onlyChanges_raiseBlocked (qs : List Queued) (s : State) : OnlyChanges [.flags] s (raiseBlocked qs s) := by
  induction qs generalizing s with
  | nil => exact .refl _ s
  | cons x xs ih =>
    unfold raiseBlocked
    split
    · exact (onlyChanges_raise _ s).trans (ih _)
    · exact ih s
    · exact ih s

theorem isPending_raiseBlocked (qs : List Queued) (s : State) (c : Cause) :
    (raiseBlocked qs s).isPending c = true ↔ s.isPending c = true ∨ ∃ x ∈ qs, examine x s = .blocked c := by
  induction qs generalizing s with
  | nil => simp [raiseBlocked]
  | cons x xs ih =>
    unfold raiseBlocked
    split
    · rename_i d hx
      rw [ih, isPending_raise]
      simp [examine_raise, hx, or_assoc]
    · rename_i hx
      simp [ih, hx]
    · rename_i hx
      simp [ih, hx]

theorem selectFrom_append (h : ∀ x ∈ before, ∀ g b, examine x s ≠ .eligible g b) :
    selectFrom (before ++ rest) s = selectFrom rest (raiseBlocked before s) := by
  induction before generalizing s with
  | nil => rfl
  | cons x xs ih =>
    have hxs : ∀ y ∈ xs, ∀ g b, examine y s ≠ .eligible g b := fun y hy => h y (List.mem_cons_of_mem x hy)
    rw [List.cons_append, selectFrom, raiseBlocked]
    cases hx : examine x s with
    | passedOver => exact ih hxs
    | blocked c => exact ih hxs
    | eligible g b => exact absurd hx (h x (List.mem_cons_self ..) g b)

/-! ## The take (R113) -/

/-- The current packet that a take fixes. -/
def takenCurrent (k : Key) (target : Target) (b : Budget) : Current :=
  { key := k, target := target, units := b.units, staplesNeeded := b.staplesNeeded, staplesPlaced := 0, loft := b.loft }

/-- The flags of a taken packet: OVERCAP and OVERFLOWED as its evaluation found them. -/
def takenFlags (target : Target) (b : Budget) (f : PacketFlags) : PacketFlags :=
  { f with overcap := f.overcap || b.overcap, overflowed := f.overflowed || decide (target = .bin 16) }

/-- The record of a taken packet. -/
def takenPacket (target : Target) (b : Budget) (p : Packet) : Packet :=
  { p with state := .finishing, flags := takenFlags target b p.flags }

/-- A take up to the start of its TRANSFER: flags, reservation, queue, packet state, current packet. -/
def taken (k : Key) (target : Target) (b : Budget) (s : State) : State :=
  setCurrent (some (takenCurrent k target b)) (updatePacket k (fun p => { p with state := .finishing })
    (leaveFinishing k (reserve target b.units (updateFlags k (takenFlags target b) s))))

theorem packet_updateFlags (k : Key) (f : PacketFlags → PacketFlags) (s : State) (j : Key) :
    (updateFlags k f s).packet j = if j = k then (s.packet k).map (fun p => { p with flags := f p.flags }) else s.packet j := by
  rw [updateFlags, packet_updatePacket]
  simp

theorem packet_taken (hp : s.packet k = some p) (j : Key) :
    (taken k target b s).packet j = if j = k then some (takenPacket target b p) else s.packet j := by
  have hqueue : ∀ j, (leaveFinishing k (reserve target b.units (updateFlags k (takenFlags target b) s))).packet j
      = (updateFlags k (takenFlags target b) s).packet j := packet_congr (by simp)
  have hunit : ∀ t, (setCurrent (some (takenCurrent k target b)) t).packet j = t.packet j := fun _ => packet_congr (by simp) j
  rw [taken, hunit, packet_updatePacket _ _ _ _ (by simp), hqueue, hqueue, packet_updateFlags, packet_updateFlags, if_pos rfl, hp]
  split <;> rfl

theorem onlyChanges_updateFlags (k : Key) (f : PacketFlags → PacketFlags) (s : State) :
    OnlyChanges [.packets] s (updateFlags k f s) := onlyChanges_updatePacket k _ s

theorem onlyChanges_reserve (target : Target) (units : Nat) (s : State) : OnlyChanges [.bins] s (reserve target units s) := by
  cases target with
  | bin m => exact onlyChanges_setBins _ s
  | tray => exact .refl _ s

theorem onlyChanges_taken (k : Key) (target : Target) (b : Budget) (s : State) :
    OnlyChanges [.packets, .bins, .queued, .fin] s (taken k target b s) :=
  (OnlyChanges.append (OnlyChanges.append (onlyChanges_updateFlags k _ s) (onlyChanges_reserve target b.units _))
    (OnlyChanges.append (onlyChanges_setQueued _ _) (OnlyChanges.append (onlyChanges_updatePacket k _ _) (onlyChanges_setFin _ _)))).mono
      (by simp)

theorem bin_reserve (target : Target) (units : Nat) (s : State) (m : Fin 17) :
    (reserve target units s).bin m
      = if target = .bin m then { s.bin m with reserved := (s.bin m).reserved + units } else s.bin m := by
  cases target with
  | tray => simp [reserve]
  | bin i =>
    by_cases h : m = i
    · simp [reserve, h]
    · simp [reserve, h, Ne.symm h]

theorem bin_taken (k : Key) (target : Target) (b : Budget) (s : State) (m : Fin 17) :
    (taken k target b s).bin m
      = if target = .bin m then { s.bin m with reserved := (s.bin m).reserved + b.units } else s.bin m := by
  have hflagged : ∀ m, (updateFlags k (takenFlags target b) s).bin m = s.bin m := bin_congr (by simp)
  rw [bin_congr (s := reserve target b.units (updateFlags k (takenFlags target b) s)) (by simp [taken]), bin_reserve, hflagged]

theorem taken_fin (k : Key) (target : Target) (b : Budget) (s : State) :
    (taken k target b s).fin = { s.fin with current := some (takenCurrent k target b) } := by simp [taken, setCurrent]

theorem taken_queued (k : Key) (target : Target) (b : Budget) (s : State) :
    (taken k target b s).queued = s.queued.filter (fun x => x.key ≠ k) := by simp [taken, leaveFinishing]

/-- While the taken packet stands in its slot, no relief follows the take (R85, R113). -/
theorem takePacket_of_slot (hp : s.packet k = some p) (hn : p.slot = some n) (target : Target) (b : Budget) :
    takePacket k target b s = startStage .transfer (act (.transfer n) (taken k target b s)) := by
  have hslot : (taken k target b s).slotOf k = some n := by
    rw [slotOf_of_packet (p := takenPacket target b p)]
    · exact hn
    · rw [packet_taken hp, if_pos rfl]
  have e : takePacket k target b s = if (enterTransfer k (taken k target b s)).queued.isEmpty then
      tryRelief (enterTransfer k (taken k target b s)) else enterTransfer k (taken k target b s) := rfl
  have hnot : ¬ReliefDue (enterTransfer k (taken k target b s)) := by
    rintro ⟨-, -, -, hcur, -⟩
    have := hcur (takenCurrent k target b) (by rw [(enterTransfer_enters k _).current, taken_fin])
    rw [slotOf_congr (enterTransfer_enters k _).packets] at this
    cases hslot.symm.trans this
  rw [e, tryRelief_of_not_due hnot, ite_self, enterTransfer_of_slot hslot]

/-- What a take in IDLE leaves (R113). -/
theorem takePacket_starts (hp : s.packet k = some p) (hn : p.slot = some n) (hidle : s.fin.unit = .idle) (target : Target)
    (b : Budget) :
    let t := takePacket k target b s
    t.actions = s.actions ++ [.transfer n]
      ∧ t.fin = { s.fin with
          unit := .stage .transfer, timer := some (s.settings.transferLimit * 100), current := some (takenCurrent k target b) }
      ∧ (∀ j, t.packet j = if j = k then some (takenPacket target b p) else s.packet j)
      ∧ t.queued = s.queued.filter (fun x => x.key ≠ k)
      ∧ (∀ m, t.bin m = if target = .bin m then { s.bin m with reserved := (s.bin m).reserved + b.units } else s.bin m)
      ∧ t.flags = s.flags ∧ OnlyChanges [.fin, .packets, .queued, .bins, .actions] s t := by
  have htaken := onlyChanges_taken k target b s
  have hstarted := onlyChanges_startStage_act (.transfer n) .transfer (taken k target b s)
  rw [takePacket_of_slot hp hn]
  refine ⟨?_, ?_, fun j => ?_, ?_, fun m => ?_, ?_, (OnlyChanges.append htaken hstarted).mono (by simp)⟩
  · rw [startStage_act_actions, htaken .actions (by simp)]
  · rw [startStage_act_fin, taken_fin, stageLimit_congr (htaken .tables (by simp))]
    simp only [hidle]
    rfl
  · rw [packet_congr (hstarted .packets (by simp)), packet_taken hp]
  · rw [hstarted .queued (by simp), taken_queued]
  · rw [bin_congr (hstarted .bins (by simp)), bin_taken]
  · rw [hstarted .flags (by simp), htaken .flags (by simp)]

end

/-- Settles O49: the pass raises the causes of the entries before the first eligible one, which is taken. -/
theorem takeStartsTheFirstEligiblePacket : Obligations.TakeStartsTheFirstEligiblePacket := by
  intro s line
  have hfin : (beginEvent s).fin = s.fin := by simp
  have hpass : s.fin.unit = .idle → exec .take s = .next (selectFrom line (beginEvent s)) := fun h =>
    congrArg Host.Outcome.next (selectionPass_of_idle (hfin ▸ h))
  refine ⟨fun h => ignored ?_, fun hidle hnone => ?_, fun before after q target b p n _ hidle hline hnone hq hp hn => ?_⟩
  · exact congrArg Host.Outcome.next (selectionPass_of_not_idle (hfin ▸ h))
  · have hselect := selectFrom_append (rest := []) (before := line) (s := beginEvent s) hnone
    rw [List.append_nil] at hselect
    refine ⟨raiseBlocked line (beginEvent s), ?_, ?_, ?_, fun c => isPending_raiseBlocked line (beginEvent s) c⟩
    · rw [hpass hidle, hselect]
      rfl
    · exact onlyChanges_raiseBlocked line (beginEvent s) .actions (by simp)
    · exact (OnlyChanges.append (onlyChanges_beginEvent s) (onlyChanges_raiseBlocked line _)).mono (by simp)
  · have hselect := selectFrom_append (rest := q :: after) (s := beginEvent s) hnone
    have hpending := fun c => isPending_raiseBlocked before (beginEvent s) c
    have hactions := onlyChanges_raiseBlocked before (beginEvent s) .actions (by simp)
    have hexam : examine q (raiseBlocked before (beginEvent s)) = .eligible target b :=
      (examine_raiseBlocked q before _).trans hq
    have hraised := OnlyChanges.append (onlyChanges_beginEvent s) (onlyChanges_raiseBlocked before _)
    generalize raiseBlocked before (beginEvent s) = v at hselect hpending hactions hexam hraised
    have hpackets : ∀ j, v.packet j = s.packet j := packet_congr (hraised .packets (by simp))
    have hunit : v.fin = s.fin := hraised .fin (by simp)
    obtain ⟨hact, htfin, htpacket, hqueued, hbins, hflags, hparts⟩ :=
      takePacket_starts ((hpackets _).trans hp) hn (hunit ▸ hidle) target b
    refine ⟨takePacket q.key target b v, ?_, ?_, ?_, ?_, fun k hk => ?_, ?_, fun m => ?_, fun c => ?_,
      (OnlyChanges.append hraised hparts).mono (by simp)⟩
    · rw [hpass hidle, hline, hselect, selectFrom, hexam]
    · rw [hact, hactions]
      rfl
    · rw [htfin, hunit, State.settings, hraised .tables (by simp)]
      rfl
    · rw [htpacket, if_pos rfl]
      rfl
    · rw [htpacket, if_neg hk, hpackets]
    · rw [hqueued, hraised .queued (by simp)]
    · rw [hbins, bin_congr (hraised .bins (by simp))]
    · rw [State.isPending, hflags]
      exact hpending c

end Sys2Proof.Finishing

namespace Sys2Proof.Finishing

open Sys2Proof.Machine Sys2Proof.Safety Sys2Proof.ClassTable Sys2Proof.Requests Sys2Proof.Events Sys2Proof.Lanes Sys2Proof.Tower

/-! # Transfer done (R73, R115) -/

section
variable {s t u v : State} {o : Option Key} {f : Option (Fin 24)} {c : Current} {p : Packet} {g : SlotHold} {k : Key} {n : Fin 24}
  {m : Bool} {w : Waiting} {rest : List Waiting} {d : Nat}

/-! ## Releases and relief move HELD packets only (R80, R87) -/

/-- From `s` to `t` packets, ranks and slots have changed only where a packet was HELD. -/
structure MovesHeld (s t : State) : Prop where
  packets : ∀ j, stateOf s j ≠ some .held → t.packet j = s.packet j
  ranks : ∀ j, stateOf s j ≠ some .held → t.rankAt j = s.rankAt j
  slots : ∀ n, (∀ j, stateOf s j = some .held → s.slotOf j ≠ some n) → t.slot n = s.slot n

theorem MovesHeld.refl (s : State) : MovesHeld s s := ⟨fun _ _ => rfl, fun _ _ => rfl, fun _ _ => rfl⟩

theorem movesHeld_of_releases (h : Agrees o f s) (hr : Releases d s t) : MovesHeld s t where
  packets j hj := hr.packets j (.inr fun e => hj ((h.fits j).heldRank e))
  ranks j hj := hr.ranks j (.inr fun e => hj ((h.fits j).heldRank e))
  slots n hn := hr.slots n fun j _ e => hn j ((h.fits j).heldRank e)

theorem movesHeld_orderStep (h : Agrees o f s) (hp : s.packet k = some p) : MovesHeld s (orderStep k.cls s) :=
  orderStep_of_packet hp ▸ movesHeld_of_releases h (cursorAdvance_releases k.cls s)

theorem movesHeld_relieve (h : Agrees o f s) (hk : k ∈ s.held) : MovesHeld s (relieve k s) := by
  obtain ⟨p, i, b, hp, hi, hs⟩ := h.held_facts hk
  have hpackets := packet_relievedOut hp
  have hself : (relievedOut k s).packet k = some (Packet.sentOut p) := (hpackets k).trans (if_pos rfl)
  have hothers : ∀ j, j ≠ k → (relievedOut k s).packet j = s.packet j := fun j hj => (hpackets j).trans (if_neg hj)
  have hheld : ∀ j, stateOf (relievedOut k s) j = some .held → j ≠ k := by
    rintro _ hj rfl
    cases (stateOf_of_packet hself).symm.trans hj
  have hunheld : ∀ j, stateOf s j ≠ some .held → j ≠ k := by
    rintro _ hj rfl
    exact hj ((h.fits _).held.mp hk)
  have hmoved : MovesHeld (relievedOut k s) (relieve k s) := movesHeld_orderStep (relievedOut_agrees h hk) hself
  refine ⟨fun j hj => ?_, fun j hj => ?_, fun i' hi' => ?_⟩
  · have hjk := hunheld j hj
    rw [hmoved.packets j (by rwa [stateOf_congr (hothers j hjk)]), hothers j hjk]
  · have hjk := hunheld j hj
    rw [hmoved.ranks j (by rwa [stateOf_congr (hothers j hjk)]), rankAt_relievedOut (h.rank_isSome hp), if_neg hjk]
  · have hne : i' ≠ i := by
      rintro rfl
      exact hi' k ((h.fits k).held.mp hk) ((slotOf_of_packet hp).trans hi)
    rw [hmoved.slots i' fun j hj => ?_, slot_relievedOut hp hi hs, if_neg hne]
    have hjk := hothers j (hheld j hj)
    rw [slotOf_congr_packet hjk]
    exact hi' j (by rwa [← stateOf_congr hjk])

theorem movesHeld_tryRelief (h : Agrees o f s) : MovesHeld s (tryRelief s) := by
  unfold tryRelief
  split
  · split
    · rename_i hheld
      exact movesHeld_relieve h (by simp [hheld])
    · exact .refl s
  · exact .refl s

/-! ## The slot that frees (R58, R59, R73) -/

/-- A waiting key that a FREE slot is given to becomes OPEN in it; a packet that is not HELD stays as it is (R59). -/
theorem allocate_opens (h : Agrees o (some n) s) (hfree : s.slot n = .free) (hu : s.unplaced = w :: rest) :
    (allocate n s).slot n = .occupied .collecting false w.key ∧ (allocate n s).rankAt w.key = some .opened
      ∧ (allocate n s).unplaced = rest
      ∧ ∀ j, j ≠ w.key → stateOf s j ≠ some .held → (allocate n s).packet j = s.packet j := by
  have hw : w ∈ s.unplaced := by simp [hu]
  obtain ⟨hactive, hrank, -⟩ := h.waiting w hw
  obtain ⟨a, ha⟩ := h.exists_assignment hw
  have hnone : s.packet w.key = none := packet_eq_none_iff.mpr (h.stateOf_eq_none hrank)
  have honce : ∀ x ∈ rest, x.key ≠ w.key := by
    have := h.waitingOnce
    rw [hu, List.map_cons, List.nodup_cons] at this
    exact fun x hx e => this.1 (e ▸ List.mem_map_of_mem hx)
  have hrest : Agrees o (some n) (s.setUnplaced rest) := setUnplaced_agrees h (hu ▸ List.sublist_cons_self w rest)
  have hmade := created_agrees hrest hfree hrank (.inr hactive) honce a w.jobTag
  have hpackets := packet_created (s := s.setUnplaced rest) hnone n a w.jobTag
  have hnew := (hpackets w.key).trans (if_pos rfl)
  have hmoved := movesHeld_orderStep hmade hnew
  rw [allocate_cons hu ha]
  refine ⟨?_, ?_, by simp, fun j hj hx => ?_⟩
  · rw [slot_congr (s := createPacket w.key n a w.jobTag (s.setUnplaced rest)) (by simp), createPacket_eq_orderStep,
      hmoved.slots n fun j hj hslot => ?_, slot_created, if_pos rfl]
    have hocc := (hmade.fits j).slot _ n hj hslot
    rw [slot_created, if_pos rfl] at hocc
    obtain ⟨g, b, hocc, hg⟩ := hocc
    cases hocc
    cases hg
  · rw [rankAt_congr (s := createPacket w.key n a w.jobTag (s.setUnplaced rest)) (by simp), createPacket_eq_orderStep,
      hmoved.ranks w.key (by rw [stateOf_of_packet hnew]; nofun),
      rankAt_created (s := s.setUnplaced rest) (Option.isSome_iff_exists.mpr ⟨_, hrank⟩), if_pos rfl]
  · have hold := (hpackets j).trans (if_neg hj)
    rw [packet_congr (s := createPacket w.key n a w.jobTag (s.setUnplaced rest)) (by simp), createPacket_eq_orderStep,
      hmoved.packets j (by rw [stateOf_congr hold]; exact hx), hold]
    rfl

/-- With the class records at rest, the slot and the key are all that a gift changes in the tower (R59, R79). -/
theorem allocate_given (hc : ClassesKept s) (h : Agrees o f s) (hu : s.unplaced = w :: rest) (n : Fin 24) :
    (allocate n s).held = s.held ∧ (allocate n s).queued = s.queued ∧ (allocate n s).flags = s.flags
      ∧ (allocate n s).unplaced = rest
      ∧ (∀ j, (allocate n s).slot j = if j = n then .occupied .collecting false w.key else s.slot j)
      ∧ ∀ j, j ≠ w.key → (allocate n s).rankAt j = s.rankAt j ∧ (allocate n s).packet j = s.packet j := by
  have hw : w ∈ s.unplaced := by simp [hu]
  obtain ⟨-, hrank, -⟩ := h.waiting w hw
  obtain ⟨a, ha⟩ := h.exists_assignment hw
  have hnone : s.packet w.key = none := packet_eq_none_iff.mpr (h.stateOf_eq_none hrank)
  have hsome : (s.rankAt w.key).isSome = true := Option.isSome_iff_exists.mpr ⟨_, hrank⟩
  rw [allocate_cons hu ha, createPacket_eq_created (s := s.setUnplaced rest) hc hrank]
  refine ⟨by simp [created], by simp [created], by simp [created], by simp [created], fun j => ?_, fun j hj => ⟨?_, ?_⟩⟩
  · rw [slot_congr (s := created w.key n a w.jobTag (s.setUnplaced rest)) (by simp), slot_created]
    rfl
  · rw [rankAt_congr (s := created w.key n a w.jobTag (s.setUnplaced rest)) (by simp),
      rankAt_created (s := s.setUnplaced rest) hsome, if_neg hj]
    rfl
  · rw [packet_congr (s := created w.key n a w.jobTag (s.setUnplaced rest)) (by simp),
      packet_created (s := s.setUnplaced rest) hnone, if_neg hj]
    rfl

/-- The packet `p` of `k` has left its slot, which has freed, since `s`; `m` is the slot's fence mark (R58, R59, R73). -/
structure SlotFreed (k : Key) (p : Packet) (n : Fin 24) (m : Bool) (s v : State) : Prop where
  packet : v.packet k = some { p with slot := none }
  fenced : m = true → v.slot n = .fenced
  free : m = false → s.unplaced = [] → v.slot n = .free
  given : ∀ w rest, m = false → s.unplaced = w :: rest →
    v.slot n = .occupied .collecting false w.key ∧ v.rankAt w.key = some .opened ∧ v.unplaced = rest

theorem SlotFreed.congr (h : SlotFreed k p n m s u) (hp : v.packets = u.packets := by simp) (hs : v.slots = u.slots := by simp)
    (hc : v.classes = u.classes := by simp) (hu : v.unplaced = u.unplaced := by simp) : SlotFreed k p n m s v where
  packet := (packet_congr hp k).trans h.packet
  fenced e := (slot_congr hs n).trans (h.fenced e)
  free e e' := (slot_congr hs n).trans (h.free e e')
  given w rest e e' := by
    rw [slot_congr hs, rankAt_congr hc, hu]
    exact h.given w rest e e'

/-- A freed slot holds no HELD packet, and the key it was given to has none. -/
theorem SlotFreed.moved (h : SlotFreed k p n m s v) (hx : p.state = .finishing) (ha : Agrees o f v) (hmoved : MovesHeld v t)
    (hu : t.unplaced = v.unplaced) : SlotFreed k p n m s t := by
  have hslot : (∀ b j, v.slot n ≠ .occupied .held b j) → t.slot n = v.slot n := fun hno =>
    hmoved.slots n fun j hj hn => by
      obtain ⟨g, b, hocc, hg⟩ := (ha.fits j).slot _ n hj hn
      cases hg
      exact hno b j hocc
  refine ⟨?_, fun e => ?_, fun e e' => ?_, fun w rest e e' => ?_⟩
  · rw [hmoved.packets k (by simp [stateOf_of_packet h.packet, hx]), h.packet]
  · rw [hslot (by simp [h.fenced e]), h.fenced e]
  · rw [hslot (by simp [h.free e e']), h.free e e']
  · obtain ⟨hocc, hrank, hrest⟩ := h.given w rest e e'
    rw [hslot (by simp [hocc]), hmoved.ranks w.key fun hx => ?_, hu]
    · exact ⟨hocc, hrank, hrest⟩
    · have := (ha.fits w.key).rank _ hx
      cases hrank.symm.trans this

theorem onlyChanges_setSlot_slotLeft (n : Fin 24) (x : Slot) (k : Key) (s : State) :
    OnlyChanges [.packets, .slots] s (setSlot n x (slotLeft k s)) :=
  OnlyChanges.append (onlyChanges_updatePacket k _ s) (onlyChanges_setSlots _ _)

section
variable (hp : s.packet k = some p) (hn : p.slot = some n) (hs : s.slot n = .occupied g m k)
include hp hn hs

/-- How a packet's slot frees, by its fence mark (R58, R73). -/
theorem leaveSlot_eq_of_mark : leaveSlot k s
    = if m then setSlot n .fenced (slotLeft k s) else allocate n (setSlot n .free (slotLeft k s)) := by
  rw [leaveSlot_eq ((slotOf_of_packet hp).trans hn), freeSlot, slot_congr (s := s) (by simp [slotLeft]), hs]

theorem leaveSlot_of_no_key_waiting (hu : s.unplaced = []) :
    leaveSlot k s = setSlot n (if m then .fenced else .free) (slotLeft k s) := by
  rw [leaveSlot_eq_of_mark hp hn hs]
  cases m
  · exact allocate_nil (by simpa [slotLeft] using hu) n
  · rfl

theorem leaveSlot_freed (h : Agrees none none s) (hx : p.state = .finishing) : SlotFreed k p n m s (leaveSlot k s) := by
  have hleft : ∀ x : Slot, (setSlot n x (slotLeft k s)).packet k = some { p with slot := none } := fun x => by
    rw [packet_congr (s := slotLeft k s) (by simp), packet_slotLeft, if_pos rfl, hp]
    rfl
  have hslot : ∀ x : Slot, (setSlot n x (slotLeft k s)).slot n = x := fun x => by rw [slot_setSlot, if_pos rfl]
  have hunplaced : (setSlot n .free (slotLeft k s)).unplaced = s.unplaced := by simp [slotLeft]
  rw [leaveSlot_eq_of_mark hp hn hs]
  cases m with
  | true => exact ⟨hleft _, fun _ => hslot _, nofun, nofun⟩
  | false =>
    have hagrees := slotLeft_agrees h hp hx hn (.inl rfl)
    cases hu : s.unplaced with
    | nil =>
      rw [if_neg (by decide), allocate_nil (hunplaced.trans hu)]
      exact ⟨hleft _, nofun, fun _ _ => hslot _, fun w rest _ e => by rw [hu] at e; cases e⟩
    | cons w rest =>
      obtain ⟨hocc, hrank, hrest, hothers⟩ := allocate_opens hagrees (hslot _) (hunplaced.trans hu)
      refine ⟨?_, nofun, fun _ e => (by rw [hu] at e; cases e), fun w' rest' _ e => ?_⟩
      · have hne : k ≠ w.key := fun e => (h.not_waiting hp w (by simp [hu])) e.symm
        exact (hothers k hne (by simp [stateOf_of_packet (hleft _), hx])).trans (hleft _)
      · rw [hu] at e
        cases e
        exact ⟨hocc, hrank, hrest⟩

/-- With the class records at rest, the freed slot and the key it is given to are all that changes (R58, R59, R79). -/
theorem leaveSlot_given (h : Agrees none none s) (hx : p.state = .finishing) (hc : ClassesKept s) :
    let v := leaveSlot k s
    v.held = s.held ∧ v.queued = s.queued ∧ v.flags = s.flags ∧ v.unplaced = (if m then s.unplaced else s.unplaced.tail)
      ∧ (∀ j, v.slot j = if j = n then (if m then .fenced else match s.unplaced with
          | [] => .free
          | w :: _ => .occupied .collecting false w.key) else s.slot j)
      ∧ ∀ j, s.rankAt j = some .held → v.rankAt j = some .held ∧ v.packet j = s.packet j := by
  have hparts := fun x => onlyChanges_setSlot_slotLeft n x k s
  have hleft : ∀ x j, s.rankAt j = some .held →
      (setSlot n x (slotLeft k s)).rankAt j = some .held ∧ (setSlot n x (slotLeft k s)).packet j = s.packet j := fun x j hj => by
    have hne : j ≠ k := by
      rintro rfl
      cases (stateOf_eq_some.mpr ⟨p, hp, hx⟩).symm.trans ((h.fits j).heldRank hj)
    refine ⟨(rankAt_congr (hparts x .classes (by simp)) j).trans hj, ?_⟩
    rw [packet_congr (s := slotLeft k s) (by simp), packet_slotLeft, if_neg hne]
  have hslots : ∀ x j, (setSlot n x (slotLeft k s)).slot j = if j = n then x else s.slot j := fun x j => by
    rw [slot_setSlot, slot_congr (s := s) (by simp [slotLeft])]
  have hsame : ∀ x, (setSlot n x (slotLeft k s)).held = s.held ∧ (setSlot n x (slotLeft k s)).queued = s.queued
      ∧ (setSlot n x (slotLeft k s)).flags = s.flags ∧ (setSlot n x (slotLeft k s)).unplaced = s.unplaced := fun x =>
    ⟨hparts x .held (by simp), hparts x .queued (by simp), hparts x .flags (by simp), hparts x .unplaced (by simp)⟩
  dsimp only
  rw [leaveSlot_eq_of_mark hp hn hs]
  cases m with
  | true =>
    obtain ⟨hheld, hqueued, hflags, hunplaced⟩ := hsame .fenced
    exact ⟨hheld, hqueued, hflags, hunplaced, hslots _, hleft _⟩
  | false =>
    obtain ⟨hheld, hqueued, hflags, hunplaced⟩ := hsame .free
    have hagrees := slotLeft_agrees h hp hx hn (.inl rfl)
    rw [if_neg (by decide)]
    cases hu : s.unplaced with
    | nil =>
      rw [allocate_nil (hunplaced.trans hu)]
      exact ⟨hheld, hqueued, hflags, hunplaced.trans hu, hslots _, hleft _⟩
    | cons w rest =>
      have hkept : ClassesKept (setSlot n .free (slotLeft k s)) := fun c => by
        rw [classRec_congr (hparts _ .classes (by simp))]
        exact hc c
      obtain ⟨hheld', hqueued', hflags', hrest, hslot, hothers⟩ := allocate_given hkept hagrees (hunplaced.trans hu) n
      refine ⟨hheld'.trans hheld, hqueued'.trans hqueued, hflags'.trans hflags, hrest, fun j => ?_, fun j hj => ?_⟩
      · rw [hslot, hslots]
        split <;> rfl
      · have hne : j ≠ w.key := by
          rintro rfl
          cases hj.symm.trans (h.waiting w (by simp [hu])).2.1
        obtain ⟨hrank, hpacket⟩ := hothers j hne
        rw [hrank, hpacket]
        exact hleft _ j hj

end

/-! ## The event (R115) -/

/-- A transfer done up to its end: the slot has freed and JOG has started (R115). -/
def transferred (k : Key) (s : State) : State := enterJog (leaveSlot k s)

theorem transferred_fin (k : Key) (s : State) : (transferred k s).fin
    = { s.fin with unit := s.fin.unit.toStage .jog, timer := some (s.settings.jogLimit * 100) } := by
  have hfin : (leaveSlot k s).fin = s.fin := by simp
  rw [transferred, enterJog, startStage_act_fin, hfin, stageLimit_congr (s := s) (by simp)]
  rfl

theorem transferred_actions (k : Key) (s : State) : (transferred k s).actions = s.actions ++ [.jog] := by
  have hactions : (leaveSlot k s).actions = s.actions := by simp
  rw [transferred, enterJog, startStage_act_actions, hactions]

theorem transferred_unit (k : Key) (s : State) : (transferred k s).fin.unit ≠ .idle := by
  rw [transferred_fin]
  cases s.fin.unit <;> nofun

/-- The unit that starts JOG after a transfer keeps the tower's law (R49 to R53). -/
theorem transferred_agrees (h : Agrees none none s) (hcur : s.fin.current = some c) : Agrees none none (transferred c.key s) := by
  obtain ⟨hleft, hslot⟩ := leaveSlot_agrees h (h.current_packet hcur)
  refine (enterJog_enters _).agrees hleft fun _ d hd => ?_
  have hfin : (leaveSlot c.key s).fin = s.fin := by simp
  cases hcur.symm.trans (hfin ▸ hd)
  exact hslot

section
variable (hp : s.packet k = some p) (hn : p.slot = some n) (hs : s.slot n = .occupied g m k)
include hp hn hs

/-- With no key waiting a transfer done changes the packet, its slot and the unit (R73, R115). -/
theorem transferred_of_no_key_waiting (hu : s.unplaced = []) :
    OnlyChanges [.slots, .packets, .fin, .actions] s (transferred k s) ∧ (transferred k s).unplaced = []
      ∧ (∀ j, j ≠ n → (transferred k s).slot j = s.slot j) ∧ ∀ j, j ≠ k → (transferred k s).packet j = s.packet j := by
  have hparts := onlyChanges_setSlot_slotLeft n (if m then .fenced else .free) k s
  rw [transferred, leaveSlot_of_no_key_waiting hp hn hs hu]
  refine ⟨?_, ?_, fun j hj => ?_, fun j hj => ?_⟩
  · exact (OnlyChanges.append hparts (onlyChanges_startStage_act .jog .jog _)).mono (by simp)
  · simpa [slotLeft] using hu
  · rw [slot_congr (s := setSlot n (if m then .fenced else .free) (slotLeft k s)) (by simp), slot_setSlot, if_neg hj,
      slot_congr (s := s) (by simp [slotLeft])]
  · rw [packet_congr (s := slotLeft k s) (by simp), packet_slotLeft, if_neg hj]

/-- What relief and the end of a Purge leave of a transfer done (R73, R86, R163). -/
theorem transferred_freed (h : Agrees none none s) (hcur : s.fin.current = some c) (hc : c.key = k) :
    SlotFreed k p n m s (purgeTest (tryRelief (transferred k s))) := by
  subst hc
  have hx : p.state = .finishing := (h.current_iff hp).mp (by simp [hcur])
  have hagrees := transferred_agrees h hcur
  have hfreed : SlotFreed c.key p n m s (transferred c.key s) :=
    (leaveSlot_freed hp hn hs h hx).congr (by simp [transferred]) (by simp [transferred]) (by simp [transferred])
      (by simp [transferred])
  exact (hfreed.moved hx hagrees (movesHeld_tryRelief hagrees) (by simp)).congr

end

/-- While a stage runs there is no selection pass (R109). -/
theorem endEvent_of_busy (hu : u.fin.unit ≠ .idle) (s0 : State) (pass : Bool) :
    endEvent s0 { relief := true, purge := true, pass := pass } u = purgeTest (tryRelief u) := by
  have hpass : selectionPass (purgeTest (tryRelief u)) = purgeTest (tryRelief u) := selectionPass_of_not_idle (by simpa using hu)
  simp [endEvent, hpass]

theorem onTransferDone_eq (hrun : s.fin.unit.running = some .transfer) (hc : s.fin.current = some c) :
    onTransferDone s = endEvent s { relief := true, purge := true, pass := false } (transferred c.key s) := by
  rw [onTransferDone, currentIn_eq_some hrun hc]
  rfl

end

/-- Settles O50: the slot that frees is `leaveSlot`'s, and what relief does after it moves HELD packets only. -/
theorem transferDoneFreesTheSlot : Obligations.TransferDoneFreesTheSlot := by
  intro s
  refine ⟨fun h => ignored ?_, fun c p n m ht hrun hc hp hn hslot => ?_⟩
  · refine congrArg Host.Outcome.next ?_
    rw [onTransferDone, currentIn_eq_none (s := beginEvent s) h]
  have hb : Agrees none none (beginEvent s) := (agrees_of_towerKept ht).congr
  have hx : p.state = .finishing := (hb.current_iff (s := beginEvent s) hp).mp (by simp [hc])
  rw [(mem_of_packet hp).2] at hslot
  have hend := endEvent_of_busy (transferred_unit c.key (beginEvent s)) (beginEvent s) false
  have hexec : exec .transferDone s = .next (onTransferDone (beginEvent s)) := rfl
  rw [onTransferDone_eq (s := beginEvent s) hrun hc, hend] at hexec
  have hfreed := transferred_freed (s := beginEvent s) hp hn hslot hb hc rfl
  have hfin := transferred_fin c.key (beginEvent s)
  have hactions := transferred_actions c.key (beginEvent s)
  have hlast : (purgeTest (tryRelief (transferred c.key (beginEvent s)))).fin = (transferred c.key (beginEvent s)).fin := by simp
  refine ⟨_, hexec, ?_, ?_, hfreed.packet, hfreed.fenced, hfreed.free, hfreed.given, fun hidle hnone => ?_, fun hidle hkept => ?_⟩
  · simpa [beginEvent] using hactions
  · rw [hlast, hfin]
    simp only [beginEvent_frame]
    cases s.fin.unit <;> rfl
  · obtain ⟨hparts, hunplaced, hslots, hpackets⟩ := transferred_of_no_key_waiting (s := beginEvent s) hp hn hslot hnone
    have hnot : ¬ReliefDue (transferred c.key (beginEvent s)) := fun hdue => hdue.1 hunplaced
    rw [tryRelief_of_not_due hnot, purgeTest_of_idle ((hparts .purge (by simp)).trans hidle)]
    exact ⟨(OnlyChanges.append (onlyChanges_beginEvent s) hparts).mono (by simp), hslots, hpackets⟩
  · obtain ⟨hheld, hqueued, hflags, hunplaced, hslots, hranks⟩ := leaveSlot_given (s := beginEvent s) hp hn hslot hb hx hkept
    refine ⟨transferred c.key (beginEvent s), ?_, hlast.symm, hactions, ?_, ?_, ?_, ?_, fun j => ?_, fun j hj => ?_⟩
    · rw [← hend]
      exact Lanes.endsWithRelief rfl (by simp [transferred, hqueued]) fun _ => by simp [transferred, hidle]
    · simp [transferred, hheld]
    · simp [transferred, hqueued]
    · simp [transferred, hflags]
    · simpa [transferred] using hunplaced
    · rw [slot_congr (s := leaveSlot c.key (beginEvent s)) (by simp [transferred])]
      exact hslots j
    · rw [rankAt_congr (s := leaveSlot c.key (beginEvent s)) (by simp [transferred]),
        packet_congr (s := leaveSlot c.key (beginEvent s)) (by simp [transferred])]
      exact hranks j hj

end Sys2Proof.Finishing

namespace Sys2Proof.Finishing

open Sys2Proof.Machine Sys2Proof.Safety Sys2Proof.ClassTable Sys2Proof.Requests Sys2Proof.Events Sys2Proof.Lanes Sys2Proof.Tower

/-! # The current packet leaves the map (R8, R91, R119, R122) -/

section
variable {s : State} {k j : Key} {x : RankState} {m : Bool} {c : Nat}

/-! ## The rank of the packet that goes (R91) -/

theorem classRec_endRank (k : Key) (x : RankState) (s : State) (d : Nat) :
    (endRank k x s).classRec d
      = if d = k.cls ∧ s.rankAt k = some .released then (s.classRec k.cls).withRank k.rank x else s.classRec d := by
  unfold endRank
  split
  · rename_i hr
    simp [classRec_setRank, lt_of_rankAt hr, hr]
  · rename_i hr
    rw [if_neg fun e => hr e.2]

theorem rankAt_endRank (k : Key) (x : RankState) (s : State) (j : Key) :
    (endRank k x s).rankAt j = if j = k ∧ s.rankAt j = some .released then some x else s.rankAt j := by
  by_cases hj : j = k
  · subst hj
    unfold endRank
    by_cases hr : s.rankAt j = some .released <;> simp [hr, rankAt_setRank]
  · have hsame : (endRank k x s).rankAt j = s.rankAt j := by
      unfold endRank
      split
      · rw [rankAt_setRank, if_neg fun e => hj e.1]
      · rfl
    rw [hsame, if_neg fun e => hj e.1]

theorem countOf_eq_zero_iff (r : ClassRec) (x : RankState) : r.countOf x = 0 ↔ ∀ k, r.rankAt k ≠ some x := by
  unfold ClassRec.countOf ClassRec.rankAt
  cases r.body with
  | none => simp
  | some b =>
    simp only [List.length_eq_zero_iff, List.filter_eq_nil_iff, decide_eq_true_eq, List.mem_iff_getElem?]
    exact ⟨fun h k hk => h x ⟨k, hk⟩ rfl, fun h y ⟨k, hk⟩ e => h k (e ▸ hk)⟩

/-- The count that the done condition reads is not changed by a rank that ends (R8, R91). -/
theorem countOf_waiting_endRank (hx : x ≠ .waiting) (k : Key) (s : State) (d : Nat) :
    ((endRank k x s).classRec d).countOf .waiting = 0 ↔ (s.classRec d).countOf .waiting = 0 := by
  have hkeys : ∀ j, (endRank k x s).rankAt j = some .waiting ↔ s.rankAt j = some .waiting := fun j => by
    rw [rankAt_endRank]
    split
    · rename_i e
      simp [e.2, hx]
    · rfl
  have hrank := fun i => hkeys { cls := d, rank := i }
  simp only [State.rankAt] at hrank
  simp only [countOf_eq_zero_iff, ne_eq, hrank]

/-! ## The packet out of the map, before the order of its class is looked at -/

/-- The packet is out of the map and is the current one no more (R119, R122). -/
def outOfMap (k : Key) (x : RankState) (s : State) : State := setCurrent none (removePacket k (endRank k x s))

theorem departed_eq (m : Bool) (k : Key) (x : RankState) (s : State) :
    departed m k x s = freeUnit m (orderStep k.cls (outOfMap k x s)) := rfl

theorem packet_outOfMap (k : Key) (x : RankState) (s : State) (j : Key) :
    (outOfMap k x s).packet j = if j = k then none else s.packet j := by
  rw [packet_congr (s := removePacket k (endRank k x s)) (by simp [outOfMap]), packet_removePacket, packet_congr (s := s) (by simp)]

theorem classRec_outOfMap (k : Key) (x : RankState) (s : State) (d : Nat) :
    (outOfMap k x s).classRec d = (endRank k x s).classRec d := classRec_congr (by simp [outOfMap]) d

theorem onlyChanges_endRank (k : Key) (x : RankState) (s : State) : OnlyChanges [.classes] s (endRank k x s) := by
  unfold endRank
  split
  · exact onlyChanges_setRank k x s
  · exact .refl _ s

theorem onlyChanges_outOfMap (k : Key) (x : RankState) (s : State) :
    OnlyChanges [.classes, .packets, .fin] s (outOfMap k x s) :=
  OnlyChanges.append (onlyChanges_endRank k x s) (OnlyChanges.append (onlyChanges_setPackets _ _) (onlyChanges_setFin _ _))

/-- A rank that ends lies below the cursor, so the cursor stays (R5, R79, R91). -/
theorem cursorAdvance_outOfMap (hk : ClassKept (s.classRec k.cls)) (x : RankState) :
    cursorAdvance k.cls (outOfMap k x s) = outOfMap k x s := by
  obtain ⟨hshape, hrest⟩ := (classKept_iff _).mp hk
  have hrec := (classRec_outOfMap k x s k.cls).trans (classRec_endRank k x s k.cls)
  by_cases hr : s.rankAt k = some .released
  · have hbelow : k.rank < (s.classRec k.cls).cursor := by
      obtain ⟨-, -, -, -, habove⟩ := hshape
      exact Nat.lt_of_not_le fun hle => (habove _ hle).1 hr
    rw [if_pos ⟨rfl, hr⟩] at hrec
    exact cursorAdvance_of_atRest (hrec ▸ hshape.withRank (.inl hbelow)) (hrec ▸ hrest.withRank (.inl hbelow.ne))
  · rw [if_neg fun e => hr e.2] at hrec
    exact cursorAdvance_of_atRest (hrec ▸ hshape) (hrec ▸ hrest)

/-! ## The done condition without the packet (R8) -/

/-- Nothing of the packet's class is left beside the packet. -/
def LastOfClass (k : Key) (s : State) : Prop :=
  (s.classRec k.cls).cursor = (s.classRec k.cls).size ∧ (s.classRec k.cls).countOf .waiting = 0
    ∧ ∀ j, j ≠ k → j.cls = k.cls → s.packet j = none

theorem lastOfClass_congr {t : State} (hc : t.classes = s.classes) (hp : ∀ j, j ≠ k → t.packet j = s.packet j) :
    LastOfClass k t ↔ LastOfClass k s := by
  unfold LastOfClass
  rw [classRec_congr hc]
  refine and_congr_right' (and_congr_right' (forall_congr' fun j => forall_congr' fun hj => ?_))
  rw [hp j hj]

theorem any_packets_iff (s : State) (c : Nat) :
    s.packets.any (fun p => p.key.cls = c) = false ↔ ∀ j, j.cls = c → s.packet j = none := by
  simp only [List.any_eq_false, decide_eq_true_eq]
  constructor
  · intro h j hj
    cases hp : s.packet j with
    | none => rfl
    | some p =>
      obtain ⟨hmem, hkey⟩ := mem_of_packet hp
      exact absurd (hkey ▸ hj) (h p hmem)
  · intro h p hp hc
    have := List.find?_eq_none.mp (h p.key hc) p hp
    simp at this

theorem doneCondition_outOfMap (hx : x ≠ .waiting) : (outOfMap k x s).doneCondition k.cls = true ↔ LastOfClass k s := by
  have hcursor : ((endRank k x s).classRec k.cls).cursor = (s.classRec k.cls).cursor
      ∧ ((endRank k x s).classRec k.cls).size = (s.classRec k.cls).size := by
    rw [classRec_endRank]
    split <;> simp
  have hothers : (∀ j : Key, j.cls = k.cls → (outOfMap k x s).packet j = none) ↔ ∀ j, j ≠ k → j.cls = k.cls → s.packet j = none := by
    refine forall_congr' fun j => ?_
    rw [packet_outOfMap]
    by_cases hj : j = k <;> simp [hj]
  simp only [State.doneCondition, Bool.and_eq_true, decide_eq_true_eq, Bool.not_eq_true', any_packets_iff, hothers,
    classRec_outOfMap, countOf_waiting_endRank hx, hcursor.1, hcursor.2, LastOfClass]
  tauto

/-! ## The class, which may be done (R8, R94, R161) -/

/-- The class of a packet that goes while other work of it is left, stays as it is (R8). -/
theorem orderStep_outOfMap_of_not_last (hk : ClassKept (s.classRec k.cls)) (hx : x ≠ .waiting) (h : ¬LastOfClass k s) :
    orderStep k.cls (outOfMap k x s) = outOfMap k x s := by
  rw [orderStep, cursorAdvance_outOfMap hk, doneCheck, if_neg]
  simp [doneCondition_outOfMap hx, h]

/-- The class is DONE, its report is made, and then its cause (R8, R94). -/
def classEnded (c : Nat) (s : State) : State :=
  raise .classDone (sendReport .classDone (classDoneBody c ((setClassState c .done s).classRec c) s.stamp) (setClassState c .done s))

theorem orderStep_outOfMap_of_last (hk : ClassKept (s.classRec k.cls)) (ha : (s.classRec k.cls).state = .active)
    (hx : x ≠ .waiting) (h : LastOfClass k s) : orderStep k.cls (outOfMap k x s) = classEnded k.cls (outOfMap k x s) := by
  have hstate : ((outOfMap k x s).classRec k.cls).state = .active := by
    rw [classRec_outOfMap, classRec_endRank]
    split <;> simp [ha]
  rw [orderStep, cursorAdvance_outOfMap hk, doneCheck, if_pos]
  · simp [classEnded]
  · simp [doneCondition_outOfMap hx, h, hstate]

theorem onlyChanges_classEnded (c : Nat) (s : State) :
    OnlyChanges [.classes, Part.link s.settings.reportLane, .flags] s (classEnded c s) := by
  have hsettings : (setClassState c .done s).settings = s.settings := by simp
  have hsent := onlyChanges_sendUnsolicited (setClassState c .done s).settings.reportLane .classDone
    (classDoneBody c ((setClassState c .done s).classRec c) s.stamp) (setClassState c .done s)
  rw [← hsettings]
  exact OnlyChanges.append (onlyChanges_setClassRec c _ s) (OnlyChanges.append hsent (onlyChanges_raise .classDone _))

theorem classRec_classEnded (hc : c < 48) (s : State) (d : Nat) :
    (classEnded c s).classRec d = if d = c then { s.classRec c with state := .done } else s.classRec d := by
  rw [classRec_congr (s := setClassState c .done s) (by simp [classEnded]), classRec_setClassState]
  simp [hc]

theorem rankAt_classEnded (hc : c < 48) (s : State) (j : Key) : (classEnded c s).rankAt j = s.rankAt j := by
  rw [State.rankAt, classRec_classEnded hc]
  split
  · rename_i e
    rw [State.rankAt, e]
    rfl
  · rfl

theorem classEnded_link (c : Nat) (s : State) : (classEnded c s).link s.settings.reportLane
    = sentLink (s.link s.settings.reportLane) s.attention .classDone
        (classDoneBody c ((classEnded c s).classRec c) s.stamp) := by
  have hrec : (classEnded c s).classRec c = (setClassState c .done s).classRec c := classRec_congr (by simp [classEnded]) c
  have hatt : (setClassState c .done s).attention = s.attention := attention_congr (by simp)
  rw [hrec, classEnded]
  simp [sendReport, sendUnsolicited_link, hatt]

/-- What the departure of the current packet leaves, by whether it was the last of its class (R8, R91, R94, R161). -/
structure Departs (k : Key) (x : RankState) (s u : State) : Prop where
  packets : ∀ j, u.packet j = if j = k then none else s.packet j
  ranks : ∀ j, u.rankAt j = if j = k ∧ s.rankAt j = some .released then some x else s.rankAt j
  stages : ∀ d, (d ≠ k.cls ∨ ¬LastOfClass k s) → (u.classRec d).state = (s.classRec d).state
  done : LastOfClass k s → (u.classRec k.cls).state = .done
  record : (u.classRec k.cls).generation = (s.classRec k.cls).generation ∧ (u.classRec k.cls).size = (s.classRec k.cls).size
  quiet : ¬LastOfClass k s → u.flags = s.flags ∧ u.link s.settings.reportLane = s.link s.settings.reportLane
  reported : LastOfClass k s → u.flags = s.flags ||| BitVec.twoPow 12 11
    ∧ u.link s.settings.reportLane = sentLink (s.link s.settings.reportLane) s.attention .classDone
        (classDoneBody k.cls (u.classRec k.cls) s.stamp)
  parts : OnlyChanges [.classes, .packets, .fin, .flags, Part.link s.settings.reportLane] s u

theorem Departs.congr {u v : State} (h : Departs k x s u) (hc : v.classes = u.classes := by simp)
    (hp : v.packets = u.packets := by simp) (hf : v.flags = u.flags := by simp) (hl : ∀ l, v.link l = u.link l := by simp)
    (hparts : OnlyChanges [.fin] u v) : Departs k x s v where
  packets j := (packet_congr hp j).trans (h.packets j)
  ranks j := (rankAt_congr hc j).trans (h.ranks j)
  stages d hd := by rw [classRec_congr hc, h.stages d hd]
  done e := by rw [classRec_congr hc, h.done e]
  record := by rw [classRec_congr hc]; exact h.record
  quiet e := by rw [hf, hl]; exact h.quiet e
  reported e := by rw [hf, hl, classRec_congr hc]; exact h.reported e
  parts := h.parts.andThen hparts (by simp)

theorem outOfMap_stage (k : Key) (x : RankState) (s : State) (d : Nat) :
    ((outOfMap k x s).classRec d).state = (s.classRec d).state := by
  rw [classRec_outOfMap, classRec_endRank]
  split
  · rename_i e
    rw [withRank_state, e.1]
  · rfl

theorem outOfMap_load (k : Key) (x : RankState) (s : State) (d : Nat) :
    ((outOfMap k x s).classRec d).generation = (s.classRec d).generation
      ∧ ((outOfMap k x s).classRec d).size = (s.classRec d).size := by
  rw [classRec_outOfMap, classRec_endRank]
  split
  · rename_i e
    have h := sameLoad_withRank (s.classRec k.cls) k.rank x
    rw [e.1]
    exact ⟨h.generation, h.size⟩
  · exact ⟨rfl, rfl⟩

/-- The current packet leaves a class that was at rest (R8, R91). -/
theorem orderStep_outOfMap_departs (hk : ClassKept (s.classRec k.cls)) (ha : (s.classRec k.cls).state = .active)
    (hx : x ≠ .waiting) : Departs k x s (orderStep k.cls (outOfMap k x s)) := by
  have hparts := onlyChanges_outOfMap k x s
  have hlink : ∀ l, (outOfMap k x s).link l = s.link l := by simp [outOfMap]
  have hsettings : (outOfMap k x s).settings = s.settings := by simp [outOfMap]
  have hflags : (outOfMap k x s).flags = s.flags := hparts .flags (by simp)
  have hranks : ∀ j, (outOfMap k x s).rankAt j = if j = k ∧ s.rankAt j = some .released then some x else s.rankAt j := fun j => by
    rw [rankAt_congr (s := endRank k x s) (by simp [outOfMap]), rankAt_endRank]
  have hpackets := packet_outOfMap k x s
  have hstages := outOfMap_stage k x s
  have hload := outOfMap_load k x s k.cls
  by_cases h : LastOfClass k s
  · have hlt : k.cls < 48 := lt_of_state_ne_empty (by rw [ha]; decide)
    rw [orderStep_outOfMap_of_last hk ha hx h]
    have hrec := classRec_classEnded hlt (outOfMap k x s)
    have hreport := classEnded_link k.cls (outOfMap k x s)
    rw [hsettings, hlink, attention_congr hflags, hparts .stamp (by simp)] at hreport
    have hended := onlyChanges_classEnded k.cls (outOfMap k x s)
    rw [hsettings] at hended
    refine ⟨fun j => ?_, fun j => ?_, fun d hd => ?_, fun _ => ?_, ?_, fun e => absurd h e, fun _ => ⟨?_, hreport⟩, ?_⟩
    · rw [packet_congr (s := outOfMap k x s) (by simp [classEnded]), hpackets]
    · rw [rankAt_classEnded hlt, hranks]
    · rw [hrec, if_neg (hd.resolve_right fun e => e h), hstages]
    · rw [hrec, if_pos rfl]
    · rw [hrec, if_pos rfl]
      exact hload
    · rw [classEnded, raise, State.setFlags_flags, ← hflags]
      simp [Cause.bit]
    · exact (OnlyChanges.append hparts hended).mono (by simp)
  · rw [orderStep_outOfMap_of_not_last hk hx h]
    exact ⟨hpackets, hranks, fun d _ => hstages d, fun e => absurd e h, hload, fun _ => ⟨hflags, hlink _⟩, fun e => absurd e h,
      hparts.mono (by simp)⟩

/-- Where one link and parts that are no link may change, the other link stays. -/
theorem link_of_onlyChanges_other {ps : List Part} {l n : Lane} {u : State} (h : OnlyChanges (ps ++ [Part.link n]) s u)
    (ha : .linkA ∉ ps) (hb : .linkB ∉ ps) (hl : l ≠ n) : u.link l = s.link l := by
  refine Lanes.OnlyChanges.link h ?_
  revert hl
  cases l <;> cases n <;> simp [Part.link, ha, hb]

theorem Departs.frame {u : State} (h : Departs k x s u) : OnlyChanges [.classes, .packets, .fin, .flags, .linkA, .linkB] s u :=
  h.parts.mono (by cases s.settings.reportLane <;> simp [Part.link])

theorem Departs.link_of_ne {u : State} (h : Departs k x s u) {l : Lane} (hl : l ≠ s.settings.reportLane) :
    u.link l = s.link l :=
  link_of_onlyChanges_other (ps := [.classes, .packets, .fin, .flags]) h.parts (by simp) (by simp) hl

theorem Departs.lane {u : State} (h : Departs k x s u) (l : Lane) : u.lane l = s.lane l :=
  Lanes.OnlyChanges.lane h.frame (by cases l <;> simp [Part.lane])

/-- The unit that is free after it changes nothing more (R119, R122). -/
theorem departed_departs (hk : ClassKept (s.classRec k.cls)) (ha : (s.classRec k.cls).state = .active) (hx : x ≠ .waiting)
    (m : Bool) : Departs k x s (departed m k x s) :=
  (orderStep_outOfMap_departs hk ha hx).congr (by simp [departed_eq]) (by simp [departed_eq]) (by simp [departed_eq])
    (by simp [departed_eq]) (onlyChanges_setFin _ _)

end

end Sys2Proof.Finishing

namespace Sys2Proof.Finishing

open Sys2Proof.Machine Sys2Proof.Safety Sys2Proof.ClassTable Sys2Proof.Requests Sys2Proof.Events Sys2Proof.Lanes Sys2Proof.Tower

/-! # Eject done (R119, R131, R136, R138) -/

section
variable {s : State} {c : Current} {p : Packet} {m : Lane} {n : Nat}

/-! ## Sheets counted into the tray (R138) -/

/-- A number of sheets brings the tray count to its threshold. -/
abbrev TrayReaches (n : Nat) (s : State) : Prop := s.tray < s.trayThreshold ∧ s.trayThreshold ≤ s.tray + n

theorem addTray_holds (n : Nat) (s : State) (m : Lane) :
    (addTray n s).lane m = (if TrayReaches n s then LaneUnit.held (s.lane m) else s.lane m)
      ∧ (addTray n s).link m = (if TrayReaches n s then heldLink (s.lane m) (s.link m) true else s.link m) := by
  obtain ⟨v, hv⟩ : ∃ v, v = raise .exceptionTrayFull (s.setTray (s.tray + n)) := ⟨_, rfl⟩
  have hsame : v.lane m = s.lane m ∧ v.link m = s.link m ∧ v.attention = true ∧ v.trayThreshold = s.trayThreshold
      ∧ v.tray = s.tray + n := by
    rw [hv]
    exact ⟨by simp, by simp, attention_raise _ _, by simp [State.trayThreshold], by simp⟩
  obtain ⟨hlane, hlink, hatt, hthreshold, htray⟩ := hsame
  have e : addTray n s = if s.trayThreshold ≤ s.tray + n then if s.trayThreshold ≤ s.tray then v else evalHolds v
      else s.setTray (s.tray + n) := by rw [hv]; rfl
  rw [e]
  by_cases hreach : s.trayThreshold ≤ s.tray + n
  · by_cases hbefore : s.trayThreshold ≤ s.tray
    · simp [hreach, hbefore, Nat.not_lt.mpr hbefore, hlane, hlink]
    · have hholds := evalHolds_of_condition (s := v) (holdCondition_of_tray (by rw [hthreshold, htray]; exact hreach)) m
      simp [hreach, hbefore, Nat.not_le.mp hbefore, hholds, hlane, hlink, hatt]
  · simp [hreach]

/-! ## The books of a delivery (R119, R131, R136) -/

/-- A delivery to the tray leaves its count at the threshold or above. -/
abbrev FillsTray (c : Current) (p : Packet) (s : State) : Prop :=
  c.target = .tray ∧ s.settings.exceptionCapacity - 12 ≤ s.tray + p.sheetsHeld

/-- A delivery holds a lane. -/
abbrev HoldsLane (c : Current) (p : Packet) (s : State) (m : Lane) : Prop :=
  FillsTray c p s ∧ s.tray < s.settings.exceptionCapacity - 12 ∧ (s.lane m).state = .running

theorem target_cases (x : Target) : x = .tray ∨ ∃ b, x = .bin b := by
  cases x with
  | tray => exact .inl rfl
  | bin b => exact .inr ⟨b, rfl⟩

theorem commit_of_tray (h : c.target = .tray) (p : Packet) (s : State) : commit c p s = addTray p.sheetsHeld s := by
  rw [commit, h]

theorem commit_of_bin {b : Fin 17} (h : c.target = .bin b) (p : Packet) (s : State) : commit c p s
    = setBin b { s.bin b with reserved := (s.bin b).reserved - c.units, fill := (s.bin b).fill + c.units } s := by
  rw [commit, h]

theorem commit_tray (c : Current) (p : Packet) (s : State) :
    (commit c p s).tray = if c.target = .tray then s.tray + p.sheetsHeld else s.tray := by
  obtain h | ⟨b, h⟩ := target_cases c.target
  · rw [commit_of_tray h, addTray_tray, if_pos h]
  · simp [commit_of_bin h, h]

theorem commit_flags (c : Current) (p : Packet) (s : State) :
    (commit c p s).flags = if FillsTray c p s then s.flags ||| BitVec.twoPow 12 3 else s.flags := by
  obtain h | ⟨b, h⟩ := target_cases c.target
  · simp [commit_of_tray h, addTray_flags, FillsTray, h, State.trayThreshold, Config.trayMargin]
  · simp [commit_of_bin h, FillsTray, h]

theorem commit_lanes (c : Current) (p : Packet) (s : State) (m : Lane) :
    (commit c p s).lane m = { s.lane m with state := if HoldsLane c p s m then .held else (s.lane m).state }
      ∧ (commit c p s).link m = if HoldsLane c p s m then sentLink (s.link m) true .hold [] else s.link m := by
  obtain h | ⟨b, h⟩ := target_cases c.target
  · obtain ⟨hlane, hlink⟩ := addTray_holds p.sheetsHeld s m
    rw [commit_of_tray h, hlane, hlink]
    have hreach : TrayReaches p.sheetsHeld s ↔ FillsTray c p s ∧ s.tray < s.settings.exceptionCapacity - 12 := by
      simp [TrayReaches, FillsTray, h, State.trayThreshold, Config.trayMargin, and_comm]
    by_cases hholds : HoldsLane c p s m
    · obtain ⟨hfills, hbelow, hrun⟩ := id hholds
      simp only [if_pos (hreach.mpr ⟨hfills, hbelow⟩), if_pos hholds, LaneUnit.held, heldLink, if_pos hrun, and_self]
    · simp only [if_neg hholds]
      by_cases hrun : (s.lane m).state = .running
      · have hnot : ¬TrayReaches p.sheetsHeld s := fun hr =>
          hholds ⟨(hreach.mp hr).1, (hreach.mp hr).2, hrun⟩
        simp only [if_neg hnot, and_self]
      · simp only [LaneUnit.held, heldLink, if_neg hrun, ite_self, and_self]
  · simp [commit_of_bin h, HoldsLane, FillsTray, h]

theorem booked_eq (c : Current) (p : Packet) (s : State) : booked c p s
    = sendReport .disposition (dispositionBody p c.target.code c.staplesPlaced c.units s.stamp)
        (flipJogSide c p (commit c p (stopStageTimer s))) := by
  simp [booked, sendDisposition, stopStageTimer]

theorem booked_counts (c : Current) (p : Packet) (s : State) :
    (booked c p s).tray = (if c.target = .tray then s.tray + p.sheetsHeld else s.tray)
      ∧ (booked c p s).flags = (if FillsTray c p s then s.flags ||| BitVec.twoPow 12 3 else s.flags)
      ∧ (booked c p s).stamp = s.stamp ∧ (booked c p s).settings = s.settings := by
  have htray : (commit c p (stopStageTimer s)).tray = if c.target = .tray then s.tray + p.sheetsHeld else s.tray :=
    commit_tray c p (stopStageTimer s)
  have hflags : (commit c p (stopStageTimer s)).flags = if FillsTray c p s then s.flags ||| BitVec.twoPow 12 3 else s.flags :=
    commit_flags c p (stopStageTimer s)
  exact ⟨by simp [booked, htray], by simp [booked, hflags], by simp [booked], by simp [booked]⟩

theorem booked_lane (c : Current) (p : Packet) (s : State) (m : Lane) :
    (booked c p s).lane m = { s.lane m with state := if HoldsLane c p s m then .held else (s.lane m).state } := by
  have hlane : (booked c p s).lane m = (commit c p (stopStageTimer s)).lane m := by simp [booked]
  exact hlane.trans (commit_lanes c p (stopStageTimer s) m).1

/-- A lane's link with the Hold frame that a delivery to the tray may send on it (R44, R138). -/
def deliveryLink (c : Current) (p : Packet) (s : State) (m : Lane) : Link :=
  if HoldsLane c p s m then sentLink (s.link m) true .hold [] else s.link m

/-- The Disposition goes on the report lane after the Hold frames (R119, R138). -/
theorem booked_link (c : Current) (p : Packet) (s : State) (m : Lane) : (booked c p s).link m
    = if m = s.settings.reportLane then
        sentLink (deliveryLink c p s m) ((if FillsTray c p s then s.flags ||| BitVec.twoPow 12 3 else s.flags) != 0#12) .disposition
          (dispositionBody p c.target.code c.staplesPlaced c.units s.stamp)
      else deliveryLink c p s m := by
  obtain ⟨v, hv⟩ : ∃ v, v = flipJogSide c p (commit c p (stopStageTimer s)) := ⟨_, rfl⟩
  have hlinks : ∀ m, v.link m = deliveryLink c p s m := fun m => by
    have hflip : v.link m = (commit c p (stopStageTimer s)).link m := by simp [hv]
    exact hflip.trans (commit_lanes c p (stopStageTimer s) m).2
  have hflags : v.flags = if FillsTray c p s then s.flags ||| BitVec.twoPow 12 3 else s.flags := by
    have hflip : v.flags = (commit c p (stopStageTimer s)).flags := by simp [hv]
    exact hflip.trans (commit_flags c p (stopStageTimer s))
  have hsettings : v.settings = s.settings := by simp [hv]
  rw [booked_eq, ← hv, sendReport, sendUnsolicited_link, attention_eq, hsettings, hlinks, hlinks, hflags]
  split
  · rename_i e
    rw [e]
  · rfl

theorem flipJogSide_of_bin {b : Fin 17} (h : c.target = .bin b) (p : Packet) (s : State) : flipJogSide c p s
    = if p.flags.centred then s else setBin b { s.bin b with jogSide := (s.bin b).jogSide.flip } s := by
  rw [flipJogSide, h]

/-- The bin's units, and its jog side for the next packet (R131, R136). -/
theorem booked_bin (c : Current) (p : Packet) (s : State) (i : Fin 17) : (booked c p s).bin i
    = if c.target = .bin i then
        { s.bin i with
            reserved := (s.bin i).reserved - c.units, fill := (s.bin i).fill + c.units,
            jogSide := if p.flags.relieved = true ∨ p.flags.late = true then (s.bin i).jogSide
              else match (s.bin i).jogSide with | .left => .right | .right => .left }
      else s.bin i := by
  have hbins : (booked c p s).bin i = (flipJogSide c p (commit c p (stopStageTimer s))).bin i := bin_congr (by simp [booked]) i
  have hstopped : ∀ i, (stopStageTimer s).bin i = s.bin i := bin_congr (by simp)
  rw [hbins]
  obtain h | ⟨b, h⟩ := target_cases c.target
  · have e : flipJogSide c p (commit c p (stopStageTimer s)) = addTray p.sheetsHeld (stopStageTimer s) := by
      rw [commit_of_tray h, flipJogSide, h]
    rw [e, bin_congr (s := s) (by simp), if_neg (by simp [h])]
  · rw [flipJogSide_of_bin h, commit_of_bin h]
    by_cases hi : i = b
    · subst hi
      have hcentred : (p.flags.relieved = true ∨ p.flags.late = true) ↔ p.flags.centred = true := by simp [PacketFlags.centred]
      simp only [if_pos h, hcentred]
      split
      · simp [hstopped]
      · simp only [bin_setBin, if_true, hstopped]
        rfl
    · have hne : c.target ≠ .bin i := by
        rw [h]
        exact fun e => hi (by cases e; rfl)
      rw [if_neg hne]
      split <;> simp [hi, hstopped]

theorem onlyChanges_booked (c : Current) (p : Packet) (s : State) :
    OnlyChanges [.fin, .bins, .tray, .flags, .laneA, .laneB, .linkA, .linkB] s (booked c p s) := by
  intro x hx
  cases x <;> simp [Part.Same, booked] at hx ⊢

theorem onlyChanges_booked_of_bin {b : Fin 17} (h : c.target = .bin b) (p : Packet) (s : State) :
    OnlyChanges [.fin, .bins, Part.link s.settings.reportLane] s (booked c p s) := by
  have hflip : OnlyChanges [.fin, .bins] s (flipJogSide c p (commit c p (stopStageTimer s))) := by
    have hcommit : OnlyChanges [.fin, .bins] s (commit c p (stopStageTimer s)) := by
      rw [commit_of_bin h]
      exact OnlyChanges.append (onlyChanges_setFin _ s) (onlyChanges_setBins _ _)
    rw [flipJogSide_of_bin h]
    split
    · exact hcommit
    · exact hcommit.andThen (onlyChanges_setBins _ _) (by simp)
  have hsettings : (flipJogSide c p (commit c p (stopStageTimer s))).settings = s.settings := by simp
  rw [booked_eq, sendReport, hsettings]
  exact OnlyChanges.append hflip (onlyChanges_sendUnsolicited _ _ _ _)

/-! ## The event (R119) -/

/-- A delivery up to its selection pass (R119). -/
def delivered (c : Current) (p : Packet) (s : State) : State :=
  departed s.fin.unit.isSuspendPending c.key .delivered (booked c p s)

theorem onEjectDone_eq (hrun : s.fin.unit.running = some .eject) (hc : s.fin.current = some c) (hp : s.packet c.key = some p) :
    onEjectDone s = endEvent s { relief := false, purge := false, pass := true } (delivered c p s) := by
  rw [onEjectDone, currentIn_eq_some hrun hc]
  dsimp only
  rw [hp]
  rfl

/-- An event that joins nothing ends with its own pass (R109). -/
theorem endEvent_of_pass {u : State} (hp : ∀ j, (u.packet j).isSome = true → (s.packet j).isSome = true) (hh : u.held = s.held) :
    endEvent s { relief := false, purge := false, pass := true } u = selectionPass u := by
  simp [endEvent, giftedSince_eq_false hp, heldSince_eq_false (s := s) (t := u) (by simp [hh])]

theorem delivered_departs (hk : ClassesKept s) (h : Agrees none none s) (hp : s.packet c.key = some p) :
    Departs c.key .delivered (booked c p s) (delivered c p s) := by
  have hrec : (booked c p s).classRec c.key.cls = s.classRec c.key.cls := classRec_congr (onlyChanges_booked c p s .classes (by simp)) _
  exact departed_departs (hrec ▸ hk _) (hrec ▸ h.active_of_packet hp) (by decide) _

theorem delivered_fin (c : Current) (p : Packet) (s : State) : (delivered c p s).fin
    = { unit := if s.fin.unit.isSuspendPending then .suspended else .idle, timer := none, current := none,
        supply := s.fin.supply } := by
  rw [delivered, departed_fin, booked_fin]

theorem dispositionBody_eq (p : Packet) (d n u : Nat) (stamp : BitVec 32) : dispositionBody p d n u stamp
    = [BitVec.ofNat 8 p.key.cls, p.generation, BitVec.ofNat 8 p.key.rank] ++ be16 p.jobTag.toNat
      ++ [BitVec.ofNat 8 d, BitVec.ofNat 8 p.flags.code, BitVec.ofNat 8 n, BitVec.ofNat 8 p.sheetsHeld] ++ be16 u ++ be32 stamp := by
  simp [dispositionBody, be8]

theorem classDoneBody_eq (c : Nat) (r : ClassRec) (stamp : BitVec 32) : classDoneBody c r stamp
    = [BitVec.ofNat 8 c, r.generation, BitVec.ofNat 8 r.size]
      ++ [RankState.delivered, .relieved, .missed, .excused].map (fun x => BitVec.ofNat 8 (r.countOf x)) ++ be32 stamp := by
  simp [classDoneBody, be8]

theorem ofNat_code (x : Target) : BitVec.ofNat 8 x.code = match x with | .bin b => BitVec.ofNat 8 b.val | .tray => 17#8 := by
  cases x <;> rfl

end

/-- Settles O52: the books of the delivery, then the departure of the packet. -/
theorem ejectDoneDeliversThePacket : Obligations.EjectDoneDeliversThePacket := by
  intro s
  refine ⟨fun h => ignored ?_, fun c p ht hk hrun hc hp => ?_⟩
  · refine congrArg Host.Outcome.next ?_
    rw [onEjectDone, currentIn_eq_none (s := beginEvent s) h]
  intro r complete report threshold full holds flags link sent
  have hb : Agrees none none (beginEvent s) := (agrees_of_towerKept ht).congr
  have hbooked := (OnlyChanges.append (onlyChanges_beginEvent s) (onlyChanges_booked c p (beginEvent s)))
  obtain ⟨htray, hflags, hstamp, -⟩ := booked_counts c p (beginEvent s)
  have hsettings : (booked c p (beginEvent s)).settings.reportLane = report := by simp [booked, report]
  have hlanes := booked_lane c p (beginEvent s)
  have hlinks : ∀ m, (booked c p (beginEvent s)).link m = if m = report then sentLink (link m) (flags != 0#12) .disposition
      (dispositionBody p c.target.code c.staplesPlaced c.units s.stamp) else link m := booked_link c p (beginEvent s)
  have hbins := booked_bin c p (beginEvent s)
  have hofbin := fun b (h : c.target = .bin b) => onlyChanges_booked_of_bin h p (beginEvent s)
  have hu := delivered_departs (s := beginEvent s) hk hb hp
  have hfin : (delivered c p (beginEvent s)).fin = { unit := (if s.fin.unit.isSuspendPending then .suspended else .idle),
                                                      timer := none, current := none, supply := s.fin.supply } :=
    delivered_fin c p (beginEvent s)
  have hpackets : ∀ j, (booked c p (beginEvent s)).packet j = s.packet j := packet_congr (hbooked .packets (by simp))
  have hranks : ∀ j, (booked c p (beginEvent s)).rankAt j = s.rankAt j := rankAt_congr (hbooked .classes (by simp))
  have hrecs : ∀ d, (booked c p (beginEvent s)).classRec d = s.classRec d := classRec_congr (hbooked .classes (by simp))
  have hlast : LastOfClass c.key (booked c p (beginEvent s)) ↔ complete :=
    lastOfClass_congr (hbooked .classes (by simp)) fun j _ => hpackets j
  have hbody := dispositionBody_eq p c.target.code c.staplesPlaced c.units s.stamp
  rw [ofNat_code, (mem_of_packet hp).2] at hbody
  have hsent : (booked c p (beginEvent s)).link report = sent :=
    (hlinks report).trans ((if_pos rfl).trans (congrArg _ hbody))
  have hall := OnlyChanges.append hbooked hu.frame
  have hexec : exec .ejectDone s = .next (onEjectDone (beginEvent s)) := rfl
  rw [onEjectDone_eq (s := beginEvent s) hrun hc hp,
    endEvent_of_pass (s := beginEvent s) (fun j hj => ?_) (hall .held (by simp))] at hexec
  refine ⟨delivered c p (beginEvent s), hexec, ?_, ?_, fun j => ?_, fun j => ?_, fun d hd => ?_, fun h => ?_,
    fun i => ?_, ?_, ?_, fun b hb => ?_, fun m => ?_, ?_, fun h => ?_, fun h => ?_⟩
  · rw [hu.frame .actions (by simp), onlyChanges_booked c p (beginEvent s) .actions (by simp)]
    rfl
  · rw [hfin]
    cases s.fin.unit <;> rfl
  · rw [hu.packets, hpackets]
  · rw [hu.ranks, hranks]
  · rw [hu.stages d (hd.imp_right fun e e' => e (hlast.mp e')), hrecs]
  · exact hu.done (hlast.mpr h)
  · rw [bin_congr (hu.frame .bins (by simp)), hbins]
    rfl
  · rw [hu.frame .tray (by simp), htray]
    rfl
  · exact hall.mono (by simp)
  · have hparts := hu.parts
    rw [hsettings] at hparts
    exact (OnlyChanges.append (onlyChanges_beginEvent s) (OnlyChanges.append (hofbin b hb) hparts)).mono (by simp [report])
  · rw [hu.lane, hlanes]
    rfl
  · have hne : otherLane report ≠ report := by cases report <;> nofun
    rw [hu.link_of_ne (hsettings ▸ hne), hlinks, if_neg hne]
  · obtain ⟨hf, hl⟩ := hu.quiet fun e => h (hlast.mp e)
    rw [hsettings] at hl
    exact ⟨hl.trans hsent, hf.trans hflags⟩
  · obtain ⟨hf, hl⟩ := hu.reported (hlast.mpr h)
    obtain ⟨hgen, hsize⟩ := hu.record
    rw [hsettings, hsent, attention_eq, hflags, classDoneBody_eq, hgen, hsize, hrecs, hstamp] at hl
    exact ⟨hf.trans (by rw [hflags]; rfl), hl⟩
  · rw [hu.packets] at hj
    split at hj
    · cases hj
    · rwa [hpackets] at hj

end Sys2Proof.Finishing

namespace Sys2Proof.Finishing

open Sys2Proof.Machine Sys2Proof.Safety Sys2Proof.ClassTable Sys2Proof.Requests Sys2Proof.Events Sys2Proof.Lanes Sys2Proof.Tower

/-! # Finisher Clear REMOVED (R122) -/

section
variable {s u : State} {c : Current} {p : Packet} {k : Key} {n : Fin 24} {l : Lane} {tag : Byte} {cause : UnitCause} {mark : Bool}

/-! ## A slot left with no key to give it to (R58, R73) -/

/-- A slot after the packet of a key has left it: FENCED where a fence was pending, FREE otherwise (R58). -/
def slotWithout (k : Key) : Slot → Slot
  | .occupied h m i => if i = k then (if m then .fenced else .free) else .occupied h m i
  | .free => .free
  | .fenced => .fenced

theorem slotWithout_of_other {x : Slot} (h : ∀ g m, x ≠ .occupied g m k) : slotWithout k x = x := by
  cases x with
  | occupied g m i => exact if_neg fun e => h g m (by rw [e])
  | free => rfl
  | fenced => rfl

theorem leaveSlot_of_nothing_given (h : Agrees none none s) (hp : s.packet k = some p) (hu : s.unplaced = [] ∨ s.slotOf k = none) :
    OnlyChanges [.packets, .slots] s (leaveSlot k s) ∧ (∀ j, j ≠ k → (leaveSlot k s).packet j = s.packet j)
      ∧ ∀ j, (leaveSlot k s).slot j = slotWithout k (s.slot j) := by
  cases hslot : s.slotOf k with
  | none =>
    have e : leaveSlot k s = s := by rw [leaveSlot, hslot]
    rw [e]
    refine ⟨.refl _ s, fun _ _ => rfl, fun j => (slotWithout_of_other fun g m hj => ?_).symm⟩
    cases hslot.symm.trans (h.occupied _ _ _ _ hj)
  | some n =>
    have hn : p.slot = some n := (slotOf_of_packet hp).symm.trans hslot
    obtain ⟨g, m, hs, -⟩ := h.slot_of_packet hp hn
    rw [leaveSlot_of_no_key_waiting hp hn hs (hu.resolve_right (by simp [hslot]))]
    refine ⟨onlyChanges_setSlot_slotLeft n _ k s, fun j hj => ?_, fun j => ?_⟩
    · rw [packet_congr (s := slotLeft k s) (by simp), packet_slotLeft, if_neg hj]
    · rw [slot_setSlot, slot_congr (s := s) (by simp [slotLeft])]
      split
      · rename_i e
        rw [e, hs, slotWithout, if_pos rfl]
      · rename_i hj
        refine (slotWithout_of_other fun g m he => hj ?_).symm
        cases hslot.symm.trans (h.occupied _ _ _ _ he)
        rfl

/-! ## The packet set aside (R122 steps 1 to 3) -/

theorem bin_unreserve (x : Target) (units : Nat) (s : State) (i : Fin 17) : (unreserve x units s).bin i
    = if x = .bin i then { s.bin i with reserved := (s.bin i).reserved - units } else s.bin i := by
  cases x with
  | tray => simp [unreserve]
  | bin b =>
    by_cases h : i = b
    · simp [unreserve, h]
    · simp [unreserve, h, Ne.symm h]

theorem onlyChanges_unreserve (x : Target) (units : Nat) (s : State) : OnlyChanges [.bins] s (unreserve x units s) := by
  cases x with
  | bin b => exact onlyChanges_setBins _ s
  | tray => exact .refl _ s

/-- The Disposition of a removed packet (R122, R126). -/
def removalBody (c : Current) (p : Packet) (s : State) : List Byte :=
  dispositionBody { p with flags := { p.flags with removed := true } } 18 c.staplesPlaced 0 s.stamp

theorem removalBody_eq (h : p.key = c.key) (s : State) : removalBody c p s
    = [BitVec.ofNat 8 c.key.cls, p.generation, BitVec.ofNat 8 c.key.rank] ++ be16 p.jobTag.toNat
      ++ [18#8, BitVec.ofNat 8 ({ p.flags with removed := true }).code, BitVec.ofNat 8 c.staplesPlaced,
          BitVec.ofNat 8 p.sheetsHeld] ++ [0#8, 0#8] ++ be32 s.stamp := by
  rw [removalBody, dispositionBody_eq, ← h]
  rfl

/-- What a removal does before the packet leaves the map (R122 steps 1 to 3). -/
structure SetAside (c : Current) (p : Packet) (s a : State) : Prop where
  packets : ∀ j, j ≠ c.key → a.packet j = s.packet j
  slots : ∀ j, a.slot j = slotWithout c.key (s.slot j)
  bins : ∀ i, a.bin i = if c.target = .bin i then { s.bin i with reserved := (s.bin i).reserved - c.units } else s.bin i
  link : a.link s.settings.reportLane = sentLink (s.link s.settings.reportLane) s.attention .disposition (removalBody c p s)
  parts : OnlyChanges [.packets, .bins, .slots, Part.link s.settings.reportLane] s a

theorem SetAside.frame {a : State} (h : SetAside c p s a) : OnlyChanges [.packets, .bins, .slots, .linkA, .linkB] s a :=
  h.parts.mono (by cases s.settings.reportLane <;> simp [Part.link])

theorem SetAside.link_of_ne {a : State} (h : SetAside c p s a) (hl : l ≠ s.settings.reportLane) : a.link l = s.link l :=
  link_of_onlyChanges_other (ps := [.packets, .bins, .slots]) h.parts (by simp) (by simp) hl

/-- The steps before the departure, where the slot goes to no key. -/
theorem setAside_setsAside (h : Agrees none none s) (hp : s.packet c.key = some p) (hu : s.unplaced = [] ∨ s.slotOf c.key = none) :
    SetAside c p s (setAside c p s) := by
  obtain ⟨v, hv⟩ : ∃ v, v = unreserve c.target c.units (updateFlags c.key (fun f => { f with removed := true }) s) := ⟨_, rfl⟩
  have hparts : OnlyChanges [.packets, .bins] s v :=
    hv ▸ OnlyChanges.append (onlyChanges_updateFlags c.key _ s) (onlyChanges_unreserve c.target c.units _)
  have hpackets : ∀ j, v.packet j = if j = c.key then some { p with flags := { p.flags with removed := true } } else s.packet j := by
    intro j
    rw [packet_congr (s := updateFlags c.key (fun f => { f with removed := true }) s) (by simp [hv]), packet_updateFlags, hp]
    rfl
  have hagrees : Agrees none none v := by
    rw [hv]
    exact (updateFlags_agrees (k := c.key) h fun f => { f with removed := true }).congr
  have hself := (hpackets c.key).trans (if_pos rfl)
  have hwait : v.unplaced = [] ∨ v.slotOf c.key = none := by
    rw [hparts .unplaced (by simp), slotOf_of_packet hself, ← slotOf_of_packet hp]
    exact hu
  obtain ⟨hleft, hothers, hslots⟩ := leaveSlot_of_nothing_given hagrees hself hwait
  have hall := OnlyChanges.append hparts hleft
  have e : setAside c p s = sendUnsolicited s.settings.reportLane .disposition (removalBody c p s) (leaveSlot c.key v) := by
    have hstamp : (leaveSlot c.key v).stamp = s.stamp := hall .stamp (by simp)
    have hsettings : (leaveSlot c.key v).settings = s.settings := congrArg Tables.settings (hall .tables (by simp))
    rw [setAside, ← hv, sendDisposition, sendReport, hstamp, hsettings]
    rfl
  rw [e]
  refine ⟨fun j hj => ?_, fun j => ?_, fun i => ?_, ?_, ?_⟩
  · rw [packet_congr (s := leaveSlot c.key v) (by simp), hothers j hj, hpackets, if_neg hj]
  · rw [slot_congr (s := leaveSlot c.key v) (by simp), hslots, slot_congr (hparts .slots (by simp))]
  · rw [bin_congr (s := v) (by simp), hv, bin_unreserve, bin_congr (s := s) (by simp)]
  · rw [sendUnsolicited_link, if_pos rfl, attention_congr (hall .flags (by simp)),
      Lanes.OnlyChanges.link hall (by cases s.settings.reportLane <;> simp [Part.link])]
  · exact (OnlyChanges.append hall (onlyChanges_sendUnsolicited _ _ _ _)).mono (by simp)

/-! ## The event (R122) -/

/-- An event with every occasion, outside a Purge (R86, R109). -/
theorem endEvent_of_relief_and_pass (hu : u.purge = .idle) (s : State) :
    endEvent s { relief := true, purge := true, pass := true } u = selectionPass (tryRelief u) := by
  have htest : purgeTest (tryRelief u) = tryRelief u := purgeTest_of_idle (by simpa using hu)
  simp [endEvent, htest]

theorem removeCurrent_eq (mark : Bool) (c : Current) (p : Packet) (s : State) :
    removeCurrent mark c p s = departed mark c.key .missed (setAside c p s) := rfl

end

/-- Settles O55: the packet is set aside, then it departs, then the request is answered. -/
theorem finisherClearRemovesThePacket : Obligations.FinisherClearRemovesThePacket := by
  intro l tag c p cause mark s ht hk hu hc hp hidle hwait r complete lane sent
  have hb : Agrees none none (frameCompleted l s) := (agrees_of_towerKept ht).congr
  have hp' : (frameCompleted l s).packet c.key = some p := (packet_congr (by simp) _).trans hp
  have hfin : (frameCompleted l s).fin = s.fin := by simp
  have hexec : exec (.finisherClearRemoved l tag []) s = .next (onFinisherClear l tag [1#8] (frameCompleted l s)) := rfl
  rw [onFinisherClear_removed (hfin ▸ hu) (hfin ▸ hc) hp', endEvent_of_relief_and_pass (by simp [hidle])] at hexec
  have ha := setAside_setsAside hb hp' (by rw [slotOf_congr (s := s) (by simp)]; simpa using hwait)
  have hbegun := OnlyChanges.append (onlyChanges_frameCompleted l s) ha.frame
  have haside : (setAside c p (frameCompleted l s)).fin = s.fin := (ha.frame .fin (by simp)).trans hfin
  have hclasses : (setAside c p (frameCompleted l s)).classes = s.classes := (ha.frame .classes (by simp)).trans (by simp)
  have hflags : (setAside c p (frameCompleted l s)).flags = s.flags := (ha.frame .flags (by simp)).trans (by simp)
  have hreport : (setAside c p (frameCompleted l s)).settings.reportLane = lane := by simp [setAside, lane]
  have hpackets : ∀ j, j ≠ c.key → (setAside c p (frameCompleted l s)).packet j = s.packet j := fun j hj =>
    (ha.packets j hj).trans (packet_congr (by simp) j)
  have hrecs : ∀ d, (setAside c p (frameCompleted l s)).classRec d = s.classRec d := classRec_congr hclasses
  have hlast : LastOfClass c.key (setAside c p (frameCompleted l s)) ↔ complete := lastOfClass_congr hclasses hpackets
  have hd : Departs c.key .missed (setAside c p (frameCompleted l s)) (removeCurrent mark c p (frameCompleted l s)) :=
    departed_departs (by rw [hrecs]; exact hk _) (by rw [hrecs]; exact (agrees_of_towerKept ht).active_of_packet hp)
      (by decide) mark
  have hunit := departed_fin mark c.key .missed (setAside c p (frameCompleted l s))
  rw [← removeCurrent_eq, haside] at hunit
  have hall := OnlyChanges.append hbegun hd.frame
  have hbody := removalBody_eq (mem_of_packet hp).2 s
  have hsent : (setAside c p (frameCompleted l s)).link lane
      = sentLink ((frameCompleted l s).link lane) s.attention .disposition (removalBody c p s) := by
    have h := ha.link
    have hlane : (frameCompleted l s).settings.reportLane = lane := by simp [lane]
    have hbefore : (frameCompleted l s).attention = s.attention := attention_congr (by simp)
    have hsame : removalBody c p (frameCompleted l s) = removalBody c p s := by simp [removalBody]
    rwa [hbefore, hsame, hlane] at h
  generalize removeCurrent mark c p (frameCompleted l s) = d at hexec hd hunit hall
  generalize setAside c p (frameCompleted l s) = a at ha hbegun haside hclasses hflags hreport hpackets hrecs hlast hd hall hsent
  refine ⟨_, hexec, ?_, ?_, fun j => ?_, fun j => ?_, fun i => ?_, fun j => ?_, fun i hi => ?_, fun h => ?_, fun h => ?_,
    fun h => ?_, ?_⟩
  · have hact : d.actions = [] := (hd.frame .actions (by simp)).trans ((ha.frame .actions (by simp)).trans (by simp))
    simp [hact]
  · rw [← hunit]
    simp
  · rw [packet_congr (s := d) (by simp), hd.packets]
    by_cases hj : j = c.key
    · simp [hj]
    · simp [hj, hpackets j hj]
  · rw [rankAt_congr (s := d) (by simp), hd.ranks, rankAt_congr hclasses]
  · rw [bin_congr (s := d) (by simp), bin_congr (hd.frame .bins (by simp)), ha.bins, bin_congr (s := s) (by simp)]
  · rw [slot_congr (s := d) (by simp), slot_congr (hd.frame .slots (by simp)), ha.slots, slot_congr (s := s) (by simp)]
    cases s.slot j <;> rfl
  · rw [classRec_congr (s := d) (by simp), hd.stages i (hi.imp_right fun e e' => e (hlast.mp e')), hrecs]
  · rw [classRec_congr (s := d) (by simp), hd.done (hlast.mpr h)]
  · obtain ⟨hf, hl⟩ := hd.quiet fun e => h (hlast.mp e)
    rw [hreport] at hl
    have hsame : d.flags = s.flags := hf.trans hflags
    have hdisposed := hl.trans hsent
    refine ⟨by simp [hsame], fun hne => ⟨?_, answers_reply ?_ hsame ..⟩, fun he => ?_⟩
    · rw [reply_link, if_neg (Ne.symm hne), hdisposed, frameCompleted_link, if_neg (Ne.symm hne), hbody]
    · rw [hd.link_of_ne (hreport ▸ hne), ha.link_of_ne (by simpa using hne)]
    · rw [reply_link, if_pos he.symm, he, hdisposed, frameCompleted_link, if_pos he.symm, attention_congr hsame, he, hbody]
      rfl
  · obtain ⟨hf, -⟩ := hd.reported (hlast.mpr h)
    simp [hf, hflags]
  · have hreplied := OnlyChanges.append hall (onlyChanges_reply l tag .ok 0x21#8 [] d)
    exact hreplied.mono (by cases l <;> simp [Part.link])

end Sys2Proof.Finishing
